-- ==== Sys2Proof/Word.lean ====
section
/-! DEFINITION. The words of the spec and their plainest arithmetic: bytes, ring indices and the time base, with the two
distances that the spec's number conventions give (00_scope.md, "Number and unit conventions"). -/

namespace Sys2Proof

/-- A byte of page memory, of a record or of a supply frame. -/
abbrev Byte := BitVec 8

/-- A 16-bit free-running number that wraps from 65,535 to 0: ring indices, event sequences and job generations
(00_scope.md). -/
abbrev Index := BitVec 16

/-- A value of the 32-bit millisecond time base (00_scope.md). -/
abbrev Time := BitVec 32

/-- The span from a time-base value `r` to a later value `t`: (t − r) modulo 2^32 (00_scope.md). -/
def span (t r : Time) : Nat := (t - r).toNat

/-- The distance between two ring indices, `a` minus `b`, modulo 65,536 (00_scope.md). -/
def ringDistance (a b : Index) : Nat := (a - b).toNat

end Sys2Proof
end

