-- ==== Sys2Proof/Config.lean ====
section
/-! DEFINITION. What the spec leaves to the part's internal construction or to its random source: opaque constants, of which
nothing can be proved but what their types say. Log entries 2, 3, 4 and 5. -/

namespace Sys2Proof

/-- A job key, named by the draw of the part's random source that gave it (R45). The spec gives a key no width and no value:
two keys are the same key exactly when they are the same draw, and a draw is never taken twice. DESIGN CHOICE, log entry 2. -/
structure Key where
  draw : Nat
  deriving DecidableEq, Repr

/-- A model key of the model key table, named by a number (R130). The spec gives it no width. Log entry 3. -/
structure ModelKey where
  id : Nat
  deriving DecidableEq, Repr

/-- The tweak of one 16-byte block of a line (R27). -/
structure Tweak where
  generation : Index
  block      : Nat
  line       : Nat
  part       : Nat
  deriving DecidableEq, Repr

/-- The six values that a cartridge frame's tag is a keyed function of (R130). -/
structure TagInput where
  kind      : Byte
  nonce     : BitVec 64
  serial    : BitVec 48
  model     : BitVec 16
  capacity  : Nat
  dispensed : Nat
  deriving DecidableEq, Repr

/-- The tweakable block cipher of R27, on 128-bit blocks. Its internal construction is out of scope (00_scope.md, "Scope").
That it is a permutation for every key and tweak says that decipher undoes encipher and encipher undoes decipher. -/
opaque Config.lineCipher : Key → Tweak → Equiv.Perm (BitVec 128)

/-- The tag function of R130. Its internal construction is out of scope (00_scope.md, "Scope"). -/
opaque Config.tagFunction : ModelKey → TagInput → BitVec 64

/-- The nonces that the part's random source gives, one for each draw (R125). A free value: log entry 4. -/
opaque Config.nonceSource : Nat → BitVec 64

/-- The byte that a read beyond the fitted DRAM returns, for each read and address: "bytes that the part does not define"
(R38). A free value: log entry 5. -/
opaque Config.unfittedByte : Nat → Nat → Byte

end Sys2Proof
end

