-- ==== Sys2Proof/Syntax.lean ====
section
/-! DEFINITION. The commands of the PX-340: one constructor of `Instr` for each row of spec/opcode_table.json, with the
operands that the outside world supplies at that step.

An ORDER row (BIND FRAMES to RECOVER, and UNKNOWN ORDER) has no operand of its own: the step is the performance of the
order's fetch and its take (R156), and its parameters are the bytes of the order slot that the fetch finds in page memory
(R154, R180). The rows' `fields` in the table are empty for the same reason. -/

namespace Sys2Proof

/-- The engine that made a transfer, named by its 3-bit source tag (00_scope.md, "Sources"; R19). -/
inductive Source
  | cpu | scan | print | codec | store | net | fax | spare
  deriving DecidableEq, Repr

/-- A plane of a page, a supply slot or a size class: 0 to 3. Planes and slots are K, C, M, Y in that order, and slot n holds
the cartridge of plane n (00_scope.md). -/
abbrev Plane := Fin 4

/-- The direction and the body of a transfer (R19). A write carries, for every byte of its lines, the byte if its enable is
set and `none` if it is not. No rule uses the data of a byte whose enable is clear. -/
inductive Access
  | read (lines : Nat)
  | write (bytes : List (Option Byte))
  deriving DecidableEq, Repr

/-- A transfer as the Controller Link Port accepts it (R19): source tag, start address, and the direction with its line count,
enables and data. -/
structure Transfer where
  source : Source
  addr   : BitVec 32
  access : Access
  deriving DecidableEq, Repr

/-- One of the five lines that the Supply Unit debounces (R120): the presence line of a slot, or the door line. -/
inductive Line
  | presence (slot : Plane)
  | door
  deriving DecidableEq, Repr

/-- One byte as it travels on a supply link: eight data bits and a parity bit (R182). -/
structure LinkChar where
  data   : Byte
  parity : Bool
  deriving DecidableEq, Repr

/-- What a reset or a power loss finds half done. `storeCommits`: the meter-store write in progress commits whole, or not at
all (R108). `linesPerformed`: bit n is set when line n of the link write in progress had been performed (R23, R38), and bit 0 when the
scrub line in progress had (R151). -/
structure ResetCut where
  storeCommits   : Bool
  linesPerformed : BitVec 8
  deriving DecidableEq, Repr

/-- The commands of the part, one for each row of spec/opcode_table.json, in the table's order. -/
inductive Instr
  | powerOn (cut : ResetCut)
  | warmReset (cut : ResetCut)
  | transferAccept (t : Transfer)
  | memoryGrant
  | linkAccessPerformed
  | scrubLinePerformed
  | orderFetch
  | unknownOrder
  | bindFrames
  | releaseFrames
  | setView
  | openJob
  | closeJob
  | purgeJob
  | definePage
  | ticketPage
  | unticketPage
  | dropPage
  | setWeights
  | setColourThreshold
  | setAccount
  | setTariff
  | rollPeriod
  | creditAccount
  | readAccount
  | probeSlot
  | readSlot
  | setSupply
  | setAttention
  | start
  | startService
  | endService
  | keepalive
  | recover
  | eventWritePerformed
  | headerWritePerformed
  | stallTimerExpiry (page : Nat)
  | provisioningTimerExpiry
  | ctlrstPulseEnd
  | keepaliveExpiry
  | pfwChange (asserted : Bool)
  | lineRawChange (line : Line) (level : Bool)
  | lineSettleExpiry (line : Line)
  | probeDelayExpiry (slot : Plane)
  | reprobeTimerExpiry (slot : Plane)
  | supplyFrameSent (slot : Plane)
  | supplyFrameReceived (slot : Plane) (chars : List LinkChar)
  | answerWindowExpiry (slot : Plane)
  | storeWriteDone (readsBack : Bool)
  | resetnRelease
  | powerLoss (cut : ResetCut)
  deriving DecidableEq, Repr

end Sys2Proof
end

