-- ==== Sys2Proof/Machine/State.lean ====
section
/-! DEFINITION. The state of the PX-340 as plain data, unit by unit as the spec's chapters give it, the page memory and the
board lines that the part sees, the queue of waiting commands, and the state right after a power-on. -/

namespace Sys2Proof.Machine

/-! ## Small collections -/

/-- Four like things, one for each plane, slot or size class. -/
structure Quad (α : Type) where
  q0 : α
  q1 : α
  q2 : α
  q3 : α
  deriving DecidableEq, Repr

/-- Four times the same value. -/
def Quad.all {α : Type} (a : α) : Quad α := ⟨a, a, a, a⟩

/-- The member of number `i`. -/
def Quad.get {α : Type} (q : Quad α) (i : Plane) : α :=
  match i with
  | 0 => q.q0
  | 1 => q.q1
  | 2 => q.q2
  | 3 => q.q3

/-- The four with member `i` replaced. -/
def Quad.set {α : Type} (q : Quad α) (i : Plane) (a : α) : Quad α :=
  match i with
  | 0 => { q with q0 := a }
  | 1 => { q with q1 := a }
  | 2 => { q with q2 := a }
  | 3 => { q with q3 := a }

/-- A table of many like records, of which most hold the same value: the numbered records that differ from the table's
default, numbers strictly rising. An unlisted number holds the default. -/
abbrev Table (α : Type) := List (Nat × α)

/-! ## Frames and views (chapter 01) -/

/-- The job slot, logical block and page slot of a BOUND frame (R1). -/
structure Binding where
  job   : Nat
  block : Nat
  page  : Option Nat
  deriving DecidableEq, Repr

/-- The state of a frame entry (R1). The job slot and the logical block are present in BOUND alone. -/
inductive FrameState
  | control
  | opened
  | bound (b : Binding)
  | retired
  | scrubbing
  deriving DecidableEq, Repr

/-- An entry of the Frame Table (R1): its state and the breach-noted flag. -/
structure FrameEntry where
  state : FrameState
  noted : Bool
  deriving DecidableEq, Repr

/-- The class of a frame (R5). -/
inductive FrameClass
  | control | opened | shared | priv | retired
  deriving DecidableEq, Repr

/-- A view (R8). -/
inductive View
  | pass | plain | cipher | blank | metered
  deriving DecidableEq, Repr

/-- The row of the View Table for one class: a view for each source (R7). -/
structure ViewRow where
  cpu   : View
  scan  : View
  print : View
  codec : View
  store : View
  net   : View
  fax   : View
  spare : View
  deriving DecidableEq, Repr

/-- The View Table: 5 classes by 8 sources (R7). -/
structure ViewTable where
  control : ViewRow
  opened  : ViewRow
  shared  : ViewRow
  priv    : ViewRow
  retired : ViewRow
  deriving DecidableEq, Repr

/-- The Frame Table and the memory size (R1, R3); `size` is none while the memory size is unset. -/
structure Frames where
  entries : Table FrameEntry
  size    : Option Nat
  deriving DecidableEq, Repr

/-! ## Jobs (chapter 03) -/

/-- A job's privacy (R39). -/
inductive Privacy
  | shared | priv
  deriving DecidableEq, Repr

/-- What OPEN JOB fixes for an opening of a job slot (R39). -/
structure Opening where
  account        : Nat
  privacy        : Privacy
  scrubOnRelease : Bool
  deriving DecidableEq, Repr

/-- The state of a job record with the fields that are present in it (R39). -/
inductive JobState
  | free
  | active (o : Opening)
  | closing (o : Opening) (deferredClose : Index)
  deriving DecidableEq, Repr

/-- The key slot of a job record (R40). -/
inductive KeySlot
  | empty
  | loaded (k : Key)
  | draining (k : Key)
  deriving DecidableEq, Repr

/-- A job record (R39). -/
structure Job where
  state      : JobState
  generation : Index
  key        : KeySlot
  bound      : Nat
  dropped    : Nat
  aborted    : Nat
  deriving DecidableEq, Repr

/-! ## Pages (chapters 04 and 05) -/

/-- A declared or measured colour (R57, R85). -/
inductive Colour
  | mono | colour
  deriving DecidableEq, Repr

/-- Why a page is withheld (R68). -/
inductive WithheldReason
  | mode | power | job | supply | account | allowance | meter
  deriving DecidableEq, Repr

/-- How a page ended (R78). -/
inductive Outcome
  | printed | stalled | aborted | withheld
  deriving DecidableEq, Repr

/-- The captured tariffs of a page and its provisional charge (R57). A page that holds them holds one journal reservation. -/
structure Capture where
  mono        : Nat
  colour      : Nat
  provisional : Nat
  deriving DecidableEq, Repr

/-- The state of a live page with the fields that are present in it (R57). -/
inductive PageState
  | staged
  | ticketed (c : Capture)
  | printing (c : Capture) (progress : Time)
  | withheld (r : WithheldReason) (progress : Time)
  deriving DecidableEq, Repr

/-- A live page record (R57) with its level-dot sums (R84). A plane that the page does not have keeps 0 in the four-fold
fields. -/
structure Page where
  state     : PageState
  job       : Nat
  generation : Index
  number    : Nat
  sizeClass : Plane
  colour    : Colour
  pixels    : Nat
  starts    : Quad Nat
  highWater : Quad Nat
  gapPosted : Bool
  sums      : Quad Nat
  deriving DecidableEq, Repr

/-- The coverage settings (R82). -/
structure CoverageSettings where
  weights   : Quad Nat
  overheads : Quad Nat
  threshold : Nat
  deriving DecidableEq, Repr

/-- The Coverage Unit: its settings in use and the slots' residues (R82, R87). -/
structure Coverage where
  settings : CoverageSettings
  residues : Quad Nat
  deriving DecidableEq, Repr

/-! ## Accounts and the meter store (chapter 06) -/

/-- The state of an account (R96). -/
inductive AccountState
  | unused | active | suspended
  deriving DecidableEq, Repr

/-- An account's settings block (R108). -/
structure AccountSettings where
  state : AccountState
  limit : Nat
  deriving DecidableEq, Repr

/-- The persistent counts of an account (R96). -/
structure Counts where
  settled        : Nat
  lastPeriod     : Nat
  lifetimeClicks : Nat
  monoPages      : Nat
  colourPages    : Nat
  deriving DecidableEq, Repr

/-- An account in use (R96). -/
structure Account where
  settings : AccountSettings
  counts   : Counts
  inflight : Nat
  held     : Nat
  deriving DecidableEq, Repr

/-- An account's counts block as stored, with its last-folded sequence (R108). -/
structure CountsBlock where
  counts     : Counts
  lastFolded : Nat
  deriving DecidableEq, Repr

/-- A figure for each measured or declared colour. -/
structure ByColour where
  mono   : Nat
  colour : Nat
  deriving DecidableEq, Repr

/-- The device totals (R113): pages by size class and measured colour, and clicks. -/
structure Totals where
  pages  : Quad ByColour
  clicks : Nat
  deriving DecidableEq, Repr

/-- The device totals block as stored, with its last-folded sequence (R108). -/
structure TotalsBlock where
  totals     : Totals
  lastFolded : Nat
  deriving DecidableEq, Repr

/-- The body of a journal entry (R106). -/
inductive EntryBody
  | settle (account : Nat) (sizeClass : Plane) (measured : Colour) (clicks : Nat) (outcome : Outcome)
  | credit (account : Nat) (clicks : Nat)
  | roll
  deriving DecidableEq, Repr

/-- A journal entry (R106). -/
structure Entry where
  sequence : Nat
  body     : EntryBody
  deriving DecidableEq, Repr

/-- The supply settings (R135). -/
structure SupplySettings where
  quantum : Nat
  lowMark : Nat
  deriving DecidableEq, Repr

/-- An entry of the seen list (R132). -/
structure SeenEntry where
  serial : BitVec 48
  floor  : Nat
  owed   : Nat
  deriving DecidableEq, Repr

/-- A block of the record area that is written in the background (R108, R109). -/
inductive Block
  | accountSettings (account : Nat)
  | tariff
  | coverage
  | supplySettings
  | seenList
  deriving DecidableEq, Repr

/-- A store write in progress (R108, R110): a dirty block, or a fold write of the head entry that covers an account's counts
block, the device totals block, or both. -/
inductive StoreWrite
  | block (b : Block)
  | fold (e : Entry) (account : Option Nat) (totals : Bool)
  deriving DecidableEq, Repr

/-- The meter store (R106, R108): the journal area and the record area. It is non-volatile. -/
structure Store where
  journal  : List Entry
  lastSeq  : Nat
  counts   : Table CountsBlock
  settings : Table AccountSettings
  totals   : TotalsBlock
  tariff   : Quad ByColour
  coverage : CoverageSettings
  supply   : SupplySettings
  seen     : List SeenEntry
  deriving DecidableEq, Repr

/-- The Meter Unit's values in use and its writer (R96, R100, R107, R109, R110, R113, R117). `write` holds the write in
progress and its attempt, 1 or 2. -/
structure Meter where
  accounts     : Table Account
  tariff       : Quad ByColour
  totals       : Totals
  reservations : Nat
  dirty        : List Block
  write        : Option (StoreWrite × Nat)
  lastWasFold  : Bool
  failed       : Bool
  foldReported : Bool
  deriving DecidableEq, Repr

/-! ## Supply (chapter 07) -/

/-- Why a slot is REJECTED (R118). -/
inductive RejectReason
  | model | plane | tag | capacity | rollback | count
  deriving DecidableEq, Repr

/-- The state of a slot (R118, R119). -/
inductive SlotState
  | absent
  | unknown
  | probing
  | verified
  | suspect
  | rejected (r : RejectReason)
  | exhausted
  deriving DecidableEq, Repr

/-- The cartridge fields of a slot (R118). -/
structure Cartridge where
  serial    : BitVec 48
  model     : BitVec 16
  capacity  : Nat
  dispensed : Nat
  flags     : Byte
  deriving DecidableEq, Repr

/-- The exchange in flight on a slot, with the fields that are present in it (R118). `capped` says that the target equals the
capacity and was less than dispensed + pending at the exchange's start (R137, step 3). -/
inductive Exchange
  | none
  | ident (attempt : Nat) (nonce : BitVec 64)
  | debit (attempt : Nat) (nonce : BitVec 64) (target : Nat) (capped : Bool)
  deriving DecidableEq, Repr

/-- A frame of the part on a supply link. `live` is cleared when its attempt is abandoned: the frame is then sent to its end and
any answer to it is discarded (R126). -/
structure Sending where
  chars : List LinkChar
  live  : Bool
  deriving DecidableEq, Repr

/-- A slot record (R118) with the slot's timers (R123, R124, R128), each the time at which it was started. -/
structure Slot where
  state        : SlotState
  cartridge    : Option Cartridge
  pending      : Nat
  clamped      : Bool
  lowWarned    : Bool
  lastDecline  : Option Byte
  exchange     : Exchange
  retryWaiting : Bool
  probeDelay   : Option Time
  reprobe      : Option Time
  window       : Option Time
  sending      : List Sending
  deriving DecidableEq, Repr

/-- An entry of the model key table (R130). -/
structure ModelEntry where
  model   : BitVec 16
  plane   : Plane
  key     : ModelKey
  ceiling : Nat
  deriving DecidableEq, Repr

/-- The Supply Unit (07): slots, settled levels and settle timers of the five lines, seen list in use, settings in use, model key
table. A presence level is true when high, the door level true when closed. -/
structure Supply where
  slots          : Quad Slot
  presence       : Quad Bool
  doorClosed     : Bool
  presenceTimers : Quad (Option Time)
  doorTimer      : Option Time
  seen           : List SeenEntry
  settings       : SupplySettings
  models         : List ModelEntry
  deriving DecidableEq, Repr

/-! ## The transfer path and the Memory Port (chapter 02) -/

/-- One part of a transfer (R21). -/
structure Part where
  source : Source
  addr   : Nat
  access : Access
  deriving DecidableEq, Repr

/-- The record of a part in service, formed at its take (R22). -/
structure PartRecord where
  frame      : Nat
  inRange    : Bool
  cls        : Option FrameClass
  view       : Option View
  job        : Option Nat
  generation : Option Index
  block      : Option Nat
  page       : Option Nat
  key        : Option Key
  breach     : Bool
  deriving DecidableEq, Repr

/-- A memory access of a link grant (R36): the read of a part's lines, the inserted read of a read-merge-write (R30), or a
write of bytes under their enables. -/
inductive LinkAccess
  | read
  | mergeRead
  | write (bytes : List (Option Byte))
  deriving DecidableEq, Repr

/-- Where the part in service stands: it asks for its link grant, or an access of its grant is in progress. -/
inductive Phase
  | asking (a : LinkAccess)
  | performing (a : LinkAccess)
  deriving DecidableEq, Repr

/-- The part in service (R22, R23): its record, the upper part still to be taken (R21), the read data of the parts already
served, and the snooped values to hand over when its write has been performed (R35). -/
structure Service where
  part       : Part
  record     : PartRecord
  phase      : Phase
  rest       : List Part
  data       : List Byte
  post       : Option Index
  consume    : Option Index
  deriving DecidableEq, Repr

/-- An answer on the controller link (R20). -/
inductive LinkAnswer
  | data (bytes : List Byte)
  | completion
  deriving DecidableEq, Repr

/-- The Transfer Filter (R23, R34). `answer` is the answer that last left on the link (log entry 25). -/
structure Filter where
  service       : Option Service
  postShadow    : Index
  consumeShadow : Index
  answer        : Option LinkAnswer
  deriving DecidableEq, Repr

/-! ## Orders and events (chapter 09) -/

/-- A device state (R168). -/
inductive DeviceState
  | provision | run | service | lockdown
  deriving DecidableEq, Repr

/-- A result code (R178). -/
inductive Code
  | done | pending | aborted | format | mode | range | stale | state | busy | late | pinned | account | allowance | supply
  | meter | overlap
  deriving DecidableEq, Repr

/-- The answer area of an order and its presence marks (R180). -/
structure AnswerData where
  items : List Byte
  marks : Byte
  deriving DecidableEq, Repr

/-- An order's result (R158). -/
structure Answer where
  code   : Code
  detail : Nat
  data   : Option AnswerData
  deriving DecidableEq, Repr

/-- Why a job was released (R55). -/
inductive ReleaseCause
  | close | purge | lockdown
  deriving DecidableEq, Repr

/-- Why the device state changed (R168). -/
inductive StateCause
  | start | startService | endService | keepaliveEarly | keepaliveMissed | recover
  deriving DecidableEq, Repr

/-- How a frame left the scrub queue (R149). -/
inductive ScrubHow
  | scrubbed | removed
  deriving DecidableEq, Repr

/-- The snapshot of the six lines that bear on supply (R120). -/
structure LineSnapshot where
  presence   : Quad Bool
  doorClosed : Bool
  pfw        : Bool
  deriving DecidableEq, Repr

/-- What a STORE_FAULT names (R110, R178): a background block, an account's counts block, or the device totals block. -/
inductive FaultBlock
  | background (b : Block)
  | counts (account : Nat)
  | totals
  deriving DecidableEq, Repr

/-- An event with its payload (R164, R181). -/
inductive Event
  | pageWithheld (page job account number : Nat) (sizeClass : Plane) (declared : Colour) (reason : WithheldReason)
      (wasTicketed : Bool)
  | pageSettled (page job account : Nat) (outcome : Outcome) (number : Nat) (measured : Colour) (clicks : Nat)
      (permille debits : Quad Nat)
  | pageGap (page job number : Nat) (plane : Plane) (highWater offset : Nat)
  | viewBreach (source : Source) (frame : Nat) (write : Bool) (cls : FrameClass) (view : View)
  | rangeBreach (source : Source) (frame : Nat) (write : Bool) (size : Nat)
  | jobReleased (job : Nat) (generation : Index) (account : Nat) (cause : ReleaseCause)
      (retired opened dropped aborted : Nat)
  | scrubIdle (scrubbed removed lastFrame : Nat) (how : ScrubHow)
  | slotChange (slot : Plane) (old new : SlotState) (cartridge : Option (BitVec 48 × BitVec 16)) (gauge : Option Nat)
      (clamped : Bool)
  | supplyLow (slot : Plane) (serial : BitVec 48) (gauge capacity threshold : Nat)
  | lines (snapshot : LineSnapshot)
  | stateChange (old new : DeviceState) (cause : StateCause) (cold : Bool)
  | provisionExpired (windows : Nat) (cold : Bool) (entries : Nat)
  | ringFaultPost (written held take : Index)
  | ringFaultConsume (written held produced : Index)
  | storeFault (block : FaultBlock) (sequence entries : Nat)
  | meterFull (entries reservations : Nat) (failed : Bool)
  | overrun (kind : Nat) (alarm : Bool)
  deriving DecidableEq, Repr

/-- A record of the event ring as it was posted (R161). -/
structure EventRecord where
  index    : Index
  sequence : Index
  stamp    : Time
  event    : Event
  deriving DecidableEq, Repr

/-- The part-owned words of the control header (R152, R179). `slots` holds the state-word bytes of slots 0 to 3. -/
structure HeaderWords where
  take    : Index
  produce : Index
  device  : DeviceState
  cold    : Bool
  slots   : Quad Byte
  free    : Nat
  deriving DecidableEq, Repr

/-- An access of the Order Unit (R36): an order fetch, an answer write, an event write, or a header write, whole at a reset
(R152). -/
inductive ControlAccess
  | fetch (index : Index)
  | answer (index : Index) (a : Answer)
  | event (r : EventRecord)
  | header (whole : Bool) (words : HeaderWords)
  deriving DecidableEq, Repr

/-- What the Memory Port is performing (R37). `live` is cleared when START abandons the scrub of the frame (R150). -/
inductive Grant
  | link
  | control (a : ControlAccess)
  | scrub (frame line : Nat) (live : Bool)
  deriving DecidableEq, Repr

/-- The Memory Port (R36, R37). The first four accesses of `control` are the control queue; those behind them wait in the Order
Unit in the same order (log entry 13). -/
structure Port where
  grant      : Option Grant
  guardCount : Nat
  control    : List ControlAccess
  deriving DecidableEq, Repr

/-- What a deferred order waits on (R159). -/
inductive DeferredObject
  | closeJob (job : Nat)
  | probeSlot (slot : Plane)
  | start
  deriving DecidableEq, Repr

/-- An entry of the deferred list (R159). -/
structure Deferred where
  index  : Index
  object : DeferredObject
  deriving DecidableEq, Repr

/-- The order ring's side of the Order Unit (R152, R155, R159). `lastHeader` holds the words of the last header write placed. -/
structure Orders where
  heldPost   : Index
  take       : Index
  fetching   : Bool
  deferred   : List Deferred
  lastHeader : HeaderWords
  deriving DecidableEq, Repr

/-- An ATTN mode (R165). -/
inductive AttnMode
  | off | each | batch | alarmOnly | first
  deriving DecidableEq, Repr

/-- The event ring's side of the Order Unit and the ATTN line (R161, R165, R166). -/
structure Events where
  produce   : Index
  consume   : Index
  written   : Index
  nextSeq   : Index
  lastAlarm : Option Index
  mode      : AttnMode
  latch     : Bool
  armed     : Bool
  attn      : Bool
  deriving DecidableEq, Repr

/-! ## Scrubbing and supervision (chapters 08 and 10) -/

/-- The Scrub Engine (R144, R146, R147, R149). -/
structure Scrub where
  queue    : List Nat
  progress : Option Nat
  offered  : Bool
  scrubbed : Nat
  removed  : Nat
  deriving DecidableEq, Repr

/-- The controller-reset request line (R168). A pulse keeps the time at which it began. -/
inductive Ctlrst
  | deasserted
  | pulsing (since : Time)
  | held
  deriving DecidableEq, Repr

/-- The supervision record (R168). -/
structure Supervision where
  device       : DeviceState
  cold         : Bool
  provTimer    : Option Time
  windowCount  : Nat
  startWaiting : Option Index
  period       : Nat
  stallSeconds : Nat
  keepalive    : Option Time
  ctlrst       : Ctlrst
  pfw          : Bool
  deriving DecidableEq, Repr

/-- Whether the part has power and is out of reset (R108, R177). -/
inductive Power
  | on | held | off
  deriving DecidableEq, Repr

/-- The raw levels of the board lines: presence high, door closed, PFW asserted (11.7). -/
structure Lines where
  presence   : Quad Bool
  doorClosed : Bool
  pfw        : Bool
  deriving DecidableEq, Repr

/-- The whole state. `pending`, `keyDraws`, `nonceDraws`, `openReads` and `fittedFrames` are the model's own (INVENTORY.md). -/
structure State where
  pending      : List Instr
  power        : Power
  time         : Time
  mem          : List Host.Cell
  fittedFrames : Nat
  lines        : Lines
  keyDraws     : Nat
  nonceDraws   : Nat
  openReads    : Nat
  filter       : Filter
  port         : Port
  frames       : Frames
  views        : ViewTable
  jobs         : Table Job
  pages        : Table (Option Page)
  coverage     : Coverage
  meter        : Meter
  store        : Store
  supply       : Supply
  scrub        : Scrub
  orders       : Orders
  events       : Events
  sup          : Supervision
  deriving DecidableEq, Repr

/-- The faults that a meaning can stop with: none. No rule of the spec stops the part with a fault. -/
inductive Fault
  deriving DecidableEq, Repr

/-- The refusals. -/
inductive Refusal
  /-- Raised by an arm of `exec` whose command has no meaning yet. Safe: nothing is claimed of it. No arm raises it. -/
  | notModelled (mnemonic : String)
  deriving DecidableEq, Repr

/-! ## The state after reset -/

/-- An OPEN frame with no breach noted: the default of the Frame Table (R6). -/
def FrameEntry.free : FrameEntry := ⟨.opened, false⟩

/-- A FREE job record at a reset: the default of the Job Table (R42). -/
def Job.fresh : Job := ⟨.free, 0, .empty, 0, 0, 0⟩

/-- Account counts at manufacture (R96). -/
def Counts.zero : Counts := ⟨0, 0, 0, 0, 0⟩

/-- An account at manufacture: UNUSED with limit 0 and every count 0 (R96). -/
def Account.blank : Account := ⟨⟨.unused, 0⟩, Counts.zero, 0, 0⟩

/-- An account's counts block at manufacture (R96). -/
def CountsBlock.blank : CountsBlock := ⟨Counts.zero, 0⟩

/-- An account's settings block at manufacture (R96). -/
def AccountSettings.blank : AccountSettings := ⟨.unused, 0⟩

/-- Device totals of 0 (R113). -/
def Totals.zero : Totals := ⟨Quad.all ⟨0, 0⟩, 0⟩

/-- The tariff at manufacture (R100). -/
def defaultTariff : Quad ByColour := ⟨⟨1, 4⟩, ⟨1, 5⟩, ⟨2, 8⟩, ⟨3, 12⟩⟩

/-- The coverage settings at manufacture (R82). -/
def CoverageSettings.default : CoverageSettings := ⟨Quad.all 16535, Quad.all 2, 33⟩

/-- The supply settings at manufacture (R135). -/
def SupplySettings.default : SupplySettings := ⟨64, 50⟩

/-- The meter store at manufacture (R82, R96, R100, R106, R113, R135). The empty seen list is a DESIGN CHOICE, log entry 29. -/
def Store.manufactured : Store :=
  { journal := [], lastSeq := 0, counts := [], settings := [], totals := ⟨Totals.zero, 0⟩, tariff := defaultTariff,
    coverage := CoverageSettings.default, supply := SupplySettings.default, seen := [] }

/-- The View Table's defaults (R9). -/
def ViewTable.default : ViewTable :=
  { control := ⟨.pass, .blank, .blank, .blank, .blank, .blank, .blank, .blank⟩
    opened  := ⟨.pass, .pass, .blank, .pass, .pass, .pass, .pass, .blank⟩
    shared  := ⟨.pass, .pass, .metered, .pass, .pass, .pass, .pass, .blank⟩
    priv    := ⟨.blank, .plain, .metered, .plain, .cipher, .blank, .plain, .blank⟩
    retired := ⟨.blank, .blank, .blank, .blank, .blank, .blank, .blank, .blank⟩ }

/-- A slot record at a reset with its presence line low (R119). -/
def Slot.absentFresh : Slot :=
  { state := .absent, cartridge := none, pending := 0, clamped := false, lowWarned := false, lastDecline := none,
    exchange := .none, retryWaiting := false, probeDelay := none, reprobe := none, window := none, sending := [] }

/-- The part-owned header words of a power-on with every slot ABSENT and an empty journal (R152). -/
def HeaderWords.powerOn : HeaderWords :=
  { take := 0, produce := 0, device := .provision, cold := true, slots := Quad.all 0, free := 64 }

/-- The supervision record after a power-on with PFW low (R168). -/
def Supervision.powerOn : Supervision :=
  { device := .provision, cold := true, provTimer := some 0, windowCount := 0, startWaiting := none, period := 1000,
    stallSeconds := 30, keepalive := none, ctlrst := .deasserted, pfw := false }

/-- The machine right after a power-on, as it left manufacture, with every board line low (log entries 3, 5, 6, 8 and 29 name
the values the spec does not give). -/
def State.reset : State :=
  { pending := []
    power := .on
    time := 0
    mem := []
    fittedFrames := 4096
    lines := ⟨Quad.all false, false, false⟩
    keyDraws := 0
    nonceDraws := 0
    openReads := 0
    filter := { service := none, postShadow := 0, consumeShadow := 0, answer := none }
    port := { grant := none, guardCount := 0, control := [.header true HeaderWords.powerOn] }
    frames := { entries := [(0, ⟨.control, false⟩)], size := none }
    views := ViewTable.default
    jobs := []
    pages := []
    coverage := { settings := CoverageSettings.default, residues := Quad.all 0 }
    meter :=
      { accounts := [], tariff := defaultTariff, totals := Totals.zero, reservations := 0, dirty := [], write := none,
        lastWasFold := false, failed := false, foldReported := true }
    store := Store.manufactured
    supply :=
      { slots := Quad.all Slot.absentFresh, presence := Quad.all false, doorClosed := false,
        presenceTimers := Quad.all none, doorTimer := none, seen := [], settings := SupplySettings.default, models := [] }
    scrub := { queue := [], progress := none, offered := false, scrubbed := 0, removed := 0 }
    orders := { heldPost := 0, take := 0, fetching := false, deferred := [], lastHeader := HeaderWords.powerOn }
    events :=
      { produce := 0, consume := 0, written := 0, nextSeq := 0, lastAlarm := none, mode := .each, latch := false,
        armed := false, attn := false }
    sup := Supervision.powerOn }

end Sys2Proof.Machine
end

