-- ==== Sys2Proof/Machine/Ops.lean ====
section
/-! DEFINITION. The named operations over the state that every unit uses: tables, byte order, page memory, the time base, the
records of frames, jobs, pages, accounts and slots, and the Order Unit's posting and answering. -/

namespace Sys2Proof.Machine

/-! ## Tables: a canonical list of numbered records that differ from a default -/

/-- The record of number `k`, or the default `d` where none is listed. -/
def Table.get {α : Type} (d : α) : Table α → Nat → α
  | [], _ => d
  | (j, v) :: t, k => if j = k then v else Table.get d t k

/-- `k` put in its place among rising numbers. -/
def Table.insert {α : Type} (k : Nat) (v : α) : Table α → Table α
  | [] => [(k, v)]
  | (j, w) :: t => if k < j then (k, v) :: (j, w) :: t else (j, w) :: Table.insert k v t

/-- The table without number `k`. -/
def Table.erase {α : Type} (t : Table α) (k : Nat) : Table α := t.filter fun e => e.1 != k

/-- The table with the record of number `k` replaced. Writing the default removes the entry. -/
def Table.set {α : Type} [DecidableEq α] (d : α) (t : Table α) (k : Nat) (v : α) : Table α :=
  if v = d then t.erase k else Table.insert k v (t.erase k)

/-- Every record changed by `f`, for an `f` that leaves the default as it is. -/
def Table.update {α : Type} [DecidableEq α] (d : α) (f : Nat → α → α) (t : Table α) : Table α :=
  (t.map fun e => (e.1, f e.1 e.2)).filter fun e => decide (e.2 ≠ d)

/-- The table of records `f 0` to `f (n − 1)`. -/
def Table.ofFn {α : Type} [DecidableEq α] (d : α) (n : Nat) (f : Nat → α) : Table α :=
  ((List.range n).map fun k => (k, f k)).filter fun e => decide (e.2 ≠ d)

/-- The canonical form: numbers strictly rising, and no record equal to the default. -/
def Table.wf {α : Type} [DecidableEq α] (d : α) : Table α → Bool
  | [] => true
  | [(_, v)] => decide (v ≠ d)
  | (k, v) :: (j, w) :: t => decide (k < j) && decide (v ≠ d) && Table.wf d ((j, w) :: t)

/-! ## Byte order (R178, R182) -/

/-- `n` bytes of a number, least significant first (R178). -/
def leBytes : Nat → Nat → List Byte
  | 0, _ => []
  | n + 1, v => BitVec.ofNat 8 v :: leBytes n (v / 256)

/-- The number that bytes spell, least significant first (R178). -/
def fromLe : List Byte → Nat
  | [] => 0
  | b :: t => b.toNat + 256 * fromLe t

/-- `n` bytes of a number, most significant first (R182). -/
def beBytes (n v : Nat) : List Byte := (leBytes n v).reverse

/-- The number that bytes spell, most significant first (R182). -/
def fromBe (bs : List Byte) : Nat := fromLe bs.reverse

/-- Bytes filled up to `n` with 0 (R178: bytes that follow the last item of an area are written 0). -/
def padTo (n : Nat) (bs : List Byte) : List Byte := (bs ++ List.replicate n 0).take n

/-- A flag as a byte: 1 when set and 0 when clear (R178). -/
def flagByte (b : Bool) : Byte := if b then 1 else 0

/-- One byte of marks: mark n is the bit of value 2^n (R178). -/
def markByte : List Bool → Byte
  | [] => 0
  | b :: t => (if b then 1 else 0) + 2 * markByte t

/-! ## Page memory -/

/-- Bytes in a line (00_scope.md). -/
def lineSize : Nat := 64

/-- Bytes in a frame (00_scope.md). -/
def frameSize : Nat := 1048576

/-- What a byte of page memory that nothing has written reads as. DESIGN CHOICE, log entry 6. -/
def unlistedByte : Byte := 0

/-- The byte at an address of the DRAM. -/
def readByte (s : State) (a : Nat) : Byte := Table.get unlistedByte s.mem a

/-- The bytes from `a` up to `a + n`. -/
def readBytes (s : State) (a n : Nat) : List Byte := (List.range n).map fun i => readByte s (a + i)

/-- Memory with the enabled bytes stored from an address on; a byte that is not enabled is kept (R25). -/
def writeCells : List Host.Cell → Nat → List (Option Byte) → List Host.Cell
  | m, _, [] => m
  | m, a, none :: t => writeCells m (a + 1) t
  | m, a, some b :: t => writeCells (Table.set unlistedByte m a b) (a + 1) t

/-- The canonical form of page memory. -/
def Memory.wf (m : List Host.Cell) : Bool := Table.wf unlistedByte m

/-- An address lies in the DRAM fitted on the board (R38). -/
def fitted (s : State) (a : Nat) : Bool := decide (a / frameSize < s.fittedFrames)

/-- A read by the Memory Port of a run within one frame. Beyond the fitted DRAM it returns bytes that the part does not define
(R38, log entry 5). -/
def portRead (s : State) (a n : Nat) : List Byte :=
  if fitted s a then readBytes s a n else (List.range n).map fun i => Config.unfittedByte s.openReads (a + i)

/-- A write by the Memory Port of a run within one frame. Beyond the fitted DRAM it changes nothing (R38). -/
def portWrite (a : Nat) (bytes : List (Option Byte)) (s : State) : State :=
  if fitted s a then { s with mem := writeCells s.mem a bytes } else s

/-- A write of the Order Unit into frame 0, which every fitted memory holds (R2, R36). -/
def controlWrite (a : Nat) (bytes : List (Option Byte)) (s : State) : State :=
  { s with mem := writeCells s.mem a bytes }

/-! ## Time -/

/-- Milliseconds of a timer have passed since `r` (00_scope.md: every timer is judged on spans). -/
def due (s : State) (r : Time) (ms : Nat) : Bool := decide (ms ≤ span s.time r)

/-- A timer's expiry is taken: the time base stands at its expiry time, or beyond it. DESIGN CHOICE, log entry 10. -/
def reachTime (r : Time) (ms : Nat) (s : State) : State :=
  if due s r ms then s else { s with time := r + BitVec.ofNat 32 ms }

/-! ## Records -/

/-- The entry of a frame (R1). -/
def frameOf (s : State) (f : Nat) : FrameEntry := Table.get FrameEntry.free s.frames.entries f

/-- The entry of a frame replaced. -/
def setFrame (f : Nat) (e : FrameEntry) (s : State) : State :=
  { s with frames := { s.frames with entries := Table.set FrameEntry.free s.frames.entries f e } }

/-- Every entry of the Frame Table changed by `g`, for a `g` that leaves an OPEN entry with a clear flag as it is. -/
def updateFrames (g : Nat → FrameEntry → FrameEntry) (s : State) : State :=
  { s with frames := { s.frames with entries := Table.update FrameEntry.free g s.frames.entries } }

/-- The number of frames that count as in range: the memory size, or 4096 while it is unset (R3). -/
def frameLimit (s : State) : Nat := s.frames.size.getD 4096

/-- The record of a job slot (R39). -/
def jobOf (s : State) (j : Nat) : Job := Table.get Job.fresh s.jobs j

/-- The record of a job slot replaced. -/
def setJob (j : Nat) (r : Job) (s : State) : State := { s with jobs := Table.set Job.fresh s.jobs j r }

/-- The opening of a job slot: present while it is ACTIVE or CLOSING (R39). -/
def Job.opening (j : Job) : Option Opening :=
  match j.state with
  | .free => none
  | .active o => some o
  | .closing o _ => some o

/-- The job slot is ACTIVE. -/
def Job.isActive (j : Job) : Bool :=
  match j.state with
  | .active _ => true
  | _ => false

/-- The job slot is FREE. -/
def Job.isFree (j : Job) : Bool := j.opening.isNone

/-- The job's released frames are retired: it is PRIVATE or its scrub-on-release flag is set (R17). -/
def Job.retires (j : Job) : Bool :=
  match j.opening with
  | some o => o.scrubOnRelease || decide (o.privacy = .priv)
  | none => false

/-- The job's account, 0 where the slot is FREE. -/
def Job.account (j : Job) : Nat := (j.opening.map (·.account)).getD 0

/-- The record of a page slot, none while it is FREE (R57). -/
def pageOf (s : State) (p : Nat) : Option Page := Table.get none s.pages p

/-- The record of a page slot replaced. -/
def setPage (p : Nat) (r : Option Page) (s : State) : State := { s with pages := Table.set none s.pages p r }

/-- The page is in print: PRINTING or WITHHELD (R57). -/
def Page.inPrint (p : Page) : Bool :=
  match p.state with
  | .printing _ _ => true
  | .withheld _ _ => true
  | _ => false

/-- An account in use (R96). -/
def accountOf (s : State) (a : Nat) : Account := Table.get Account.blank s.meter.accounts a

/-- An account in use replaced. -/
def setAccount (a : Nat) (r : Account) (s : State) : State :=
  { s with meter := { s.meter with accounts := Table.set Account.blank s.meter.accounts a r } }

/-- A slot record (R118). -/
def slotOf (s : State) (n : Plane) : Slot := s.supply.slots.get n

/-- A slot record replaced. -/
def setSlot (n : Plane) (r : Slot) (s : State) : State :=
  { s with supply := { s.supply with slots := s.supply.slots.set n r } }

/-! ## The Order Unit's accesses, answers and events -/

/-- The Order Unit makes an access: it joins behind those it made earlier (R36 and the opening of chapter 09). -/
def placeAccess (a : ControlAccess) (s : State) : State :=
  { s with port := { s.port with control := s.port.control ++ [a] } }

/-- The code that R181 gives an event's kind. -/
def Event.kind : Event → Nat
  | .pageWithheld .. => 1
  | .pageSettled .. => 2
  | .pageGap .. => 3
  | .viewBreach .. => 4
  | .rangeBreach .. => 5
  | .jobReleased .. => 6
  | .scrubIdle .. => 7
  | .slotChange .. => 8
  | .supplyLow .. => 9
  | .lines .. => 10
  | .stateChange .. => 11
  | .provisionExpired .. => 12
  | .ringFaultPost .. => 13
  | .ringFaultConsume .. => 13
  | .storeFault .. => 14
  | .meterFull .. => 15
  | .overrun .. => 16

/-- A slot is REJECTED. -/
def SlotState.isRejected : SlotState → Bool
  | .rejected _ => true
  | _ => false

/-- Whether an event is an alarm (R164). -/
def Event.isAlarm : Event → Bool
  | .viewBreach .. => true
  | .rangeBreach .. => true
  | .slotChange _ old new _ _ _ => new.isRejected && decide (old ≠ new)
  | .stateChange _ new _ _ => decide (new = .lockdown)
  | .provisionExpired .. => true
  | .ringFaultPost .. => true
  | .ringFaultConsume .. => true
  | .storeFault .. => true
  | .overrun .. => true
  | _ => false

/-- The occupancy of the event ring (R163). -/
def occupancy (s : State) : Nat := ringDistance s.events.produce s.events.consume

/-- An event is posted (R161, R163): it takes the next sequence, and it is written as itself, as OVERRUN in the last free
record, or lost, by the occupancy at its posting. -/
def postEvent (e : Event) (s : State) : State :=
  let seq := s.events.nextSeq
  if occupancy s ≥ 256 then { s with events := { s.events with nextSeq := seq + 1 } }
  else
    let shown := if occupancy s = 255 then Event.overrun e.kind e.isAlarm else e
    placeAccess (.event ⟨s.events.produce, seq, s.time, shown⟩)
      { s with events := { s.events with nextSeq := seq + 1, produce := s.events.produce + 1 } }

/-- An answer write into the slot of a ring index is placed (R158). -/
def placeAnswer (i : Index) (a : Answer) (s : State) : State := placeAccess (.answer i a) s

/-- A result with no answer data. -/
def Answer.plain (c : Code) (detail : Nat) : Answer := ⟨c, detail, none⟩

/-- DONE without data. Its detail is 0: DESIGN CHOICE, log entry 40. -/
def Answer.done : Answer := Answer.plain .done 0

/-- DONE with an answer area whose items are always present. Its detail is 0: DESIGN CHOICE, log entry 40. -/
def Answer.doneWith (items : List Byte) : Answer := ⟨.done, 0, some ⟨items, 0⟩⟩

/-- An order takes a place in the deferred list (R159). -/
def deferOrder (i : Index) (o : DeferredObject) (s : State) : State :=
  { s with orders := { s.orders with deferred := s.orders.deferred ++ [⟨i, o⟩] } }

/-- The entries of the deferred list that `p` picks get their final answers, in the order of their take, and leave the list
(R159). -/
def answerDeferred (p : Deferred → Bool) (answer : Deferred → Answer) (s : State) : State :=
  let t := (s.orders.deferred.filter p).foldl (fun t d => placeAnswer d.index (answer d) t) s
  { t with orders := { t.orders with deferred := t.orders.deferred.filter fun d => !p d } }

/-- A count that rises saturates at 4,294,967,295 (R96). -/
def saturate (n : Nat) : Nat := min n 4294967295

/-- A count of R149 is held at 65,535. -/
def hold16 (n : Nat) : Nat := min n 65535

end Sys2Proof.Machine
end

