-- ==== Sys2Proof/WellFormed.lean ====
section
/-! DEFINITION. Which commands the spec gives: the ranges of R19 for a transfer and of R57 for a page slot. Every other
operand is in range by its type. -/

namespace Sys2Proof

/-- The number of lines of a transfer or of a part. A write carries 64 byte positions for each of its lines (R19). -/
def Access.lineCount : Access → Nat
  | .read n => n
  | .write bytes => bytes.length / 64

/-- R19: the start address is a multiple of 64, the line count is 1 to 8, and a write carries 64 byte positions a line. -/
def Transfer.wf (t : Transfer) : Bool :=
  t.addr.toNat % 64 == 0 && decide (1 ≤ t.access.lineCount) && decide (t.access.lineCount ≤ 8) &&
    (match t.access with
     | .read _ => true
     | .write bytes => bytes.length % 64 == 0)

/-- A command with every operand in the range that the spec gives it: a transfer by R19, a page slot 0 to 31 by R57. -/
def Instr.wf : Instr → Bool
  | .transferAccept t => t.wf
  | .stallTimerExpiry p => decide (p < 32)
  | _ => true

end Sys2Proof
end

