-- ==== Sys2Proof/Decode.lean ====
section
/-! DEFINITION. The part's decoders: `decodeTableWord` over spec/opcode_table.json (no row of it gives bits), the order slot of
R154 and R180, and the supply-link frame of R124 and R182; and beside the two real ones the writers of the same layouts. -/

namespace Sys2Proof

/-- The command that a word of the table's bits spells: none, since no row of spec/opcode_table.json gives bits. -/
def decodeTableWord (_nbits _w : Nat) : Option Instr := none

end Sys2Proof

namespace Sys2Proof.Machine

/-! ## The order slot (R154, R180) -/

/-- The parameter widths, in bytes and in the order of its rule, of each order kind (R180); none for 0 and for a kind that is
not in the table. -/
def orderWidths : Nat → Option (List Nat)
  | 1 => some [1, 2, 2, 2, 2]                        -- BIND FRAMES
  | 2 => some [1, 2, 2, 2]                           -- RELEASE FRAMES
  | 3 => some [1, 1, 1]                              -- SET VIEW
  | 4 => some [2, 1, 1]                              -- OPEN JOB
  | 5 => some [1, 2]                                 -- CLOSE JOB
  | 6 => some [1, 2]                                 -- PURGE JOB
  | 7 => some [1, 2, 2, 1, 1, 4, 4, 4, 4, 4]         -- DEFINE PAGE
  | 8 => some [1, 2, 1]                              -- TICKET PAGE
  | 9 => some [1, 2, 1]                              -- UNTICKET PAGE
  | 10 => some [1, 2, 1]                             -- DROP PAGE
  | 11 => some [1, 4, 2]                             -- SET WEIGHTS
  | 12 => some [4]                                   -- SET COLOUR THRESHOLD
  | 13 => some [2, 1, 4]                             -- SET ACCOUNT
  | 14 => some [1, 1, 1]                             -- SET TARIFF
  | 15 => some []                                    -- ROLL PERIOD
  | 16 => some [2, 4]                                -- CREDIT ACCOUNT
  | 17 => some [2, 1]                                -- READ ACCOUNT
  | 18 => some [1]                                   -- PROBE SLOT
  | 19 => some [1]                                   -- READ SLOT
  | 20 => some [2, 2]                                -- SET SUPPLY
  | 21 => some [1]                                   -- SET ATTENTION
  | 22 => some [2, 2, 1]                             -- START
  | 23 => some []                                    -- START SERVICE
  | 24 => some []                                    -- END SERVICE
  | 25 => some []                                    -- KEEPALIVE
  | 26 => some []                                    -- RECOVER
  | _ => none

/-- The fields of an order slot that the part reads (R154). -/
structure OrderSlot where
  kind   : Nat
  length : Nat
  turn   : Nat
  params : List Nat
  deriving DecidableEq, Repr

/-- Parameters packed at their widths, least significant byte first (R178, R180). -/
def unpackParams : List Nat → List Byte → List Nat
  | [], _ => []
  | w :: ws, bs => fromLe (bs.take w) :: unpackParams ws (bs.drop w)

/-- Parameters written at their widths (R178, R180). -/
def packParams : List Nat → List Nat → List Byte
  | w :: ws, v :: vs => leBytes w v ++ packParams ws vs
  | _, _ => []

/-- The order that the 64 bytes of an order slot spell (R180). The parameters are those of the kind; a kind not in the table has
none. -/
def decodeOrder (bs : List Byte) : OrderSlot :=
  let kind := fromLe (bs.take 2)
  { kind := kind
    length := (bs.getD 2 0).toNat
    turn := (bs.getD 3 0).toNat
    params := unpackParams ((orderWidths kind).getD []) (bs.drop 8) }

/-- The 64 bytes that the CPU writes for an order (R180), with cookie 0. -/
def encodeOrder (o : OrderSlot) : List Byte :=
  padTo 64 (leBytes 2 o.kind ++ leBytes 1 o.length ++ leBytes 1 o.turn ++ leBytes 4 0 ++
    packParams ((orderWidths o.kind).getD []) o.params)

/-! ## The supply-link frame (R124, R182) -/

/-- The number of ones in a byte. -/
def onesOf (b : Byte) : Nat := ((List.range 8).filter fun i => b.getLsbD i).length

/-- The parity of a byte on a supply link is right: the count of ones among its nine bits is odd (R182). -/
def parityGood (c : LinkChar) : Bool := (onesOf c.data + c.parity.toNat) % 2 == 1

/-- A byte with its parity bit (R182). -/
def linkChar (b : Byte) : LinkChar := ⟨b, onesOf b % 2 == 0⟩

/-- One bit step of the CRC with the polynomial x^16 + x^12 + x^5 + 1 (R182). -/
def crcShift (c : BitVec 16) : BitVec 16 := if c.getLsbD 15 then (c <<< 1) ^^^ 0x1021 else c <<< 1

/-- One byte of the CRC, most significant bit first (R182). -/
def crcByte (c : BitVec 16) (b : Byte) : BitVec 16 :=
  (List.range 8).foldl (fun x _ => crcShift x) (c ^^^ (b.setWidth 16 <<< 8))

/-- The CRC over the kind, the length and the payload: it starts from 0xFFFF and takes no final inversion (R182). -/
def crc16 (bs : List Byte) : BitVec 16 := bs.foldl crcByte 0xFFFF

/-- The start marker (R182). -/
def startMarker : Byte := 0x7E

/-- The payload length of each frame kind (R182). -/
def frameLength : Byte → Option Nat
  | 0x01 => some 8
  | 0x02 => some 23
  | 0x03 => some 11
  | 0x04 => some 17
  | 0x05 => some 1
  | _ => none

/-- The characters of a frame on a supply link: marker, kind, length, payload and the CRC, high byte first (R124, R182). -/
def encodeFrame (kind : Byte) (payload : List Byte) : List LinkChar :=
  let body := kind :: BitVec.ofNat 8 payload.length :: payload
  ((startMarker :: body) ++ beBytes 2 (crc16 body).toNat).map linkChar

/-- What the part makes of the characters received in an answer window (R124, R182). -/
inductive LinkFrame
  /-- No frame is complete yet. -/
  | incomplete
  /-- A parity fault, a CRC that does not match, or a length that does not match the kind. -/
  | faulty
  /-- A well-formed frame of a kind that no exchange awaits. -/
  | foreign (kind : Byte)
  | ident (serial : BitVec 48) (model : BitVec 16) (capacity dispensed : Nat) (flags : Byte) (tag : BitVec 64)
  | tally (serial : BitVec 48) (dispensed : Nat) (tag : BitVec 64)
  | decline (reason : Byte)
  deriving DecidableEq, Repr

/-- A number of `n` bytes at offset `o` of a payload, most significant byte first (R182). -/
def payloadNumber (p : List Byte) (o n : Nat) : Nat := fromBe ((p.drop o).take n)

/-- A payload of the right length read by its kind (R182). -/
def decodePayload (kind : Byte) (p : List Byte) : LinkFrame :=
  match kind with
  | 0x02 => .ident (BitVec.ofNat 48 (payloadNumber p 0 6)) (BitVec.ofNat 16 (payloadNumber p 6 2)) (payloadNumber p 8 3)
      (payloadNumber p 11 3) (p.getD 14 0) (BitVec.ofNat 64 (payloadNumber p 15 8))
  | 0x04 => .tally (BitVec.ofNat 48 (payloadNumber p 0 6)) (payloadNumber p 6 3) (BitVec.ofNat 64 (payloadNumber p 9 8))
  | 0x05 => .decline (p.getD 0 0)
  | k => .foreign k

/-- A frame from the character after its start marker on (R182). `markerGood`: the marker's own parity is right. -/
def decodeBody (markerGood : Bool) (cs : List LinkChar) : LinkFrame :=
  let bytes := cs.map (·.data)
  let kind := bytes.getD 0 0
  let len := (bytes.getD 1 0).toNat
  if bytes.length < len + 4 then .incomplete
  else
    let payload := (bytes.drop 2).take len
    let crc := BitVec.ofNat 16 (payloadNumber bytes (2 + len) 2)
    if !markerGood || !((cs.take (len + 4)).all parityGood) then .faulty
    else if crc16 (bytes.take (2 + len)) ≠ crc then .faulty
    else if (frameLength kind).any (· != len) then .faulty
    else decodePayload kind payload

/-- The frame in the characters received within an answer window: those before a start marker are discarded (R182). The marker
is known by its eight data bits: DESIGN CHOICE, log entry 19. -/
def decodeFrame : List LinkChar → LinkFrame
  | [] => .incomplete
  | c :: cs => if c.data = startMarker then decodeBody (parityGood c) cs else decodeFrame cs

end Sys2Proof.Machine
end

