-- ==== Sys2Proof/Machine/Flags.lean ====
section
/-! DEFINITION. The conditions, counts and status values that rules compute from the state: frame classes and pinned entries,
the free count and the allowance test, slot usability and gauge, the line snapshot, the state word and ATTN. -/

namespace Sys2Proof.Machine

/-! ## Frames and views -/

/-- The class of a frame by its entry and its job's privacy (R5). -/
def classOf (s : State) (e : FrameEntry) : FrameClass :=
  match e.state with
  | .control => .control
  | .opened => .opened
  | .bound b =>
    match (jobOf s b.job).opening with
    | some o => if o.privacy = .priv then .priv else .shared
    | none => .shared
  | .retired => .retired
  | .scrubbing => .retired

/-- The row of a class (R7). -/
def ViewTable.row (v : ViewTable) : FrameClass → ViewRow
  | .control => v.control
  | .opened => v.opened
  | .shared => v.shared
  | .priv => v.priv
  | .retired => v.retired

/-- The entry of a source in a row (R7). -/
def ViewRow.of (r : ViewRow) : Source → View
  | .cpu => r.cpu
  | .scan => r.scan
  | .print => r.print
  | .codec => r.codec
  | .store => r.store
  | .net => r.net
  | .fax => r.fax
  | .spare => r.spare

/-- A row with the entry of a source replaced. -/
def ViewRow.set (r : ViewRow) (src : Source) (v : View) : ViewRow :=
  match src with
  | .cpu => { r with cpu := v }
  | .scan => { r with scan := v }
  | .print => { r with print := v }
  | .codec => { r with codec := v }
  | .store => { r with store := v }
  | .net => { r with net := v }
  | .fax => { r with fax := v }
  | .spare => { r with spare := v }

/-- The View Table's entry for a class and a source (R7). -/
def ViewTable.look (t : ViewTable) (c : FrameClass) (src : Source) : View := (t.row c).of src

/-- The View Table with one entry replaced. -/
def ViewTable.put (t : ViewTable) (c : FrameClass) (src : Source) (v : View) : ViewTable :=
  match c with
  | .control => { t with control := t.control.set src v }
  | .opened => { t with opened := t.opened.set src v }
  | .shared => { t with shared := t.shared.set src v }
  | .priv => { t with priv := t.priv.set src v }
  | .retired => { t with retired := t.retired.set src v }

/-- The pinned marks of R9. -/
def pinned : FrameClass → Source → Bool
  | .control, _ => true
  | .retired, _ => true
  | _, .print => true
  | .priv, .cpu => true
  | .priv, .net => true
  | _, _ => false

/-- A view that makes no sense for a class (R10). -/
def senseless : FrameClass → View → Bool
  | _, .metered => true
  | .opened, .plain => true
  | .opened, .cipher => true
  | .shared, .plain => true
  | .shared, .cipher => true
  | .priv, .pass => true
  | _, _ => false

/-! ## Meter -/

/-- The journal's free count: 64 minus entries minus reservations (R107). -/
def freeCount (s : State) : Nat := 64 - s.store.journal.length - s.meter.reservations

/-- The limit that means UNLIMITED (R96). -/
def unlimited : Nat := 16777215

/-- The allowance test for a further charge `c` (R98). -/
def Account.allows (a : Account) (c : Nat) : Bool :=
  decide (a.settings.limit = unlimited) || decide (a.counts.settled + a.inflight + a.held + c ≤ a.settings.limit)

/-- A figure of the measured or declared colour. -/
def ByColour.of (b : ByColour) : Colour → Nat
  | .mono => b.mono
  | .colour => b.colour

/-! ## Supply -/

/-- A slot that can be printed from (R67, R119). -/
def SlotState.usable : SlotState → Bool
  | .unknown => true
  | .probing => true
  | .verified => true
  | .suspect => true
  | _ => false

/-- The planes that a page of a colour has, in the order K, C, M, Y; they are also its required slots (R57, R67). -/
def planesOf : Colour → List Plane
  | .mono => [0]
  | .colour => [0, 1, 2, 3]

/-- Every slot that a page of a colour requires is usable (R67). -/
def slotsUsable (s : State) (c : Colour) : Bool := (planesOf c).all fun n => (slotOf s n).state.usable

/-- A slot's gauge, defined while the cartridge fields are present (R118). -/
def Slot.gauge (r : Slot) : Option Nat := r.cartridge.map fun c => c.capacity - c.dispensed - r.pending

/-- The low threshold of a capacity: the floor of capacity × low mark / 1000 (R135). -/
def lowThreshold (s : State) (capacity : Nat) : Nat := capacity * s.supply.settings.lowMark / 1000

/-- The snapshot of the six lines (R120). -/
def snapshot (s : State) : LineSnapshot := ⟨s.supply.presence, s.supply.doorClosed, s.sup.pfw⟩

/-- The code of a slot state (R178). -/
def SlotState.code : SlotState → Nat
  | .absent => 0
  | .unknown => 1
  | .probing => 2
  | .verified => 3
  | .suspect => 4
  | .rejected _ => 5
  | .exhausted => 6

/-- The state-word byte of a slot: the state's code, plus 128 when CLAMPED is set (R179). -/
def Slot.stateByte (r : Slot) : Byte := BitVec.ofNat 8 (r.state.code + if r.clamped then 128 else 0)

/-! ## The control header and ATTN -/

/-- The part-owned words of the control header as they stand (R152, R153). -/
def headerWords (s : State) : HeaderWords :=
  { take := s.orders.take
    produce := s.events.written
    device := s.sup.device
    cold := s.sup.cold
    slots := ⟨(slotOf s 0).stateByte, (slotOf s 1).stateByte, (slotOf s 2).stateByte, (slotOf s 3).stateByte⟩
    free := freeCount s }

/-- A header write. -/
def ControlAccess.isHeader : ControlAccess → Bool
  | .header .. => true
  | _ => false

/-- A header write is placed when a part-owned word differs from the last header write placed and none waits (R152). -/
def placeHeader (s : State) : State :=
  if decide (headerWords s ≠ s.orders.lastHeader) && !(s.port.control.any (·.isHeader)) then
    placeAccess (.header false (headerWords s)) { s with orders := { s.orders with lastHeader := headerWords s } }
  else s

/-- The unconsumed count (R165). -/
def Events.unconsumed (e : Events) : Nat := ringDistance e.written e.consume

/-- An unconsumed alarm exists (R165). -/
def Events.alarmWaits (e : Events) : Bool :=
  match e.lastAlarm with
  | some i => decide (ringDistance i e.consume < e.unconsumed)
  | none => false

/-- What ATTN is under the mode (R165, R166). -/
def Events.attnLevel (e : Events) : Bool :=
  match e.mode with
  | .off => false
  | .each => decide (1 ≤ e.unconsumed)
  | .batch => decide (4 ≤ e.unconsumed) || e.alarmWaits
  | .alarmOnly => e.alarmWaits
  | .first => e.latch

/-- ATTN judged anew (R165). -/
def Events.judge (e : Events) : Events := { e with attn := e.attnLevel }

/-- An event write has been performed: the written produce index rises past it, an alarm's index is kept, and in FIRST mode an
armed latch is set (R161, R165, R166). -/
def Events.recordWritten (e : Events) (index : Index) (alarm : Bool) : Events :=
  let e := { e with written := index + 1, lastAlarm := if alarm then some index else e.lastAlarm }
  let e := if decide (e.mode = .first) && e.armed then { e with latch := true, armed := false } else e
  e.judge

/-- A valid consume value is taken (R162, R165, R166). -/
def Events.consumed (e : Events) (value : Index) : Events :=
  let e := { e with consume := value }
  let e := if e.alarmWaits then e else { e with lastAlarm := none }
  let e := if e.mode = .first then { e with latch := false, armed := decide (e.unconsumed = 0) } else e
  e.judge

/-- The ATTN mode changes (R166, R167). -/
def Events.setMode (e : Events) (m : AttnMode) : Events :=
  let e' :=
    if m = .first then
      if e.mode = .first then e
      else if 1 ≤ e.unconsumed then { e with mode := m, latch := true, armed := false }
      else { e with mode := m, latch := false, armed := true }
    else { e with mode := m, latch := false, armed := false }
  e'.judge

end Sys2Proof.Machine
end

