-- ==== Sys2Proof/Machine/Records.lean ====
section
/-! DEFINITION. The byte layouts that the part writes: named codes (R178), the control header (R179), the answer write (R180),
the event record (R181) and the part's supply frames (R182). -/

namespace Sys2Proof.Machine

/-! ## Codes of named values (R178) -/

/-- The code of a device state. -/
def DeviceState.code : DeviceState → Nat
  | .provision => 0
  | .run => 1
  | .service => 2
  | .lockdown => 3

/-- The code of a frame class. -/
def FrameClass.code : FrameClass → Nat
  | .control => 0
  | .opened => 1
  | .shared => 2
  | .priv => 3
  | .retired => 4

/-- The frame class of a code. -/
def FrameClass.ofCode : Nat → Option FrameClass
  | 0 => some .control
  | 1 => some .opened
  | 2 => some .shared
  | 3 => some .priv
  | 4 => some .retired
  | _ => none

/-- The code of a view. -/
def View.code : View → Nat
  | .pass => 0
  | .plain => 1
  | .cipher => 2
  | .blank => 3
  | .metered => 4

/-- The view of a code. -/
def View.ofCode : Nat → Option View
  | 0 => some .pass
  | 1 => some .plain
  | 2 => some .cipher
  | 3 => some .blank
  | 4 => some .metered
  | _ => none

/-- The tag of a source (00_scope.md, R178). -/
def sourceTag : Source → Nat
  | .cpu => 0
  | .scan => 1
  | .print => 2
  | .codec => 3
  | .store => 4
  | .net => 5
  | .fax => 6
  | .spare => 7

/-- The source of a tag. -/
def sourceOfTag : Nat → Option Source
  | 0 => some .cpu
  | 1 => some .scan
  | 2 => some .print
  | 3 => some .codec
  | 4 => some .store
  | 5 => some .net
  | 6 => some .fax
  | 7 => some .spare
  | _ => none

/-- The privacy of a code. -/
def Privacy.ofCode : Nat → Option Privacy
  | 0 => some .shared
  | 1 => some .priv
  | _ => none

/-- The code of a colour. -/
def Colour.code : Colour → Nat
  | .mono => 0
  | .colour => 1

/-- The colour of a code. -/
def Colour.ofCode : Nat → Option Colour
  | 0 => some .mono
  | 1 => some .colour
  | _ => none

/-- A plane, slot or size class of a code. -/
def planeOfCode (n : Nat) : Option Plane := if h : n < 4 then some ⟨n, h⟩ else none

/-- The code of an outcome. -/
def Outcome.code : Outcome → Nat
  | .printed => 0
  | .stalled => 1
  | .aborted => 2
  | .withheld => 3

/-- The code of a withheld reason. -/
def WithheldReason.code : WithheldReason → Nat
  | .mode => 0
  | .power => 1
  | .job => 2
  | .supply => 3
  | .account => 4
  | .allowance => 5
  | .meter => 6

/-- The code of an account state. -/
def AccountState.code : AccountState → Nat
  | .unused => 0
  | .active => 1
  | .suspended => 2

/-- The account state of a code. -/
def AccountState.ofCode : Nat → Option AccountState
  | 0 => some .unused
  | 1 => some .active
  | 2 => some .suspended
  | _ => none

/-- The code of a reject reason. -/
def RejectReason.code : RejectReason → Nat
  | .model => 0
  | .plane => 1
  | .tag => 2
  | .capacity => 3
  | .rollback => 4
  | .count => 5

/-- The reject reason of a slot, present while it is REJECTED (R118). -/
def SlotState.reason : SlotState → Option RejectReason
  | .rejected r => some r
  | _ => none

/-- The code of an exchange. -/
def Exchange.code : Exchange → Nat
  | .none => 0
  | .ident .. => 1
  | .debit .. => 2

/-- The code of a release cause. -/
def ReleaseCause.code : ReleaseCause → Nat
  | .close => 0
  | .purge => 1
  | .lockdown => 2

/-- The code of a state change's cause. -/
def StateCause.code : StateCause → Nat
  | .start => 0
  | .startService => 1
  | .endService => 2
  | .keepaliveEarly => 3
  | .keepaliveMissed => 4
  | .recover => 5

/-- The code of how a frame left the scrub queue. -/
def ScrubHow.code : ScrubHow → Nat
  | .scrubbed => 0
  | .removed => 1

/-- The code of a result. -/
def Code.code : Code → Nat
  | .done => 0
  | .pending => 1
  | .aborted => 2
  | .format => 3
  | .mode => 4
  | .range => 5
  | .stale => 6
  | .state => 7
  | .busy => 8
  | .late => 9
  | .pinned => 10
  | .account => 11
  | .allowance => 12
  | .supply => 13
  | .meter => 14
  | .overlap => 15

/-- The ATTN mode of a code (R167). -/
def AttnMode.ofCode : Nat → Option AttnMode
  | 0 => some .off
  | 1 => some .each
  | 2 => some .batch
  | 3 => some .alarmOnly
  | 4 => some .first
  | _ => none

/-- The block kind and the index of a STORE_FAULT (R178). -/
def FaultBlock.codes : FaultBlock → Nat × Nat
  | .counts a => (0, a)
  | .background (.accountSettings a) => (1, a)
  | .totals => (2, 0)
  | .background .tariff => (3, 0)
  | .background .coverage => (4, 0)
  | .background .supplySettings => (5, 0)
  | .background .seenList => (6, 0)

/-- The byte of a line snapshot (R178). -/
def LineSnapshot.byte (l : LineSnapshot) : Byte :=
  markByte [l.presence.q0, l.presence.q1, l.presence.q2, l.presence.q3, l.doorClosed, l.pfw]

/-! ## The control header (R179) -/

/-- Bytes 8 to 15 of the control header: the state word (R179). -/
def HeaderWords.stateWord (w : HeaderWords) : List Byte :=
  leBytes 1 w.device.code ++ [flagByte w.cold, w.slots.q0, w.slots.q1, w.slots.q2, w.slots.q3] ++ leBytes 1 w.free ++ [0]

/-- The enabled bytes of a header write: all 64, with both CPU-owned indices 0, at a reset; the part-owned words alone after
that (R13, R152, R179). -/
def headerBytes (whole : Bool) (w : HeaderWords) : List (Option Byte) :=
  let take := (leBytes 2 w.take.toNat).map some
  let produce := (leBytes 2 w.produce.toNat).map some
  let word := w.stateWord.map some
  if whole then [some 0, some 0] ++ take ++ produce ++ [some 0, some 0] ++ word ++ List.replicate 48 (some 0)
  else [none, none] ++ take ++ produce ++ [none, none] ++ word

/-! ## The order ring (R154, R180) -/

/-- The address of the order slot of a ring index (R154). -/
def orderAddress (i : Index) : Nat := 4096 + 64 * (i.toNat % 64)

/-- The turn of an order slot's index (R154). -/
def orderTurn (i : Index) : Nat := i.toNat / 64 % 2

/-- The offset in the slot and the bytes of an answer write (R158, R180): bytes 56 to 63 alone without data, bytes 8 to 63
with data. -/
def answerBytes (i : Index) (a : Answer) : Nat × List Byte :=
  let result := leBytes 1 a.code.code ++ leBytes 1 a.detail ++ leBytes 1 (orderTurn i) ++ List.replicate 5 0
  match a.data with
  | none => (56, result)
  | some d => (8, padTo 47 d.items ++ [d.marks] ++ result)

/-! ## The event ring (R161, R181) -/

/-- The address of the event record of a ring index (R161). -/
def eventAddress (i : Index) : Nat := 8192 + 32 * (i.toNat % 256)

/-- The turn of an event record's index (R161). -/
def eventTurn (i : Index) : Bool := i.toNat / 256 % 2 == 1

/-- A figure for each plane, packed in the order K, C, M, Y. -/
def packQuad (n : Nat) (q : Quad Nat) : List Byte := leBytes n q.q0 ++ leBytes n q.q1 ++ leBytes n q.q2 ++ leBytes n q.q3

/-- The payload of an event: its items in order at the widths of R178 (R181). -/
def Event.payload : Event → List Byte
  | .pageWithheld p j a n c col r t =>
    leBytes 1 p ++ leBytes 1 j ++ leBytes 1 a ++ leBytes 2 n ++ leBytes 1 c.val ++ leBytes 1 col.code ++ leBytes 1 r.code ++
      [flagByte t]
  | .pageSettled p j a o n col k pm d =>
    leBytes 1 p ++ leBytes 1 j ++ leBytes 1 a ++ leBytes 1 o.code ++ leBytes 2 n ++ leBytes 1 col.code ++ leBytes 1 k ++
      packQuad 2 pm ++ packQuad 2 d
  | .pageGap p j n pl h o => leBytes 1 p ++ leBytes 1 j ++ leBytes 2 n ++ leBytes 1 pl.val ++ leBytes 4 h ++ leBytes 4 o
  | .viewBreach src f w c v =>
    leBytes 1 (sourceTag src) ++ leBytes 2 f ++ [flagByte w] ++ leBytes 1 c.code ++ leBytes 1 v.code
  | .rangeBreach src f w n => leBytes 1 (sourceTag src) ++ leBytes 2 f ++ [flagByte w] ++ leBytes 2 n
  | .jobReleased j g a c r o d ab =>
    leBytes 1 j ++ leBytes 2 g.toNat ++ leBytes 1 a ++ leBytes 1 c.code ++ leBytes 2 r ++ leBytes 2 o ++ leBytes 1 d ++
      leBytes 1 ab
  | .scrubIdle s r f h => leBytes 2 s ++ leBytes 2 r ++ leBytes 2 f ++ leBytes 1 h.code
  | .slotChange n old new c g cl =>
    leBytes 1 n.val ++ leBytes 1 old.code ++ leBytes 1 new.code ++ leBytes 1 ((new.reason.map (·.code)).getD 0) ++
      leBytes 6 ((c.map (·.1.toNat)).getD 0) ++ leBytes 2 ((c.map (·.2.toNat)).getD 0) ++ leBytes 3 (g.getD 0) ++
      [flagByte cl, markByte [new.reason.isSome, c.isSome, g.isSome]]
  | .supplyLow n s g c t => leBytes 1 n.val ++ leBytes 6 s.toNat ++ leBytes 3 g ++ leBytes 3 c ++ leBytes 3 t
  | .lines l => [l.byte]
  | .stateChange o n c cold => leBytes 1 o.code ++ leBytes 1 n.code ++ leBytes 1 c.code ++ [flagByte cold]
  | .provisionExpired w cold e => leBytes 1 w ++ [flagByte cold] ++ leBytes 1 e
  | .ringFaultPost v h t => leBytes 1 0 ++ leBytes 2 v.toNat ++ leBytes 2 h.toNat ++ leBytes 2 t.toNat
  | .ringFaultConsume v h p => leBytes 1 1 ++ leBytes 2 v.toNat ++ leBytes 2 h.toNat ++ leBytes 2 p.toNat
  | .storeFault b q e => leBytes 1 b.codes.1 ++ leBytes 1 b.codes.2 ++ leBytes 4 q ++ leBytes 1 e
  | .meterFull e r f => leBytes 1 e ++ leBytes 1 r ++ [flagByte f]
  | .overrun k a => leBytes 1 k ++ [flagByte a]

/-- The 32 bytes of an event record (R161, R181). -/
def EventRecord.bytes (r : EventRecord) : List Byte :=
  leBytes 1 r.event.kind ++ [markByte [eventTurn r.index, r.event.isAlarm]] ++ leBytes 2 r.sequence.toNat ++
    leBytes 4 r.stamp.toNat ++ padTo 24 r.event.payload

/-! ## The part's supply frames (R124, R182) -/

/-- An ASK frame (R182). -/
def askFrame (nonce : BitVec 64) : List LinkChar := encodeFrame 0x01 (beBytes 8 nonce.toNat)

/-- A DEBIT frame (R182). -/
def debitFrame (target : Nat) (nonce : BitVec 64) : List LinkChar :=
  encodeFrame 0x03 (beBytes 3 target ++ beBytes 8 nonce.toNat)

end Sys2Proof.Machine
end

