-- ==== Sys2Proof/Machine/Operands.lean ====
section
/-! DEFINITION. The operands of the commands: a fetched order's parameters and the common checks of R157, and the parts of a
transfer with the bytes they cover (R21, R34). -/

namespace Sys2Proof.Machine

/-! ## Orders -/

/-- The order slot that the fetch in progress reads (R156): none unless an order fetch has the port. -/
def fetchedOrder (s : State) : Option OrderSlot :=
  match s.port.grant with
  | some (.control (.fetch i)) => some (decodeOrder (readBytes s (orderAddress i) 64))
  | _ => none

/-- Parameter `n` of an order, numbered from 1 as its rule numbers it. -/
def arg (ps : List Nat) (n : Nat) : Nat := ps.getD (n - 1) 0

/-- The answer of the first check that fails. A check is a condition on which it fails, and its answer. -/
def firstRefusal (checks : List (Bool × Answer)) : Option Answer := (checks.find? (·.1)).map (·.2)

/-- An order that is refused changes nothing; otherwise it is carried out (R157). -/
def checked (checks : List (Bool × Answer)) (s : State) (act : State → State × Answer) : State × Answer :=
  match firstRefusal checks with
  | some a => (s, a)
  | none => act s

/-- The parameter length of an order kind: the sum of its widths (R180). -/
def orderLength (kind : Nat) : Nat := ((orderWidths kind).getD []).sum

/-- The order's fetch has been performed: the port is free and the fetch flag is cleared (R156, step 3). -/
def fetchDone (s : State) : State :=
  { s with port := { s.port with grant := none }, orders := { s.orders with fetching := false } }

/-- The answer write is placed and the take index rises by one (R156, steps 4 and 5). -/
def answerAndAdvance (r : State × Answer) : State :=
  let t := placeAnswer r.1.orders.take r.2 r.1
  { t with orders := { t.orders with take := t.orders.take + 1 } }

/-- The checks 2 to 4 of R157 on a fetched order of a known kind: length, turn, device state. -/
def commonChecks (accepts : DeviceState → Bool) (o : OrderSlot) (s : State) : List (Bool × Answer) :=
  [(decide (o.length ≠ orderLength o.kind), .plain .format 2),
   (decide (o.turn ≠ orderTurn s.orders.take), .plain .format 3),
   (!accepts s.sup.device, .plain .mode 0)]

/-- A fetched order of a kind is taken: checked, carried out or refused, answered, and the take index advances (R156, R157). None
when no order of this kind has been fetched. -/
def takeOrder (kind : Nat) (accepts : DeviceState → Bool) (act : List Nat → State → State × Answer) (s : State) :
    Option State :=
  match fetchedOrder s with
  | none => none
  | some o =>
    if o.kind = kind then
      some (answerAndAdvance (checked (commonChecks accepts o s) (fetchDone s) (act o.params)))
    else none

/-- Settings and read orders and PROBE SLOT are accepted in PROVISION, RUN and SERVICE (R157). -/
def inSettings : DeviceState → Bool
  | .lockdown => false
  | _ => true

/-- Job orders, ROLL PERIOD, CREDIT ACCOUNT and KEEPALIVE are accepted in RUN and SERVICE (R157). -/
def inWork : DeviceState → Bool
  | .run => true
  | .service => true
  | _ => false

/-- START and START SERVICE are accepted in PROVISION (R157). -/
def inProvision : DeviceState → Bool
  | .provision => true
  | _ => false

/-- END SERVICE is accepted in SERVICE (R157). -/
def inService : DeviceState → Bool
  | .service => true
  | _ => false

/-- RECOVER is accepted in LOCKDOWN (R157). -/
def inLockdown : DeviceState → Bool
  | .lockdown => true
  | _ => false

/-- A generation parameter differs from the job record's generation (R41). -/
def staleGeneration (s : State) (j g : Nat) : Bool := decide (BitVec.ofNat 16 g ≠ (jobOf s j).generation)

/-! ## Transfers -/

/-- Bytes of a part. -/
def Part.size (p : Part) : Nat := 64 * p.access.lineCount

/-- The frame that a part addresses (R22). -/
def Part.frame (p : Part) : Nat := p.addr / frameSize

/-- The part is a write. -/
def Part.isWrite (p : Part) : Bool :=
  match p.access with
  | .read _ => false
  | .write _ => true

/-- The bytes of a write with their enables, none for a read. -/
def Part.bytes (p : Part) : List (Option Byte) :=
  match p.access with
  | .read _ => []
  | .write bs => bs

/-- The first `n` lines of an access. -/
def takeLines (n : Nat) : Access → Access
  | .read m => .read (min n m)
  | .write bs => .write (bs.take (64 * n))

/-- An access without its first `n` lines. -/
def dropLines (n : Nat) : Access → Access
  | .read m => .read (m - n)
  | .write bs => .write (bs.drop (64 * n))

/-- The parts of a transfer: one, or two where its lines cross a frame boundary. Past the top of the address space the upper part
goes on at address 0 (R21). -/
def Transfer.parts (t : Transfer) : List Part :=
  let a := t.addr.toNat
  let room := (frameSize - a % frameSize) / 64
  if t.access.lineCount ≤ room then [⟨t.source, a, t.access⟩]
  else [⟨t.source, a, takeLines room t.access⟩, ⟨t.source, (a + 64 * room) % 4294967296, dropLines room t.access⟩]

/-- Line `i` of the byte positions of a write. -/
def lineOf {α : Type} (bs : List α) (i : Nat) : List α := (bs.drop (64 * i)).take 64

/-- A line of a write: no enable set, all set, or some (R29). -/
def lineEmpty (l : List (Option Byte)) : Bool := l.all (·.isNone)

/-- A line of a write with all its enables set (R29). -/
def lineFull (l : List (Option Byte)) : Bool := l.all (·.isSome)

/-- A part of the CPU writing into frame 0 has the enables of the part-owned header words, bytes 2 to 5 and 8 to 15, turned off
(R13, R25, R179). -/
def maskHeader (p : Part) : List (Option Byte) :=
  if decide (p.source = .cpu) && decide (p.frame = 0) then
    p.bytes.mapIdx fun i b =>
      let a := p.addr + i
      if (2 ≤ a && a < 6) || (8 ≤ a && a < 16) then none else b
  else p.bytes

/-- The new value of a snooped word at an address of frame 0 when a CPU write part covers it (R34): enabled bytes from the write,
the others from the shadow. -/
def snoopWord (p : Part) (a : Nat) (shadow : Index) : Option Index :=
  if decide (p.source = .cpu) && p.isWrite && decide (p.frame = 0) && decide (p.addr ≤ a) then
    let lo := p.bytes.getD (a - p.addr) none
    let hi := p.bytes.getD (a + 1 - p.addr) none
    if lo.isSome || hi.isSome then
      let l := lo.getD (shadow.setWidth 8)
      let h := hi.getD ((shadow >>> 8).setWidth 8)
      some (h ++ l)
    else none
  else none

end Sys2Proof.Machine
end

