-- ==== Sys2Proof/Machine/Meter.lean ====
section
/-! DEFINITION. The Meter Unit (chapter 06): holds, reservations and charges, the journal, the account and tariff orders, the meter
store with its writer and the fold, and the load at a reset. -/

namespace Sys2Proof.Machine

/-! ## Holds and reservations (R99, R107) -/

/-- The settings block of an account, or another block, becomes dirty: it joins the dirty blocks once, in the order of first marking
(R109). -/
def markDirty (b : Block) (s : State) : State :=
  if b ∈ s.meter.dirty then s else { s with meter := { s.meter with dirty := s.meter.dirty ++ [b] } }

/-- A take that lowers the free count posts METER_FULL when it goes from 1 to 0 (R107). `before` is the free count before it. -/
def noteFull (before : Nat) (s : State) : State :=
  if before = 1 ∧ freeCount s = 0 then
    postEvent (.meterFull s.store.journal.length s.meter.reservations s.meter.failed) s
  else s

/-- One journal entry is reserved (R63, R69, R107). -/
def reserve (s : State) : State :=
  noteFull (freeCount s) { s with meter := { s.meter with reservations := s.meter.reservations + 1 } }

/-- A reservation is released (R64, R68, R107). -/
def unreserve (s : State) : State := { s with meter := { s.meter with reservations := s.meter.reservations - 1 } }

/-- An account's held clicks rise (R99). -/
def raiseHeld (a n : Nat) (s : State) : State := setAccount a { accountOf s a with held := (accountOf s a).held + n } s

/-- An account's held clicks fall (R99). -/
def lowerHeld (a n : Nat) (s : State) : State := setAccount a { accountOf s a with held := (accountOf s a).held - n } s

/-- An account's inflight clicks rise (R99). -/
def raiseInflight (a n : Nat) (s : State) : State :=
  setAccount a { accountOf s a with inflight := (accountOf s a).inflight + n } s

/-- Both current tariffs of a size class, with the declared colour's as the provisional charge (R63, R69). -/
def captureTariff (s : State) (c : Plane) (col : Colour) : Capture :=
  let t := s.meter.tariff.get c
  ⟨t.mono, t.colour, t.of col⟩

/-- The tariff that a capture holds for a colour. -/
def Capture.of (c : Capture) : Colour → Nat
  | .mono => c.mono
  | .colour => c.colour

/-! ## Counts and the journal (R101, R106, R112, R113) -/

/-- A settlement's clicks and page on an account's counts (R101, R112). -/
def Counts.settle (c : Counts) (col : Colour) (clicks : Nat) : Counts :=
  { c with
    settled := saturate (c.settled + clicks)
    lifetimeClicks := saturate (c.lifetimeClicks + clicks)
    monoPages := if col = .mono then saturate (c.monoPages + 1) else c.monoPages
    colourPages := if col = .colour then saturate (c.colourPages + 1) else c.colourPages }

/-- A credit on an account's counts (R103, R112). -/
def Counts.credit (c : Counts) (clicks : Nat) : Counts := { c with settled := c.settled - clicks }

/-- A period roll on an account's counts (R104, R112). -/
def Counts.roll (c : Counts) : Counts := { c with lastPeriod := c.settled, settled := 0 }

/-- One page more of a measured colour. -/
def ByColour.raise (b : ByColour) : Colour → ByColour
  | .mono => { b with mono := saturate (b.mono + 1) }
  | .colour => { b with colour := saturate (b.colour + 1) }

/-- A settlement on the device totals (R101, R113). -/
def Totals.settle (t : Totals) (c : Plane) (col : Colour) (clicks : Nat) : Totals :=
  ⟨t.pages.set c ((t.pages.get c).raise col), saturate (t.clicks + clicks)⟩

/-- An entry is appended at the journal's tail with the next sequence (R106). -/
def appendEntry (b : EntryBody) (s : State) : State :=
  let q := s.store.lastSeq + 1
  { s with store := { s.store with journal := s.store.journal ++ [⟨q, b⟩], lastSeq := q } }

/-- Step 2 of a settlement: inflight falls by the provisional charge, the final clicks and the page are counted, and the page's
reservation becomes a SETTLE entry (R79, R101). -/
def chargePage (a : Nat) (c : Plane) (col : Colour) (provisional clicks : Nat) (o : Outcome) (s : State) : State :=
  let r := accountOf s a
  let t := setAccount a { r with inflight := r.inflight - provisional, counts := r.counts.settle col clicks } s
  unreserve (appendEntry (.settle a c col clicks o)
    { t with meter := { t.meter with totals := t.meter.totals.settle c col clicks } })

/-! ## Orders (R100, R102 to R105) -/

/-- SET TARIFF (R100). -/
def setTariffOrder (ps : List Nat) (s : State) : State × Answer :=
  let mono := arg ps 2
  let colour := arg ps 3
  match planeOfCode (arg ps 1) with
  | none => (s, .plain .range 1)
  | some c =>
    checked
      [(decide (mono = 0) || decide (255 < mono), .plain .range 2),
       (decide (colour = 0) || decide (255 < colour), .plain .range 3),
       (decide (colour < mono), .plain .range 3)] s fun s =>
      (markDirty .tariff { s with meter := { s.meter with tariff := s.meter.tariff.set c ⟨mono, colour⟩ } },
       .doneWith (leBytes 1 mono ++ leBytes 1 colour))

/-- SET ACCOUNT (R102). -/
def setAccountOrder (ps : List Nat) (s : State) : State × Answer :=
  let a := arg ps 1
  let limit := arg ps 3
  match decide (255 < a), AccountState.ofCode (arg ps 2) with
  | true, _ => (s, .plain .range 1)
  | false, none => (s, .plain .range 2)
  | false, some st =>
    checked [(decide (16777215 < limit), .plain .range 3)] s fun s =>
      let r := accountOf s a
      (markDirty (.accountSettings a) (setAccount a { r with settings := ⟨st, limit⟩ } s),
       .doneWith (leBytes 4 r.counts.settled ++ leBytes 2 r.inflight ++ leBytes 2 r.held))

/-- CREDIT ACCOUNT (R103). -/
def creditAccountOrder (ps : List Nat) (s : State) : State × Answer :=
  let a := arg ps 1
  let amount := arg ps 2
  checked
    [(decide (255 < a), .plain .range 1),
     (decide (amount = 0) || decide (16777215 < amount), .plain .range 2),
     (decide (freeCount s = 0), .plain .meter 0)] s fun s =>
    let r := accountOf s a
    let credited := min amount r.counts.settled
    (noteFull (freeCount s)
       (appendEntry (.credit a credited) (setAccount a { r with counts := r.counts.credit credited } s)),
     .doneWith (leBytes 3 credited ++ leBytes 4 (r.counts.settled - credited)))

/-- ROLL PERIOD (R104). -/
def rollPeriodOrder (_ps : List Nat) (s : State) : State × Answer :=
  checked [(decide (freeCount s = 0), .plain .meter 0)] s fun s =>
    let accounts := Table.update Account.blank (fun _ r => { r with counts := r.counts.roll }) s.meter.accounts
    (noteFull (freeCount s) (appendEntry .roll { s with meter := { s.meter with accounts := accounts } }),
     .doneWith (leBytes 4 (s.store.lastSeq + 1)))

/-- The stored counts block of an account (R108). -/
def storedCounts (s : State) (a : Nat) : CountsBlock := Table.get CountsBlock.blank s.store.counts a

/-- READ ACCOUNT, part 0 (R105). -/
def accountItems (s : State) (a : Nat) : List Byte :=
  let r := accountOf s a
  leBytes 1 r.settings.state.code ++ leBytes 3 r.settings.limit ++ leBytes 4 r.counts.settled ++
    leBytes 4 r.counts.lastPeriod ++ leBytes 4 r.counts.lifetimeClicks ++ leBytes 4 r.counts.monoPages ++
    leBytes 4 r.counts.colourPages ++ leBytes 2 r.inflight ++ leBytes 2 r.held ++ leBytes 4 (storedCounts s a).lastFolded

/-- READ ACCOUNT, part 1 (R105): the page totals by size class and, within it, by measured colour (log entry 27). -/
def totalsItems (s : State) : List Byte :=
  let t := s.meter.totals
  let pair := fun (b : ByColour) => leBytes 4 b.mono ++ leBytes 4 b.colour
  pair t.pages.q0 ++ pair t.pages.q1 ++ pair t.pages.q2 ++ pair t.pages.q3 ++ leBytes 4 t.clicks ++
    leBytes 4 s.store.totals.lastFolded

/-- READ ACCOUNT, part 2 (R105). -/
def journalItems (s : State) : List Byte :=
  leBytes 1 s.store.journal.length ++ leBytes 1 s.meter.reservations ++ leBytes 1 (freeCount s) ++
    [flagByte s.meter.failed] ++ leBytes 4 ((s.store.journal.head?.map (·.sequence)).getD 0) ++
    leBytes 4 (s.store.lastSeq + 1)

/-- READ ACCOUNT (R105). -/
def readAccountOrder (ps : List Nat) (s : State) : State × Answer :=
  checked [(decide (255 < arg ps 1), .plain .range 1), (decide (2 < arg ps 2), .plain .range 2)] s fun s =>
    (s, .doneWith
      (match arg ps 2 with
       | 0 => accountItems s (arg ps 1)
       | 1 => totalsItems s
       | _ => journalItems s))

/-! ## The fold (R111, R112) -/

/-- An entry applied to an account's counts: what it does to the counts of account `a` (R112). -/
def Entry.onCounts (e : Entry) (a : Nat) (c : Counts) : Counts :=
  match e.body with
  | .settle b _ col clicks _ => if b = a then c.settle col clicks else c
  | .credit b clicks => if b = a then c.credit clicks else c
  | .roll => c.roll

/-- The entry concerns the counts block of account `a` (R112). -/
def Entry.concerns (e : Entry) (a : Nat) : Bool :=
  match e.body with
  | .settle b _ _ _ _ => decide (b = a)
  | .credit b _ => decide (b = a)
  | .roll => decide (a < 256)

/-- An entry applied to the counts block of account `a`, skipped by the block's last-folded sequence (R112). -/
def foldCounts (a : Nat) (b : CountsBlock) (e : Entry) : CountsBlock :=
  if e.concerns a && decide (b.lastFolded < e.sequence) then ⟨e.onCounts a b.counts, e.sequence⟩ else b

/-- An entry applied to the device totals block, skipped by the block's last-folded sequence (R112). -/
def foldTotals (b : TotalsBlock) (e : Entry) : TotalsBlock :=
  match e.body with
  | .settle _ c col clicks _ =>
    if b.lastFolded < e.sequence then ⟨b.totals.settle c col clicks, e.sequence⟩ else b
  | _ => b

/-- The counts block of an account takes an entry: it is concerned and does not skip (R112). -/
def countsTake (st : Store) (e : Entry) (a : Nat) : Bool :=
  e.concerns a && decide ((Table.get CountsBlock.blank st.counts a).lastFolded < e.sequence)

/-- The device totals block takes an entry (R112). -/
def totalsTake (st : Store) (e : Entry) : Bool :=
  match e.body with
  | .settle .. => decide (st.totals.lastFolded < e.sequence)
  | _ => false

/-- The next store write that an entry needs, none when every block it concerns has taken it (R111, R112). A ROLL goes through the
accounts in ascending order. -/
def entryWrite (st : Store) (e : Entry) : Option StoreWrite :=
  match e.body with
  | .settle a _ _ _ _ =>
    let c := countsTake st e a
    let t := totalsTake st e
    if c || t then some (.fold e (if c then some a else none) t) else none
  | .credit a _ => if countsTake st e a then some (.fold e (some a) false) else none
  | .roll => ((List.range 256).find? (countsTake st e)).map fun a => .fold e (some a) false

/-- The contents of a background block as they stand in use (R109). -/
def writeBlock (b : Block) (s : State) : Store :=
  match b with
  | .accountSettings a =>
    { s.store with settings := Table.set AccountSettings.blank s.store.settings a (accountOf s a).settings }
  | .tariff => { s.store with tariff := s.meter.tariff }
  | .coverage => { s.store with coverage := s.coverage.settings }
  | .supplySettings => { s.store with supply := s.supply.settings }
  | .seenList => { s.store with seen := s.supply.seen }

/-- A fold write on the counts block of an account, where it covers one (R112). -/
def foldInto (e : Entry) (account : Option Nat) (st : Store) : Store :=
  match account with
  | some a =>
    let b := foldCounts a (Table.get CountsBlock.blank st.counts a) e
    { st with counts := Table.set CountsBlock.blank st.counts a b }
  | none => st

/-- The record area after a store write has committed (R108, R112). The contents of a background block are those at the commit:
DESIGN CHOICE, log entry 14. -/
def committed (w : StoreWrite) (s : State) : Store :=
  match w with
  | .block b => writeBlock b s
  | .fold e account totals =>
    let st := foldInto e account s.store
    if totals then { st with totals := foldTotals st.totals e } else st

/-- A write is a fold write. -/
def StoreWrite.isFold : StoreWrite → Bool
  | .fold .. => true
  | .block _ => false

/-- A write that has committed: the store takes it, and a dirty block stops being dirty (R109). -/
def commitWrite (w : StoreWrite) (s : State) : State :=
  let dirty := match w with
    | .block b => s.meter.dirty.erase b
    | .fold .. => s.meter.dirty
  { s with store := committed w s, meter := { s.meter with dirty := dirty, write := none, lastWasFold := w.isFold } }

/-- The block that a STORE_FAULT names, and the sequence being folded, 0 for a block written outside the fold (R110, R181). A write
that covers two blocks names the account's: DESIGN CHOICE, log entry 15. -/
def faultBlock : StoreWrite → FaultBlock × Nat
  | .block b => (.background b, 0)
  | .fold e (some a) _ => (.counts a, e.sequence)
  | .fold e none _ => (.totals, e.sequence)

/-- The store is marked FAILED and STORE_FAULT is posted (R110). -/
def failStore (w : StoreWrite) (s : State) : State :=
  let t := { s with meter := { s.meter with write := none, lastWasFold := w.isFold, failed := true } }
  postEvent (.storeFault (faultBlock w).1 (faultBlock w).2 t.store.journal.length) t

/-- The fold removes the head entries that every block they concern has taken (R111). -/
def dropFolded (s : State) : State :=
  { s with store := { s.store with journal := s.store.journal.dropWhile fun e => (entryWrite s.store e).isNone } }

/-- The next write of the writer: dirty blocks and fold writes alternate where both wait (R109). -/
def nextWrite (s : State) : Option StoreWrite :=
  let fold := s.store.journal.head?.bind (entryWrite s.store)
  let block := s.meter.dirty.head?.map StoreWrite.block
  if s.meter.lastWasFold then block.or fold else fold.or block

/-- The writer takes its next write when none is in progress and the store is not FAILED (R109, R110). -/
def startWrite (s : State) : State :=
  if s.meter.write.isNone && !s.meter.failed then
    { s with meter := { s.meter with write := (nextWrite s).map fun w => (w, 1) } }
  else s

/-! ## The load (R116) -/

/-- An account in use after a load: its settings block, and its counts block with every journal entry applied in order, skipping by
the block's last-folded sequence (R116). -/
def loadedAccount (st : Store) (a : Nat) : Account :=
  { settings := Table.get AccountSettings.blank st.settings a
    counts := (st.journal.foldl (foldCounts a) (Table.get CountsBlock.blank st.counts a)).counts
    inflight := 0
    held := 0 }

/-- The Meter Unit after a load, before the fold begins (R116). Fold complete is reported at once when the journal is empty (R117). -/
def loadedMeter (st : Store) : Meter :=
  { accounts := Table.ofFn Account.blank 256 (loadedAccount st)
    tariff := st.tariff
    totals := (st.journal.foldl foldTotals st.totals).totals
    reservations := 0
    dirty := []
    write := none
    lastWasFold := false
    failed := false
    foldReported := st.journal.isEmpty }

end Sys2Proof.Machine
end

