-- ==== Sys2Proof/Machine/Supply.lean ====
section
/-! DEFINITION. The Supply Unit (chapter 07): slot states, exchanges and answers on the supply links, verification, the seen list, the
debit of R136 to R138, the three supply orders, and the board lines' settled changes. -/

namespace Sys2Proof.Machine

/-! ## Slot states (R119, R143) -/

/-- A slot record changed. -/
def modifySlot (n : Plane) (f : Slot → Slot) (s : State) : State := setSlot n (f (slotOf s n)) s

/-- The serial and model of a slot's cartridge fields. -/
def Slot.identity (r : Slot) : Option (BitVec 48 × BitVec 16) := r.cartridge.map fun c => (c.serial, c.model)

/-- The serial field of a slot. -/
def Slot.serial (r : Slot) : Option (BitVec 48) := r.cartridge.map (·.serial)

/-- A slot takes a state; a change posts SLOT_CHANGE (R143). `offered` is the serial and model of a cartridge rejected at
verification. -/
def setSlotState (n : Plane) (new : SlotState) (offered : Option (BitVec 48 × BitVec 16)) (s : State) : State :=
  let r := slotOf s n
  if r.state = new then s
  else
    postEvent (.slotChange n r.state new (offered.or r.identity) r.gauge r.clamped) (setSlot n { r with state := new } s)

/-- The slot is settled present and the door settled closed: it may be probed (R123). -/
def mayProbe (n : Plane) (s : State) : Bool := s.supply.presence.get n && s.supply.doorClosed

/-! ## The seen list (R132, R133) -/

/-- The entry of a serial in the seen list. -/
def seenOf (s : State) (serial : BitVec 48) : Option SeenEntry := s.supply.seen.find? fun e => decide (e.serial = serial)

/-- A serial verified or confirmed stands at the front with owed 0; a ninth entry pushes out the last (R132). -/
def enterSeen (serial : BitVec 48) (floor : Nat) (l : List SeenEntry) : List SeenEntry :=
  (⟨serial, floor, 0⟩ :: l.filter fun e => decide (e.serial ≠ serial)).take 8

/-- The owed of a serial's entry is written; the entry keeps its place (R132, R133). -/
def owe (serial : BitVec 48) (owed : Nat) (l : List SeenEntry) : List SeenEntry :=
  l.map fun e => if e.serial = serial then { e with owed := owed } else e

/-- The seen list in use is written and its block marked dirty (R133, log entry 16). -/
def putSeen (l : List SeenEntry) (s : State) : State :=
  markDirty .seenList { s with supply := { s.supply with seen := l } }

/-- The owed of a slot's serial takes the slot's pending, if the serial is present and in the seen list (R133). -/
def oweSlot (n : Plane) (s : State) : State :=
  match (slotOf s n).serial with
  | none => s
  | some serial =>
    if (seenOf s serial).isSome then putSeen (owe serial (slotOf s n).pending s.supply.seen) s else s

/-- A change of pending while the supply-fall warning is asserted writes owed again (R133). -/
def oweUnderPfw (n : Plane) (s : State) : State := if s.sup.pfw then oweSlot n s else s

/-- The assertion of the supply-fall warning acts on every slot (R133, R176). -/
def oweAll (s : State) : State := oweSlot 3 (oweSlot 2 (oweSlot 1 (oweSlot 0 s)))

/-! ## Exchanges (R125 to R128, R136) -/

/-- A frame with a fresh nonce is sent as an attempt of an exchange (R125). -/
def sendAttempt (n : Plane) (exchange : BitVec 64 → Exchange) (frame : BitVec 64 → List LinkChar) (s : State) : State :=
  let nonce := Config.nonceSource s.nonceDraws
  modifySlot n (fun r => { r with exchange := exchange nonce, sending := r.sending ++ [⟨frame nonce, true⟩] })
    { s with nonceDraws := s.nonceDraws + 1 }

/-- An attempt of an IDENT exchange sends ASK (R127). -/
def identAttempt (n : Plane) (attempt : Nat) (s : State) : State := sendAttempt n (.ident attempt) askFrame s

/-- An attempt of a DEBIT exchange sends DEBIT with the exchange's target (R136). -/
def debitAttempt (n : Plane) (attempt target : Nat) (capped : Bool) (s : State) : State :=
  sendAttempt n (fun nonce => .debit attempt nonce target capped) (debitFrame target) s

/-- An IDENT exchange begins: the slot's probe delay and re-probe timer stop, it becomes PROBING, and the first ASK is sent (R127,
R128, R140). -/
def beginIdent (n : Plane) (s : State) : State :=
  identAttempt n 1
    (setSlotState n .probing none (modifySlot n (fun r => { r with probeDelay := none, reprobe := none }) s))

/-- The condition of R136 on a slot, for a debit quantum. -/
def Slot.startsDebit (quantum : Nat) (r : Slot) : Bool :=
  decide (r.state = .verified) && decide (r.exchange = .none) && !r.retryWaiting &&
    (decide (quantum ≤ r.pending) || (decide (0 < r.pending) && decide (r.gauge = some 0)))

/-- The debit start condition is tested, and a DEBIT exchange starts where it holds: the target is the smaller of dispensed + pending
and the capacity (R136). -/
def testDebit (n : Plane) (s : State) : State :=
  let r := slotOf s n
  match r.cartridge with
  | some c =>
    if r.startsDebit s.supply.settings.quantum then
      debitAttempt n 1 (min (c.dispensed + r.pending) c.capacity) (decide (c.capacity < c.dispensed + r.pending)) s
    else s
  | none => s

/-- A deferred PROBE SLOT waits on the slot (R140). -/
def probeWaits (n : Plane) (s : State) : Bool := s.orders.deferred.any fun d => decide (d.object = .probeSlot n)

/-- The final answer of a PROBE SLOT from a slot record (R140, R180). -/
def probeAnswer (r : Slot) : Answer :=
  { code := .done
    detail := 0
    data := some
      { items := leBytes 1 r.state.code ++ leBytes 1 ((r.state.reason.map (·.code)).getD 0) ++
          leBytes 6 ((r.serial.map (·.toNat)).getD 0) ++ leBytes 3 (r.gauge.getD 0)
        marks := markByte [r.state.reason.isSome, r.serial.isSome] } }

/-- The PROBE SLOT orders that wait on a slot are answered from its record (R140). -/
def answerProbes (n : Plane) (s : State) : State :=
  answerDeferred (fun d => decide (d.object = .probeSlot n)) (fun _ => probeAnswer (slotOf s n)) s

/-- The exchange field becomes NONE and the answer window ends. -/
def endExchange (n : Plane) (s : State) : State := modifySlot n (fun r => { r with exchange := .none, window := none }) s

/-- The third attempt of an IDENT exchange has failed (R127, R128). -/
def identFailed (n : Plane) (s : State) : State :=
  let t := setSlotState n .suspect none (endExchange n s)
  answerProbes n (modifySlot n (fun r => { r with reprobe := some t.time }) t)

/-- A DEBIT exchange has ended: a waiting PROBE SLOT begins its IDENT exchange, otherwise `go` (R137 step 7, R138, R140). -/
def afterDebit (n : Plane) (go : State → State) (s : State) : State := if probeWaits n s then beginIdent n s else go s

/-- The third attempt of a DEBIT exchange has failed (R138). -/
def debitFailed (n : Plane) (s : State) : State :=
  afterDebit n id (modifySlot n (fun r => { r with retryWaiting := true }) (endExchange n s))

/-- A failed attempt: the next attempt with a new nonce, or after the third the exchange's failure (R124, R125). -/
def failAttempt (n : Plane) (s : State) : State :=
  match (slotOf s n).exchange with
  | .none => s
  | .ident a _ => if a < 3 then identAttempt n (a + 1) s else identFailed n s
  | .debit a _ target capped => if a < 3 then debitAttempt n (a + 1) target capped s else debitFailed n s

/-- The frame that is being sent goes to its end and any answer to it is discarded; frames behind it are not begun (R126, log entry
20). -/
def dropSending : List Sending → List Sending
  | [] => []
  | f :: _ => [{ f with live := false }]

/-- An exchange in flight is abandoned (R126). -/
def abandonExchange (n : Plane) (s : State) : State :=
  if (slotOf s n).exchange = .none then s
  else modifySlot n (fun r => { r with exchange := .none, window := none, sending := dropSending r.sending }) s

/-! ## Debit (R91, R92, R134) -/

/-- A settled debit reaches a slot's pending: it saturates and sets CLAMPED, owed follows under the supply-fall warning, retry waiting
is cleared and the debit start condition is tested (R91, R92, R133, R136, R138). -/
def addDebit (n : Plane) (debit : Nat) (s : State) : State :=
  let r := slotOf s n
  let sum := r.pending + debit
  let clamps := decide (65535 < sum)
  let r' := { r with pending := min sum 65535, clamped := r.clamped || clamps, retryWaiting := false }
  let t := setSlot n r' s
  let t := if clamps && !r.clamped then postEvent (.slotChange n r.state r.state r'.identity r'.gauge true) t else t
  let t := if r'.pending = r.pending then t else oweUnderPfw n t
  testDebit n t

/-- SUPPLY_LOW is posted when the gauge is below the low threshold and low-warned is clear (R139). -/
def testLow (n : Plane) (s : State) : State :=
  let r := slotOf s n
  match r.cartridge, r.gauge with
  | some c, some g =>
    if g < lowThreshold s c.capacity ∧ r.lowWarned = false then
      postEvent (.supplyLow n c.serial g c.capacity (lowThreshold s c.capacity)) (setSlot n { r with lowWarned := true } s)
    else s
  | _, _ => s

/-! ## Verification (R129 to R131) -/

/-- What an IDENT carries but its tag (R124). -/
structure IdentClaim where
  serial    : BitVec 48
  model     : BitVec 16
  capacity  : Nat
  dispensed : Nat
  flags     : Byte
  deriving DecidableEq, Repr

/-- The floor of record: the greater of the serial's floor in the seen list and the slot's dispensed for the same serial; 0 where
neither applies (R129). -/
def floorOfRecord (n : Plane) (serial : BitVec 48) (s : State) : Nat :=
  max (((seenOf s serial).map (·.floor)).getD 0)
    (match (slotOf s n).cartridge with
     | some c => if c.serial = serial then c.dispensed else 0
     | none => 0)

/-- The model key table's entry for a model (R130). -/
def modelEntry (s : State) (model : BitVec 16) : Option ModelEntry := s.supply.models.find? fun e => decide (e.model = model)

/-- The first check of R129 that an IDENT fails. -/
def identCheck (n : Plane) (nonce : BitVec 64) (i : IdentClaim) (tag : BitVec 64) (s : State) : Option RejectReason :=
  match modelEntry s i.model with
  | none => some .model
  | some m =>
    if m.plane ≠ n then some .plane
    else if Config.tagFunction m.key ⟨0x02, nonce, i.serial, i.model, i.capacity, i.dispensed⟩ ≠ tag then some .tag
    else if m.ceiling < i.capacity then some .capacity
    else if i.dispensed < floorOfRecord n i.serial s then some .rollback
    else none

/-- The pending that a verification leaves (R131, step 2). -/
def verifiedPending (n : Plane) (i : IdentClaim) (s : State) : Nat :=
  let r := slotOf s n
  match r.cartridge with
  | some c =>
    if c.serial = i.serial then c.dispensed + r.pending - i.dispensed
    else ((seenOf s i.serial).map fun e => e.floor + e.owed - i.dispensed).getD 0
  | none => ((seenOf s i.serial).map fun e => e.floor + e.owed - i.dispensed).getD 0

/-- The end-of-life mark of the cartridge flags (R131, R182). -/
def endOfLife (flags : Byte) : Bool := flags.getLsbD 0

/-- The state that a verification gives: EXHAUSTED by the gauge or the end-of-life mark, else VERIFIED (R131, step 6). -/
def verifiedState (r : Slot) : SlotState :=
  if decide (r.gauge = some 0) || (r.cartridge.map fun c => endOfLife c.flags).getD false then .exhausted else .verified

/-- The Coverage Unit clears a slot's residue (R87). -/
def clearResidue (n : Plane) (s : State) : State :=
  { s with coverage := { s.coverage with residues := s.coverage.residues.set n 0 } }

/-- A verified IDENT is taken into the slot (R131, steps 1 to 8). -/
def takeVerified (n : Plane) (i : IdentClaim) (s : State) : State :=
  let same := decide ((slotOf s n).serial = some i.serial)
  let t := if same then s else oweSlot n s
  let pending := verifiedPending n i t
  let t := if same then t
    else clearResidue n (modifySlot n (fun r => { r with clamped := false, lowWarned := false }) t)
  let t := modifySlot n (fun r =>
    { r with cartridge := some ⟨i.serial, i.model, i.capacity, i.dispensed, i.flags⟩
             pending := pending
             retryWaiting := false }) t
  let t := oweUnderPfw n (putSeen (enterSeen i.serial i.dispensed t.supply.seen) t)
  testDebit n (testLow n (setSlotState n (verifiedState (slotOf t n)) none t))

/-- An IDENT answer ends its exchange: it is verified or rejected, and waiting PROBE SLOT orders are answered (R127, R129, R140). -/
def judgeIdent (n : Plane) (nonce : BitVec 64) (i : IdentClaim) (tag : BitVec 64) (s : State) : State :=
  let t := endExchange n s
  answerProbes n
    (match identCheck n nonce i tag t with
     | some reason => setSlotState n (.rejected reason) (some (i.serial, i.model)) t
     | none => takeVerified n i t)

/-! ## Confirmation (R137) -/

/-- The first finding of R137 against a TALLY. -/
def tallyCheck (c : Cartridge) (key : Option ModelKey) (nonce : BitVec 64) (target : Nat) (serial : BitVec 48)
    (dispensed : Nat) (tag : BitVec 64) : Option RejectReason :=
  if serial ≠ c.serial then some .tag
  else
    match key with
    | none => some .tag
    | some k =>
      if Config.tagFunction k ⟨0x04, nonce, serial, c.model, c.capacity, dispensed⟩ ≠ tag then some .tag
      else if dispensed ≠ target then some .count
      else none

/-- A confirmation (R137, steps 1 to 7). -/
def confirmDebit (n : Plane) (c : Cartridge) (target : Nat) (capped : Bool) (s : State) : State :=
  let t := modifySlot n (fun r =>
    { r with cartridge := some { c with dispensed := target }
             pending := if capped then 0 else r.pending - (target - c.dispensed) }) s
  let t := oweUnderPfw n (putSeen (enterSeen c.serial target t.supply.seen) t)
  let t := if (slotOf t n).gauge = some 0 then setSlotState n .exhausted none t else t
  afterDebit n (testDebit n) (endExchange n (testLow n t))

/-- A TALLY answer to a DEBIT exchange is judged; a rejection ends the exchange and answers the waiting PROBE SLOT orders (R137,
R140). -/
def judgeTally (n : Plane) (nonce : BitVec 64) (target : Nat) (capped : Bool) (serial : BitVec 48) (dispensed : Nat)
    (tag : BitVec 64) (s : State) : State :=
  match (slotOf s n).cartridge with
  | none => s
  | some c =>
    match tallyCheck c ((modelEntry s c.model).map (·.key)) nonce target serial dispensed tag with
    | some reason => answerProbes n (setSlotState n (.rejected reason) none (endExchange n s))
    | none => confirmDebit n c target capped s

/-! ## Answers on the links (R124) -/

/-- A complete answer is judged by the exchange in flight: a faulty frame, a wrong kind and a DECLINE fail the attempt, and a DECLINE's
reason is kept (R124, R125). -/
def judgeAnswer (n : Plane) (f : LinkFrame) (s : State) : State :=
  match (slotOf s n).exchange, f with
  | .ident _ nonce, .ident serial model capacity dispensed flags tag =>
    judgeIdent n nonce ⟨serial, model, capacity, dispensed, flags⟩ tag s
  | .debit _ nonce target capped, .tally serial dispensed tag => judgeTally n nonce target capped serial dispensed tag s
  | _, .decline reason => failAttempt n (modifySlot n (fun r => { r with lastDecline := some reason }) s)
  | _, _ => failAttempt n s

/-- The characters that complete a frame within a running answer window end the window and are judged; outside a window they are
discarded (R124). -/
def frameReceived (n : Plane) (chars : List LinkChar) (s : State) : Option State :=
  match (slotOf s n).window with
  | none => none
  | some t =>
    if 20 < span s.time t then none
    else
      match decodeFrame chars with
      | .incomplete => none
      | f => some (judgeAnswer n f (modifySlot n (fun r => { r with window := none }) s))

/-- The last byte of the frame being sent has gone out: the answer window of a live attempt starts (R124, R126). -/
def frameSent (n : Plane) (s : State) : Option State :=
  match (slotOf s n).sending with
  | [] => none
  | f :: rest =>
    some (modifySlot n (fun r => { r with sending := rest, window := if f.live then some s.time else r.window }) s)

/-- The answer window ends with no complete frame (R124). -/
def windowExpired (n : Plane) (s : State) : Option State :=
  (slotOf s n).window.map fun t => failAttempt n (modifySlot n (fun r => { r with window := none }) (reachTime t 20 s))

/-! ## Slot timers (R123, R128) -/

/-- The probe delay expires (R123). -/
def probeDelayExpired (n : Plane) (s : State) : Option State :=
  (slotOf s n).probeDelay.map fun t =>
    let u := modifySlot n (fun r => { r with probeDelay := none }) (reachTime t 500 s)
    if decide ((slotOf u n).state = .unknown) && mayProbe n u then beginIdent n u else u

/-- The re-probe timer expires (R128). -/
def reprobeExpired (n : Plane) (s : State) : Option State :=
  (slotOf s n).reprobe.map fun t =>
    let u := modifySlot n (fun r => { r with reprobe := none }) (reachTime t 2000 s)
    if decide ((slotOf u n).state = .suspect) && mayProbe n u then beginIdent n u else u

/-! ## Lines (R120 to R123) -/

/-- LINES is posted with the snapshot as it stands (R120). -/
def postLines (s : State) : State := postEvent (.lines (snapshot s)) s

/-- A slot's probe delay and re-probe timer stop. -/
def stopSlotTimers (n : Plane) (s : State) : State := modifySlot n (fun r => { r with probeDelay := none, reprobe := none }) s

/-- What a door opening does to a slot's state and timers (R121, steps 2 and 3). -/
def doorOpensSlot (n : Plane) (s : State) : State :=
  if (slotOf s n).state = .absent then s else stopSlotTimers n (setSlotState n .unknown none s)

/-- The waiting PROBE SLOT orders of the slots that are not ABSENT are answered with state UNKNOWN, in the order of their take (R121,
R140, R159; log entry 17). -/
def doorAnswers (s : State) : State :=
  let concerned := fun (d : Deferred) =>
    match d.object with
    | .probeSlot n => decide ((slotOf s n).state ≠ .absent)
    | _ => false
  let answer := fun (d : Deferred) =>
    match d.object with
    | .probeSlot n => probeAnswer { slotOf s n with state := .unknown }
    | _ => Answer.done
  answerDeferred concerned answer s

/-- The door opens: its settled level is open at once (R120, R121). -/
def doorOpened (s : State) : State :=
  let t := { s with supply := { s.supply with doorClosed := false, doorTimer := none } }
  let t := doorAnswers (abandonExchange 3 (abandonExchange 2 (abandonExchange 1 (abandonExchange 0 t))))
  postLines (doorOpensSlot 3 (doorOpensSlot 2 (doorOpensSlot 1 (doorOpensSlot 0 t))))

/-- What a settled closing of the door does to a slot (R123). -/
def doorClosesSlot (n : Plane) (s : State) : State :=
  if s.supply.presence.get n then
    let t := setSlotState n .unknown none s
    modifySlot n (fun r => { r with probeDelay := some t.time }) t
  else s

/-- The door has settled closed (R123). -/
def doorShut (s : State) : State :=
  let t := { s with supply := { s.supply with doorClosed := true } }
  postLines (doorClosesSlot 3 (doorClosesSlot 2 (doorClosesSlot 1 (doorClosesSlot 0 t))))

/-- A presence line has settled low: the departure of R122. -/
def presenceFell (n : Plane) (s : State) : State :=
  let t := { s with supply := { s.supply with presence := s.supply.presence.set n false } }
  let t := abandonExchange n t
  let t := answerDeferred (fun d => decide (d.object = .probeSlot n))
    (fun _ => probeAnswer { slotOf t n with state := .absent }) t
  postLines (stopSlotTimers n (setSlotState n .absent none (oweSlot n t)))

/-- A presence line has settled high: the rise of R123. -/
def presenceRose (n : Plane) (s : State) : State :=
  let t := { s with supply := { s.supply with presence := s.supply.presence.set n true } }
  let t := setSlotState n .unknown none t
  postLines (if t.supply.doorClosed then modifySlot n (fun r => { r with probeDelay := some t.time }) t else t)

/-- The raw level of a line on the board (11.7). -/
def rawLevel (l : Line) (s : State) : Bool :=
  match l with
  | .presence n => s.lines.presence.get n
  | .door => s.lines.doorClosed

/-- The raw level of a line takes a value. -/
def setRaw (l : Line) (level : Bool) (s : State) : State :=
  match l with
  | .presence n => { s with lines := { s.lines with presence := s.lines.presence.set n level } }
  | .door => { s with lines := { s.lines with doorClosed := level } }

/-- A raw change of a line reaches the Supply Unit: a door opening is taken at once; otherwise the settle timer starts when the levels come
to differ and stops when they agree again (R120). -/
def noteRaw (l : Line) (level : Bool) (s : State) : State :=
  match l with
  | .presence n =>
    let timer := if level = s.supply.presence.get n then none else some s.time
    { s with supply := { s.supply with presenceTimers := s.supply.presenceTimers.set n timer } }
  | .door =>
    if s.supply.doorClosed && !level then doorOpened s
    else
      let timer := if level = s.supply.doorClosed then none else some s.time
      { s with supply := { s.supply with doorTimer := timer } }

/-- The settle timer of a line expires, and the settled level takes the raw level (R120). -/
def lineSettled (l : Line) (s : State) : Option State :=
  match l with
  | .presence n =>
    (s.supply.presenceTimers.get n).map fun r =>
      let t := reachTime r 500 s
      let t := { t with supply := { t.supply with presenceTimers := t.supply.presenceTimers.set n none } }
      if s.lines.presence.get n then presenceRose n t else presenceFell n t
  | .door =>
    s.supply.doorTimer.map fun r =>
      let t := reachTime r 500 s
      let t := { t with supply := { t.supply with doorTimer := none } }
      if s.lines.doorClosed then doorShut t else doorOpened t

/-! ## Orders (R140 to R142) -/

/-- PROBE SLOT (R140). -/
def probeSlotOrder (ps : List Nat) (s : State) : State × Answer :=
  match planeOfCode (arg ps 1) with
  | none => (s, .plain .range 1)
  | some n =>
    checked
      [(decide ((slotOf s n).state = .absent) || !s.supply.doorClosed, .plain .state 1),
       (decide (8 ≤ s.orders.deferred.length), .plain .busy 0)] s fun s =>
      let t := deferOrder s.orders.take (.probeSlot n) s
      (if (slotOf t n).exchange = .none then beginIdent n t else t, .plain .pending 0)

/-- The answer area of READ SLOT (R141, R180). -/
def slotItems (n : Plane) (s : State) : AnswerData :=
  let r := slotOf s n
  let c := r.cartridge.getD ⟨0, 0, 0, 0, 0⟩
  let attempt := match r.exchange with
    | .none => none
    | .ident a _ => some a
    | .debit a _ _ _ => some a
  { items := leBytes 1 r.state.code ++ leBytes 1 ((r.state.reason.map (·.code)).getD 0) ++ leBytes 6 c.serial.toNat ++
      leBytes 2 c.model.toNat ++ leBytes 3 c.capacity ++ leBytes 3 c.dispensed ++ [c.flags] ++ leBytes 2 r.pending ++
      leBytes 3 (r.gauge.getD 0) ++ leBytes 3 (lowThreshold s c.capacity) ++
      [flagByte r.clamped, flagByte r.lowWarned, flagByte r.retryWaiting, r.lastDecline.getD 0] ++
      leBytes 1 r.exchange.code ++ leBytes 1 (attempt.getD 0) ++ [(snapshot s).byte]
    marks := markByte [r.state.reason.isSome, r.cartridge.isSome, r.lastDecline.isSome, attempt.isSome] }

/-- READ SLOT (R141). -/
def readSlotOrder (ps : List Nat) (s : State) : State × Answer :=
  match planeOfCode (arg ps 1) with
  | none => (s, .plain .range 1)
  | some n => (s, ⟨.done, 0, some (slotItems n s)⟩)

/-- SET SUPPLY (R142). -/
def setSupplyOrder (ps : List Nat) (s : State) : State × Answer :=
  let quantum := arg ps 1
  let lowMark := arg ps 2
  checked
    [(decide (quantum = 0) || decide (4096 < quantum), .plain .range 1),
     (decide (1000 < lowMark), .plain .range 2)] s fun s =>
    let t := { s with supply := { s.supply with settings := ⟨quantum, lowMark⟩ } }
    (markDirty .supplySettings (testDebit 3 (testDebit 2 (testDebit 1 (testDebit 0 t)))),
     .doneWith (leBytes 2 quantum ++ leBytes 2 lowMark))

end Sys2Proof.Machine
end

