-- ==== Sys2Proof/Machine/Coverage.lean ====
section
/-! DEFINITION. The Coverage Unit (chapter 05): level sums, measured colour, permille coverage, toner debits with their residues, and
the two coverage orders. -/

namespace Sys2Proof.Machine

/-- The four members of a quad changed, with their numbers. -/
def Quad.imap {α β : Type} (q : Quad α) (f : Plane → α → β) : Quad β := ⟨f 0 q.q0, f 1 q.q1, f 2 q.q2, f 3 q.q3⟩

/-! ## Level sums (R83, R84) -/

/-- The level of pixel `j` of a raster byte, the first in the two most significant bits (11.6). -/
def pixelLevel (b : Byte) (j : Nat) : Nat := b.toNat / 4 ^ (3 - j) % 4

/-- The sum of the levels of the first `k` pixels of a byte. -/
def levelSum (k : Nat) (b : Byte) : Nat := ((List.range k).map (pixelLevel b)).sum

/-- The bytes of a plane: the ceiling of pixels / 4 (R57). -/
def planeLength (pixels : Nat) : Nat := (pixels + 3) / 4

/-- How many pixels of the byte at an offset are the page's: fewer than four in the last byte of a plane that the pixel count does not
fill (R83). -/
def pagePixels (pixels offset : Nat) : Nat :=
  if offset + 1 = planeLength pixels ∧ pixels % 4 ≠ 0 then pixels % 4 else 4

/-- What counted bytes from an offset on add to a plane's sum (R71, R83, R84). -/
def countedSum (pixels : Nat) : Nat → List Byte → Nat
  | _, [] => 0
  | offset, b :: t => levelSum (pagePixels pixels offset) b + countedSum pixels (offset + 1) t

/-! ## The settlement's figures (R85 to R90) -/

/-- The least count of level-dots that measures as colour: the ceiling of pixels × 9 × θ / 65,536 (R85). -/
def colourCount (pixels threshold : Nat) : Nat := (pixels * 9 * threshold + 65535) / 65536

/-- The measured colour of a page (R85). -/
def measuredColour (threshold : Nat) (p : Page) : Colour :=
  match p.colour with
  | .mono => .mono
  | .colour => if colourCount p.pixels threshold ≤ p.sums.q1 + p.sums.q2 + p.sums.q3 then .colour else .mono

/-- A page has a plane (R57). -/
def Page.hasPlane (p : Page) (n : Plane) : Bool := decide (n ∈ planesOf p.colour)

/-- The permille figures of a page, 0 for a plane that it does not have (R86). -/
def permille (p : Page) : Quad Nat := p.sums.imap fun n d => if p.hasPlane n then d * 1000 / (p.pixels * 3) else 0

/-- The product of a plane: level-dots × weight + residue (R88, step 1). -/
def tonerProduct (c : Coverage) (p : Page) (n : Plane) : Nat := p.sums.get n * c.settings.weights.get n + c.residues.get n

/-- The toner debits of a page settled PRINTED, STALLED or ABORTED (R88, step 2). -/
def tonerDebits (c : Coverage) (p : Page) : Quad Nat :=
  p.sums.imap fun n _ => if p.hasPlane n then tonerProduct c p n / 4294967296 + c.settings.overheads.get n else 0

/-- The residues after that settlement (R87, R88, step 3). -/
def tonerResidues (c : Coverage) (p : Page) : Quad Nat :=
  c.residues.imap fun n r => if p.hasPlane n then tonerProduct c p n % 4294967296 else r

/-! ## Orders (R93, R94) -/

/-- SET WEIGHTS (R93). -/
def setWeightsOrder (ps : List Nat) (s : State) : State × Answer :=
  let weight := arg ps 2
  let overhead := arg ps 3
  match planeOfCode (arg ps 1) with
  | none => (s, .plain .range 1)
  | some n =>
    checked [(decide (65535 < weight), .plain .range 2), (decide (255 < overhead), .plain .range 3)] s fun s =>
      let c := s.coverage.settings
      let settings := { c with weights := c.weights.set n (max weight 1), overheads := c.overheads.set n overhead }
      (markDirty .coverage { s with coverage := { s.coverage with settings := settings } },
       .doneWith (leBytes 2 (max weight 1) ++ leBytes 1 overhead))

/-- SET COLOUR THRESHOLD (R94). -/
def setColourThresholdOrder (ps : List Nat) (s : State) : State × Answer :=
  let threshold := arg ps 1
  checked [(decide (65535 < threshold), .plain .range 1)] s fun s =>
    let settings := { s.coverage.settings with threshold := threshold }
    (markDirty .coverage { s with coverage := { s.coverage with settings := settings } },
     .doneWith (leBytes 2 threshold))

end Sys2Proof.Machine
end

