-- ==== Sys2Proof/Machine/Frames.lean ====
section
/-! DEFINITION. Frames and views (chapter 01) and the scrub queue's moves (chapter 08): binding, releasing, retiring, the memory
size, page marks, and SET VIEW. The commands: BIND FRAMES, RELEASE FRAMES, SET VIEW; their arms stand in Machine/Orders.lean. -/

namespace Sys2Proof.Machine

/-! ## Views -/

/-- SET VIEW (R10). -/
def setViewOrder (ps : List Nat) (s : State) : State × Answer :=
  match FrameClass.ofCode (arg ps 1), sourceOfTag (arg ps 2), View.ofCode (arg ps 3) with
  | none, _, _ => (s, .plain .range 1)
  | _, none, _ => (s, .plain .range 2)
  | _, _, none => (s, .plain .range 3)
  | some c, some src, some v =>
    checked [(senseless c v, .plain .range 3), (pinned c src, .plain .pinned 2)] s fun s =>
      ({ s with views := s.views.put c src v }, .done)

/-! ## The scrub queue (R144 to R148) -/

/-- A frame becomes the head of the scrub queue: SCRUBBING, flag clear, progress 0, its line 0 offered (R146). -/
def startHead (f : Nat) (s : State) : State :=
  setFrame f ⟨.scrubbing, false⟩ { s with scrub := { s.scrub with progress := some 0, offered := true } }

/-- A frame is retired: it joins the tail of the queue, and an empty queue makes it the head within the same take (R145). -/
def retireFrame (f : Nat) (s : State) : State :=
  let t := setFrame f ⟨.retired, false⟩ { s with scrub := { s.scrub with queue := s.scrub.queue ++ [f] } }
  if s.scrub.queue = [] then startHead f t else t

/-- SCRUB_IDLE is posted and both counts return to 0 (R149). -/
def scrubIdle (last : Nat) (how : ScrubHow) (s : State) : State :=
  let t := postEvent (.scrubIdle s.scrub.scrubbed s.scrub.removed last how) s
  { t with scrub := { t.scrub with scrubbed := 0, removed := 0 } }

/-- After the head has left, the next entry becomes the head, or the empty queue posts SCRUB_IDLE (R148, R150). -/
def nextHead (last : Nat) (how : ScrubHow) (s : State) : State :=
  match s.scrub.queue with
  | f :: _ => startHead f s
  | [] => scrubIdle last how s

/-- The head frame's scrub ends (R148). -/
def endScrub (f : Nat) (s : State) : State :=
  nextHead f .scrubbed
    (setFrame f FrameEntry.free
      { s with scrub :=
          { s.scrub with queue := s.scrub.queue.tail, progress := none, offered := false,
                         scrubbed := hold16 (s.scrub.scrubbed + 1) } })

/-! ## Binding and releasing (R14 to R17) -/

/-- A frame released under a job slot: RETIRED or OPEN by the job's privacy and scrub-on-release flag, and the job's count of bound
frames falls by one (R17). -/
def releaseFrame (j : Nat) (s : State) (f : Nat) : State :=
  let r := jobOf s j
  setJob j { r with bound := r.bound - 1 } (if r.retires then retireFrame f s else setFrame f FrameEntry.free s)

/-- A frame that is BOUND to a job slot, with its binding. -/
def boundTo (j : Nat) (e : FrameEntry) : Option Binding :=
  match e.state with
  | .bound b => if b.job = j then some b else none
  | _ => none

/-- The frames BOUND to a job slot, in ascending order of frame number. -/
def framesOf (s : State) (j : Nat) : List Nat :=
  (s.frames.entries.filter fun e => (boundTo j e.2).isSome).map (·.1)

/-- A logical block from `lb` up to `lb + n` is carried by a BOUND frame of the job (R14). -/
def blockTaken (s : State) (j lb n : Nat) : Bool :=
  s.frames.entries.any fun e =>
    match boundTo j e.2 with
    | some b => decide (lb ≤ b.block) && decide (b.block < lb + n)
    | none => false

/-- The frames of a run. -/
def run (first count : Nat) : List Nat := (List.range count).map (first + ·)

/-- The run's frames take their bindings in ascending order (R15). -/
def bindRun (j first count lb : Nat) (s : State) : State :=
  (List.range count).foldl (fun t i => setFrame (first + i) ⟨.bound ⟨j, lb + i, none⟩, false⟩ t) s

/-- BIND FRAMES (R14, R15). -/
def bindFramesOrder (ps : List Nat) (s : State) : State × Answer :=
  let j := arg ps 1
  let first := arg ps 3
  let count := arg ps 4
  let lb := arg ps 5
  checked
    [(decide (15 < j), .plain .range 1),
     (decide (count = 0) || decide (4096 < count), .plain .range 4),
     (decide (first = 0) || decide (frameLimit s ≤ first), .plain .range 3),
     (decide (frameLimit s ≤ first + count - 1), .plain .range 4),
     (staleGeneration s j (arg ps 2), .plain .stale 2),
     (!(jobOf s j).isActive, .plain .state 1),
     ((run first count).any (fun f => decide ((frameOf s f).state ≠ .opened)), .plain .state 3),
     (decide (4095 < lb + count - 1), .plain .overlap 5),
     (blockTaken s j lb count, .plain .overlap 5)] s fun s =>
    (bindRun j first count lb (setJob j { jobOf s j with bound := (jobOf s j).bound + count } s), .done)

/-- RELEASE FRAMES (R16, R17). -/
def releaseFramesOrder (ps : List Nat) (s : State) : State × Answer :=
  let j := arg ps 1
  let first := arg ps 3
  let count := arg ps 4
  checked
    [(decide (15 < j), .plain .range 1),
     (decide (count = 0) || decide (4096 < count), .plain .range 4),
     (decide (4095 < first + count - 1), .plain .range 4),
     (staleGeneration s j (arg ps 2), .plain .stale 2),
     ((jobOf s j).isFree, .plain .state 1),
     ((run first count).any (fun f => (boundTo j (frameOf s f)).isNone), .plain .state 3),
     ((run first count).any (fun f => ((boundTo j (frameOf s f)).bind (·.page)).isSome), .plain .busy 3)] s fun s =>
    ((run first count).foldl (releaseFrame j) s, .done)

/-! ## Page marks on frames (R1, R60, R65, R78) -/

/-- A frame takes a page slot (R60). -/
def markFrame (p : Nat) (s : State) (f : Nat) : State :=
  match (frameOf s f).state with
  | .bound b => setFrame f { frameOf s f with state := .bound { b with page := some p } } s
  | _ => s

/-- The page slot is cleared from every frame that carries it. By R61 they are the frames that the page's extents touch: DEDUCED,
log entry 28. -/
def unmarkFrames (p : Nat) (s : State) : State :=
  updateFrames (fun _ e =>
    match e.state with
    | .bound b => if b.page = some p then { e with state := .bound { b with page := none } } else e
    | _ => e) s

/-! ## The memory size (R3, R150) -/

/-- START's action on an entry: below both sizes nothing; else the breach-noted flag is cleared, and a RETIRED or SCRUBBING frame at
or beyond the new size becomes OPEN (R3). -/
def resizeEntry (lower new : Nat) (f : Nat) (e : FrameEntry) : FrameEntry :=
  if f < lower then e
  else
    ⟨if new ≤ f then
      match e.state with
      | .retired => .opened
      | .scrubbing => .opened
      | st => st
     else e.state, false⟩

/-- A scrub line granted for a removed head is performed and then counts for nothing (R150). -/
def abandonScrub (g : Option Grant) : Option Grant :=
  match g with
  | some (.scrub f l _) => some (.scrub f l false)
  | g => g

/-- The frames at or beyond the new size leave the scrub queue (R3, R150). Where several leave, the last of the queue is the one whose
leaving empties it: log entry 23. -/
def trimQueue (new : Nat) (s : State) : State :=
  let kept := s.scrub.queue.filter fun f => decide (f < new)
  let gone := s.scrub.queue.length - kept.length
  let t := { s with scrub := { s.scrub with queue := kept, removed := hold16 (s.scrub.removed + gone) } }
  if kept.head? = s.scrub.queue.head? then t
  else
    nextHead (s.scrub.queue.getLastD 0) .removed
      { t with scrub := { t.scrub with progress := none, offered := false },
               port := { t.port with grant := abandonScrub t.port.grant } }

/-- START sets the memory size (R3). -/
def setMemorySize (new : Nat) (s : State) : State :=
  let lower := min (frameLimit s) new
  let t := updateFrames (resizeEntry lower new) s
  trimQueue new { t with frames := { t.frames with size := some new } }

end Sys2Proof.Machine
end

