-- ==== Sys2Proof/Machine/Pages.lean ====
section
/-! DEFINITION. The Page Unit's records and orders (chapter 04, 4.1 to 4.3) and settlement (4.7). -/

namespace Sys2Proof.Machine

/-! ## Extents -/

/-- Bytes of each plane of a page (R57). -/
def Page.length (p : Page) : Nat := planeLength p.pixels

/-- The frames that an extent touches (R59). -/
def extentFrames (start len : Nat) : List Nat :=
  run (start / frameSize) ((start + len - 1) / frameSize - start / frameSize + 1)

/-- Two extents of one length have a byte in common (R59). -/
def extentsMeet (a b len : Nat) : Bool := decide (a < b + len) && decide (b < a + len)

/-- The portion of the bytes from `lo` up to `hi` in a plane of a page, as offsets from the extent's start; none if it is empty (R70). -/
def portion (p : Page) (n : Plane) (lo hi : Nat) : Option (Nat × Nat) :=
  let start := p.starts.get n
  let a := max lo start
  let b := min hi (start + p.length)
  if a < b then some (a - start, b - start) else none

/-- A byte from `lo` up to `hi` lies in an extent of the page (R31, R67). -/
def Page.touches (p : Page) (lo hi : Nat) : Bool := (planesOf p.colour).any fun n => (portion p n lo hi).isSome

/-- A page record is live for a job slot and generation (R32, R62). -/
def liveFor (s : State) (slot j : Nat) (g : Index) : Option Page :=
  (pageOf s slot).bind fun p => if p.job = j ∧ p.generation = g then some p else none

/-- The pages of a job slot's present opening that `f` picks, in ascending order of page slot. -/
def pagesOf (s : State) (j : Nat) (f : Page → Bool) : List Nat :=
  (List.range 32).filter fun slot => (liveFor s slot j (jobOf s j).generation).any f

/-- The capture that a TICKETED or PRINTING page holds (R57). -/
def Page.capture (p : Page) : Option Capture :=
  match p.state with
  | .staged => none
  | .ticketed c => some c
  | .printing c _ => some c
  | .withheld _ _ => none

/-- The page is TICKETED. -/
def Page.isTicketed (p : Page) : Bool :=
  match p.state with
  | .ticketed _ => true
  | _ => false

/-- The account that pays for a page: its job's (R39). -/
def accountNumber (s : State) (p : Page) : Nat := (jobOf s p.job).account

/-! ## DEFINE PAGE (R59, R60) -/

/-- The page record that DEFINE PAGE forms (R60). -/
def definedPage (ps : List Nat) (sizeClass : Plane) (declared : Colour) : Page :=
  { state := .staged
    job := arg ps 1
    generation := BitVec.ofNat 16 (arg ps 2)
    number := arg ps 3
    sizeClass := sizeClass
    colour := declared
    pixels := arg ps 6
    starts := match declared with
      | .mono => ⟨arg ps 7, 0, 0, 0⟩
      | .colour => ⟨arg ps 7, arg ps 8, arg ps 9, arg ps 10⟩
    highWater := Quad.all 0
    gapPosted := false
    sums := Quad.all 0 }

/-- The frames that the extents of a page touch. -/
def Page.frames (p : Page) : List Nat := (planesOf p.colour).flatMap fun n => extentFrames (p.starts.get n) p.length

/-- A check on each present plane in the order K, C, M, Y, refused with the plane's start parameter (R59). -/
def planeChecks (p : Page) (code : Code) (bad : Plane → Bool) : List (Bool × Answer) :=
  (planesOf p.colour).map fun n => (bad n, .plain code (7 + n.val))

/-- The frames of a plane's extent. -/
def planeFrames (p : Page) (n : Plane) : List Nat := extentFrames (p.starts.get n) p.length

/-- The lowest-numbered FREE page record (R60). -/
def freePage (s : State) : Option Nat := (List.range 32).find? fun slot => (pageOf s slot).isNone

/-- The checks of R59, in its order. Of two planes that each have a byte in common with an earlier one, the first in the order K, C, M, Y is reported: where
K meets Y and C meets M, that is M. R59 does not say which of the two pairs is judged first: DESIGN CHOICE, log entry 41. -/
def defineChecks (ps : List Nat) (p : Page) (s : State) : List (Bool × Answer) :=
  let j := arg ps 1
  [(decide (15 < j), .plain .range 1),
   ((planeOfCode (arg ps 4)).isNone, .plain .range 4),
   ((Colour.ofCode (arg ps 5)).isNone, .plain .range 5),
   (decide (arg ps 6 = 0) || decide (268435456 < arg ps 6), .plain .range 6)] ++
  planeChecks p .range (fun n =>
    decide (4294967296 < p.starts.get n + p.length) ||
      decide (frameLimit s ≤ (p.starts.get n + p.length - 1) / frameSize)) ++
  [(staleGeneration s j (arg ps 2), .plain .stale 2),
   (!(jobOf s j).isActive, .plain .state 1)] ++
  planeChecks p .overlap (fun n => (planeFrames p n).any fun f => (boundTo j (frameOf s f)).isNone) ++
  planeChecks p .overlap (fun n => (planeFrames p n).any fun f => ((boundTo j (frameOf s f)).bind (·.page)).isSome) ++
  planeChecks p .overlap (fun n =>
    ((planesOf p.colour).filter fun m => decide (m < n)).any fun m => extentsMeet (p.starts.get m) (p.starts.get n) p.length) ++
  [((freePage s).isNone, .plain .busy 0)]

/-- DEFINE PAGE (R59, R60). -/
def definePageOrder (ps : List Nat) (s : State) : State × Answer :=
  let p := definedPage ps ((planeOfCode (arg ps 4)).getD 0) ((Colour.ofCode (arg ps 5)).getD .mono)
  checked (defineChecks ps p s) s fun s =>
    let slot := (freePage s).getD 0
    (p.frames.foldl (markFrame slot) (setPage slot (some p) s), .doneWith (leBytes 1 slot))

/-! ## Tickets (R62 to R65) -/

/-- The common page checks of R62. `ticket`: the order is TICKET PAGE. -/
def pageChecks (ticket : Bool) (ps : List Nat) (s : State) : List (Bool × Answer) :=
  let j := arg ps 1
  let slot := arg ps 3
  [(decide (15 < j), .plain .range 1),
   (decide (31 < slot), .plain .range 3),
   (staleGeneration s j (arg ps 2), .plain .stale 2),
   ((jobOf s j).isFree, .plain .state 1),
   (ticket && !(jobOf s j).isActive, .plain .state 1),
   ((liveFor s slot j (jobOf s j).generation).isNone, .plain .state 3)]

/-- A page order's own part on the live page that it names, after the common page checks. -/
def onPage (ticket : Bool) (ps : List Nat) (s : State) (act : Nat → Page → State → State × Answer) : State × Answer :=
  checked (pageChecks ticket ps s) s fun s =>
    match pageOf s (arg ps 3) with
    | some p => act (arg ps 3) p s
    | none => (s, .plain .state 3)

/-- The tariff of a page's size class and declared colour (R63, R68). -/
def pageTariff (s : State) (p : Page) : Nat := (captureTariff s p.sizeClass p.colour).provisional

/-- TICKET PAGE (R62, R63). -/
def ticketPageOrder (ps : List Nat) (s : State) : State × Answer :=
  onPage true ps s fun slot p s =>
    match p.state with
    | .staged =>
      let a := accountNumber s p
      checked
        [(decide ((accountOf s a).settings.state ≠ .active), .plain .account 0),
         (!(accountOf s a).allows (pageTariff s p), .plain .allowance 0),
         (!slotsUsable s p.colour, .plain .supply 0),
         (decide (freeCount s = 0), .plain .meter 0)] s fun s =>
        let c := captureTariff s p.sizeClass p.colour
        (reserve (raiseHeld a c.provisional (setPage slot (some { p with state := .ticketed c }) s)),
         .doneWith (leBytes 1 c.provisional))
    | .ticketed _ => (s, .plain .state 3)
    | .printing _ _ => (s, .plain .late 3)
    | .withheld _ _ => (s, .plain .late 3)

/-- A TICKETED page's hold and reservation are released (R64). -/
def releaseTicket (p : Page) (s : State) : State :=
  match p.state with
  | .ticketed c => unreserve (lowerHeld (accountNumber s p) c.provisional s)
  | _ => s

/-- UNTICKET PAGE (R62, R64). -/
def unticketPageOrder (ps : List Nat) (s : State) : State × Answer :=
  onPage false ps s fun slot p s =>
    match p.state with
    | .staged => (s, .plain .state 3)
    | .ticketed _ => (releaseTicket p (setPage slot (some { p with state := .staged }) s), .done)
    | .printing _ _ => (s, .plain .late 3)
    | .withheld _ _ => (s, .plain .late 3)

/-- A STAGED or TICKETED page is dropped (R65). -/
def dropPage (slot : Nat) (s : State) : State :=
  match pageOf s slot with
  | some p => setPage slot none (unmarkFrames slot (releaseTicket p s))
  | none => s

/-- DROP PAGE (R62, R65). -/
def dropPageOrder (ps : List Nat) (s : State) : State × Answer :=
  onPage false ps s fun slot p s => if p.inPrint then (s, .plain .busy 3) else (dropPage slot s, .done)

/-! ## Settlement (R78 to R81) -/

/-- Every page but a WITHHELD one is charged, journalled and debited (R78). -/
def Outcome.charged : Outcome → Bool
  | .withheld => false
  | _ => true

/-- The outcome of a page that ends: WITHHELD for a withheld page, else the ending's own (R75 to R77). -/
def Page.outcome (p : Page) (o : Outcome) : Outcome :=
  match p.state with
  | .withheld _ _ => .withheld
  | _ => o

/-- The final clicks of a charged page (R79). -/
def finalClicks (o : Outcome) (c : Capture) (measured : Colour) : Nat :=
  match o with
  | .printed => c.of measured
  | _ => c.provisional

/-- Step 1: the residues of a charged page's planes are replaced (R88). -/
def settleResidues (p : Page) (s : State) : State :=
  { s with coverage := { s.coverage with residues := tonerResidues s.coverage p } }

/-- Step 3: the debits of the present planes reach the slots in the order K, C, M, Y (R78, R90). -/
def settleDebits (p : Page) (debits : Quad Nat) (s : State) : State :=
  (planesOf p.colour).foldl (fun t n => addDebit n (debits.get n) t) s

/-- A page in print is settled (R78, steps 1 to 5). -/
def settlePage (slot : Nat) (ending : Outcome) (s : State) : State :=
  match pageOf s slot with
  | none => s
  | some p =>
    let o := p.outcome ending
    let a := accountNumber s p
    let measured := measuredColour s.coverage.settings.threshold p
    let c := p.capture.getD ⟨0, 0, 0⟩
    let clicks := if o.charged then finalClicks o c measured else 0
    let debits := if o.charged then tonerDebits s.coverage p else Quad.all 0
    let t := if o.charged then
        settleDebits p debits (chargePage a p.sizeClass measured c.provisional clicks o (settleResidues p s))
      else s
    let t := postEvent (.pageSettled slot p.job a o p.number measured clicks (permille p) debits) t
    setPage slot none (unmarkFrames slot t)

end Sys2Proof.Machine
end

