-- ==== Sys2Proof/Machine/Jobs.lean ====
section
/-! DEFINITION. The Job Table (chapter 03): opening, closing, purging and releasing jobs, and the destruction of keys. -/

namespace Sys2Proof.Machine

/-! ## OPEN JOB (R43 to R45) -/

/-- The lowest-numbered job slot that is FREE with its key slot EMPTY (R44). -/
def freeJob (s : State) : Option Nat :=
  (List.range 16).find? fun j => (jobOf s j).isFree && decide ((jobOf s j).key = .empty)

/-- A job slot is opened (R44, R45). A PRIVATE job draws a fresh key. -/
def openSlot (j : Nat) (account : Nat) (privacy : Privacy) (scrub : Bool) (s : State) : State :=
  let key := match privacy with
    | .priv => KeySlot.loaded ⟨s.keyDraws⟩
    | .shared => KeySlot.empty
  let draws := match privacy with
    | .priv => s.keyDraws + 1
    | .shared => s.keyDraws
  let opening := Opening.mk account privacy (scrub || decide (privacy = .priv))
  setJob j ⟨.active opening, (jobOf s j).generation + 1, key, 0, 0, 0⟩ { s with keyDraws := draws }

/-- OPEN JOB (R43 to R45). -/
def openJobOrder (ps : List Nat) (s : State) : State × Answer :=
  let a := arg ps 1
  let scrub := arg ps 3
  let privacy := (Privacy.ofCode (arg ps 2)).getD .shared
  checked
    [(decide (s.sup.device = .service) && decide (privacy = .priv), .plain .mode 2),
     (decide (255 < a), .plain .range 1),
     ((Privacy.ofCode (arg ps 2)).isNone, .plain .range 2),
     (decide (1 < scrub), .plain .range 3),
     (decide ((accountOf s a).settings.state ≠ .active), .plain .account 1),
     ((freeJob s).isNone, .plain .busy 0)] s fun s =>
    let j := (freeJob s).getD 0
    let t := openSlot j a privacy (decide (scrub = 1)) s
    (t, .doneWith (leBytes 1 j ++ leBytes 2 (jobOf t j).generation.toNat))

/-! ## Release (R53 to R55) -/

/-- The transfer part in service holds a key (R22, R24). -/
def partHolds (s : State) (k : Key) : Bool := s.filter.service.any fun v => decide (v.record.key = some k)

/-- What the destruction of a key slot's key leaves at a release (R54). -/
def KeySlot.destroyed (s : State) : KeySlot → KeySlot
  | .loaded k => if partHolds s k then .draining k else .empty
  | k => k

/-- A job slot is released (R53): frames, key, slot, event. -/
def releaseJob (j : Nat) (cause : ReleaseCause) (s : State) : State :=
  let r := jobOf s j
  let frames := framesOf s j
  let retired := if r.retires then frames.length else 0
  let t := frames.foldl (releaseFrame j) s
  let t := setJob j { jobOf t j with state := .free, key := r.key.destroyed s } t
  postEvent (.jobReleased j r.generation r.account cause retired (frames.length - retired) r.dropped r.aborted) t

/-- A deferred CLOSE JOB of a job slot gets its final answer (R50, R51). -/
def answerClose (j : Nat) (code : Code) (s : State) : State :=
  answerDeferred (fun d => decide (d.object = .closeJob j)) (fun _ => .plain code 0) s

/-! ## CLOSE JOB (R47, R48) -/

/-- A page of a job's present opening is in print (3.2). -/
def pageInPrint (s : State) (j : Nat) : Bool := !(pagesOf s j Page.inPrint).isEmpty

/-- One page more in a job's pages-dropped tally. -/
def tallyDropped (j : Nat) (s : State) : State := setJob j { jobOf s j with dropped := (jobOf s j).dropped + 1 } s

/-- One page more in a job's pages-aborted tally. -/
def tallyAborted (j : Nat) (s : State) : State := setJob j { jobOf s j with aborted := (jobOf s j).aborted + 1 } s

/-- Every STAGED or TICKETED page of a job is dropped, in ascending order of page slot (R48, R51). -/
def dropPages (j : Nat) (s : State) : State :=
  (pagesOf s j fun p => !p.inPrint).foldl (fun t slot => tallyDropped j (dropPage slot t)) s

/-- CLOSE JOB (R47, R48). -/
def closeJobOrder (ps : List Nat) (s : State) : State × Answer :=
  let j := arg ps 1
  checked
    [(decide (15 < j), .plain .range 1),
     (staleGeneration s j (arg ps 2), .plain .stale 2),
     (!(jobOf s j).isActive, .plain .state 1),
     (pageInPrint s j && decide (8 ≤ s.orders.deferred.length), .plain .busy 0)] s fun s =>
    let t := dropPages j s
    match pageInPrint t j, (jobOf t j).opening with
    | true, some o =>
      (deferOrder t.orders.take (.closeJob j) (setJob j { jobOf t j with state := .closing o t.orders.take } t),
       .plain .pending 0)
    | _, _ => (releaseJob j .close t, .done)

/-- A settlement by completion or stall; the last page in print of a CLOSING job releases the job, and its deferred close is answered
DONE (R50, R78). -/
def settleEnding (slot : Nat) (ending : Outcome) (s : State) : State :=
  match pageOf s slot with
  | none => s
  | some p =>
    let t := settlePage slot ending s
    match (jobOf t p.job).state with
    | .closing _ _ => if pageInPrint t p.job then t else answerClose p.job .done (releaseJob p.job .close t)
    | _ => t

/-! ## PURGE JOB (R51, R56, R172) -/

/-- Every page in print of a job is settled ABORTED, or WITHHELD if withheld, in ascending order of page slot (R51, step 1). -/
def abortPages (j : Nat) (s : State) : State :=
  (pagesOf s j Page.inPrint).foldl (fun t slot => tallyAborted j (settlePage slot .aborted t)) s

/-- Steps 1 to 3 of a purge: the pages in print are settled, the rest are dropped, the job is released (R51, R56). -/
def purgeSlot (j : Nat) (cause : ReleaseCause) (s : State) : State := releaseJob j cause (dropPages j (abortPages j s))

/-- Steps 1 to 4 of a PURGE JOB (R51). -/
def purgeJob (j : Nat) (s : State) : State := answerClose j .done (purgeSlot j .purge s)

/-- PURGE JOB (R51). -/
def purgeJobOrder (ps : List Nat) (s : State) : State × Answer :=
  let j := arg ps 1
  checked
    [(decide (15 < j), .plain .range 1),
     (staleGeneration s j (arg ps 2), .plain .stale 2),
     ((jobOf s j).isFree, .plain .state 1)] s fun s => (purgeJob j s, .done)

/-- The job slot that a deferred CLOSE JOB waits on. -/
def DeferredObject.closeSlot : DeferredObject → Option Nat
  | .closeJob j => some j
  | _ => none

/-- The deferred CLOSE JOB orders whose final answers are due once job slots 0 to `j` have been purged: in the order of their take, up to the first
that waits on a slot above `j` (R159). -/
def closesDue (j : Nat) (s : State) : List Deferred :=
  (s.orders.deferred.filter (·.object.closeSlot.isSome)).takeWhile fun d => d.object.closeSlot.any fun i => decide (i ≤ j)

/-- Step 4 of R51 within a purge of every slot: the due CLOSE JOB orders get their final answers in the order of their take. The close of the slot just
purged is among them unless one taken before it waits on a higher slot, behind which R159 then holds it: DESIGN CHOICE, log entry 39. -/
def answerCloses (j : Nat) (code : Code) (s : State) : State :=
  let t := (closesDue j s).foldl (fun t d => placeAnswer d.index (.plain code 0) t) s
  { t with orders := { t.orders with deferred := s.orders.deferred.diff (closesDue j s) } }

/-- A job slot's turn where every job is purged: steps 1 to 3 of R51 if it is ACTIVE or CLOSING, and then step 4 (R56, R172). -/
def purgeTurn (cause : ReleaseCause) (code : Code) (s : State) (j : Nat) : State :=
  answerCloses j code (if (jobOf s j).isFree then s else purgeSlot j cause s)

/-- What END SERVICE and the entry into LOCKDOWN do to the Job Table: each job slot in ascending order is purged, with its deferred close answered, before
the next is (R56, R172, R174). -/
def purgeAll (cause : ReleaseCause) (code : Code) (s : State) : State := (List.range 16).foldl (purgeTurn cause code) s

/-! ## The end of a wait on a key (R24, R54) -/

/-- A key slot without a DRAINING key `k`. -/
def Job.erased (k : Key) (r : Job) : Job := if r.key = .draining k then { r with key := .empty } else r

/-- When a part's service ends, a DRAINING key that it held is erased (R54). -/
def eraseDraining (key : Option Key) (s : State) : State :=
  match key with
  | none => s
  | some k => { s with jobs := Table.update Job.fresh (fun _ r => r.erased k) s.jobs }

end Sys2Proof.Machine
end

