-- ==== Sys2Proof/Machine/Print.lean ====
section
/-! DEFINITION. Print reads at the Page Unit (chapter 04, 4.4 to 4.6): admission, progress, completion and stall. -/

namespace Sys2Proof.Machine

/-! ## Admission (R67 to R69) -/

/-- The withholding reasons of R68 in its order, each with whether it applies. -/
def withholdingReasons (p : Page) (s : State) : List (Bool × WithheldReason) :=
  let a := accountOf s (accountNumber s p)
  let staged := !p.isTicketed
  [(!inWork s.sup.device, .mode),
   (s.sup.pfw, .power),
   (!(jobOf s p.job).isActive, .job),
   (!slotsUsable s p.colour, .supply),
   (staged && decide (a.settings.state ≠ .active), .account),
   (staged && !a.allows (pageTariff s p), .allowance),
   (staged && decide (freeCount s = 0), .meter)]

/-- The first withholding reason that applies (R68). -/
def withholding (p : Page) (s : State) : Option WithheldReason := ((withholdingReasons p s).find? (·.1)).map (·.2)

/-- A page is withheld (R68). -/
def withholdPage (slot : Nat) (p : Page) (reason : WithheldReason) (s : State) : State :=
  let t := releaseTicket p (setPage slot (some { p with state := .withheld reason s.time }) s)
  postEvent (.pageWithheld slot p.job (accountNumber s p) p.number p.sizeClass p.colour reason p.isTicketed) t

/-- A page is admitted (R69). -/
def admitPage (slot : Nat) (p : Page) (s : State) : State :=
  let a := accountNumber s p
  match p.state with
  | .ticketed c =>
    raiseInflight a c.provisional (lowerHeld a c.provisional (setPage slot (some { p with state := .printing c s.time }) s))
  | _ =>
    let c := captureTariff s p.sizeClass p.colour
    reserve (raiseInflight a c.provisional (setPage slot (some { p with state := .printing c s.time }) s))

/-- Admission at a first print read: a page already in print is left as it is (R67). -/
def takeAdmission (slot : Nat) (p : Page) (s : State) : State :=
  if p.inPrint then s
  else
    match withholding p s with
    | some reason => withholdPage slot p reason s
    | none => admitPage slot p s

/-! ## Progress (R70 to R74) -/

/-- The last progress time of a page in print is set (R71, R74). -/
def PageState.progressed (t : Time) : PageState → PageState
  | .printing c _ => .printing c t
  | .withheld r _ => .withheld r t
  | st => st

/-- The page is PRINTING. -/
def Page.isPrinting (p : Page) : Bool :=
  match p.state with
  | .printing _ _ => true
  | _ => false

/-- The first gap of a page posts PAGE_GAP (R72). -/
def noteGap (slot : Nat) (p : Page) (n : Plane) (offset : Nat) (s : State) : State :=
  if p.gapPosted then s
  else
    postEvent (.pageGap slot p.job p.number n (p.highWater.get n) offset)
      (setPage slot (some { p with gapPosted := true }) s)

/-- A straddle: the high-water rises to `b`, and a PRINTING page counts the bytes from the old high-water up to `b` (R71, R74). `plain`
are the bytes of those offsets. -/
def straddle (p : Page) (n : Plane) (b : Nat) (plain : List Byte) (now : Time) : Page :=
  let counted := if p.isPrinting then countedSum p.pixels (p.highWater.get n) plain else 0
  { p with
    state := p.state.progressed now
    highWater := p.highWater.set n b
    sums := p.sums.set n (p.sums.get n + counted) }

/-- One plane of a print read of the bytes `plain` from address `lo` on (R70 to R74). -/
def servePlane (slot lo : Nat) (plain : List Byte) (s : State) (n : Plane) : State :=
  match pageOf s slot with
  | none => s
  | some p =>
    match portion p n lo (lo + plain.length) with
    | none => s
    | some (a, b) =>
      let h := p.highWater.get n
      if b ≤ h then s
      else if h < a then noteGap slot p n a s
      else
        let counted := (plain.drop (p.starts.get n + h - lo)).take (b - h)
        setPage slot (some (straddle p n b counted s.time)) s

/-- The byte at an address is served as data: it lies in a plane's portion that is not a gap, of a PRINTING page (R71, R74). The
high-waters are those before the read. -/
def servedAsData (p : Page) (lo hi addr : Nat) : Bool :=
  p.isPrinting && (planesOf p.colour).any fun n =>
    match portion p n lo hi with
    | none => false
    | some (a, b) =>
      decide (a ≤ p.highWater.get n) && decide (p.starts.get n + a ≤ addr) && decide (addr < p.starts.get n + b)

/-- The page is complete: every present plane's high-water equals its length (R75). -/
def Page.complete (p : Page) : Bool := (planesOf p.colour).all fun n => decide (p.highWater.get n = p.length)

/-- Completion is tested after every portion has been served (R75). -/
def testComplete (slot : Nat) (s : State) : State :=
  match pageOf s slot with
  | some p => if p.inPrint && p.complete then settleEnding slot .printed s else s
  | none => s

/-- The bytes that the print engine gets for a hand-off, each as its plain value or as fill (R32). -/
def printBytes (p : Page) (lo : Nat) (plain : List Byte) : List Byte :=
  plain.mapIdx fun i b => if servedAsData p lo (lo + plain.length) (lo + i) then b else 0

/-- The Page Unit takes a print read hand-off: admission, progress, completion, and its decision (R32, R67 to R75). -/
def takePrintRead (slot j : Nat) (g : Index) (lo : Nat) (plain : List Byte) (s : State) : State × List Byte :=
  let fill := plain.map fun _ => (0 : Byte)
  match liveFor s slot j g with
  | none => (s, fill)
  | some p =>
    if p.touches lo (lo + plain.length) then
      let t := takeAdmission slot p s
      match pageOf t slot with
      | none => (t, fill)
      | some q => (testComplete slot ((planesOf q.colour).foldl (servePlane slot lo plain) t), printBytes q lo plain)
    else (s, fill)

/-! ## Stall (R76) -/

/-- The last progress time of a page in print. -/
def Page.progress (p : Page) : Option Time :=
  match p.state with
  | .printing _ t => some t
  | .withheld _ t => some t
  | _ => none

/-- The stall timer of a page in print expires (R76). -/
def stallExpired (slot : Nat) (s : State) : Option State :=
  ((pageOf s slot).bind Page.progress).map fun t =>
    settleEnding slot .stalled (reachTime t (1000 * s.sup.stallSeconds) s)

end Sys2Proof.Machine
end

