-- ==== Sys2Proof/Machine/Supervision.lean ====
section
/-! DEFINITION. The Supervision Unit (chapter 10): the device states and their orders, the keepalive, CTLRST, and fold complete with the
waiting START. -/

namespace Sys2Proof.Machine

/-! ## Changes of the device state (R168) -/

/-- The supervision record changed. -/
def modifySup (f : Supervision → Supervision) (s : State) : State := { s with sup := f s.sup }

/-- STATE_CHANGE is posted, with the cold flag after the change (R168). -/
def postStateChange (old : DeviceState) (cause : StateCause) (s : State) : State :=
  postEvent (.stateChange old s.sup.device cause s.sup.cold) s

/-- RUN is entered: device state, keepalive reference, STATE_CHANGE (R170). -/
def enterRun (s : State) : State :=
  postStateChange s.sup.device .start
    (modifySup (fun u => { u with device := .run, keepalive := some s.time, startWaiting := none }) s)

/-- Fold complete is reported, and a waiting START ends: RUN is entered and the START answered DONE (R117, R159, R170). -/
def reportFold (s : State) : State :=
  let t := { s with meter := { s.meter with foldReported := true } }
  if t.sup.startWaiting.isSome then answerDeferred (fun d => decide (d.object = .start)) (fun _ => .done) (enterRun t) else t

/-- PROVISION is entered: window count 0 and the provisioning timer at 2000 ms; fold complete is reported at once when the journal is
empty or the store is FAILED (R117, R169, R172, R175). -/
def enterProvision (s : State) : State :=
  let t := modifySup (fun u =>
    { u with device := .provision, windowCount := 0, provTimer := some s.time, keepalive := none }) s
  { t with meter := { t.meter with foldReported := t.store.journal.isEmpty || t.meter.failed } }

/-- A keepalive breach enters LOCKDOWN (R174). -/
def enterLockdown (cause : StateCause) (s : State) : State :=
  let old := s.sup.device
  let t := modifySup (fun u => { u with device := .lockdown, keepalive := none }) s
  let t := purgeAll .lockdown .aborted t
  let t := answerDeferred (fun _ => true) (fun _ => .plain .aborted 0) t
  postStateChange old cause (modifySup (fun u => { u with ctlrst := .held }) t)

/-! ## Orders (R170 to R175) -/

/-- START (R170). -/
def startOrder (ps : List Nat) (s : State) : State × Answer :=
  let size := arg ps 1
  let period := arg ps 2
  let stall := arg ps 3
  checked
    [(decide (size < 64) || decide (4096 < size), .plain .range 1),
     (decide (period < 100) || decide (10000 < period) || decide (period % 100 ≠ 0), .plain .range 2),
     (decide (stall < 1) || decide (60 < stall), .plain .range 3),
     (s.sup.startWaiting.isSome, .plain .state 0),
     (!s.meter.foldReported && decide (8 ≤ s.orders.deferred.length), .plain .busy 0)] s fun s =>
    let t := modifySup (fun u =>
      { u with period := period, stallSeconds := stall, cold := false, provTimer := none }) (setMemorySize size s)
    if t.meter.foldReported then (enterRun t, .done)
    else
      (deferOrder t.orders.take .start (modifySup (fun u => { u with startWaiting := some t.orders.take }) t),
       .plain .pending 0)

/-- START SERVICE (R171). -/
def startServiceOrder (_ps : List Nat) (s : State) : State × Answer :=
  checked [(!s.sup.cold || s.sup.startWaiting.isSome, .plain .state 0)] s fun s =>
    (postStateChange s.sup.device .startService
       (modifySup (fun u => { u with cold := false, provTimer := none, device := .service }) s), .done)

/-- END SERVICE (R172). -/
def endServiceOrder (_ps : List Nat) (s : State) : State × Answer :=
  (postStateChange s.sup.device .endService (enterProvision (purgeAll .purge .done s)), .done)

/-- KEEPALIVE (R171, R173). One taken beyond the period, its expiry not yet taken, finds the breach of the expiry: log entry 11. -/
def keepaliveOrder (_ps : List Nat) (s : State) : State × Answer :=
  match s.sup.device, s.sup.keepalive with
  | .run, some r =>
    let t := span s.time r
    if t < s.sup.period / 2 then (enterLockdown .keepaliveEarly s, .plain .state 0)
    else if t ≤ s.sup.period then (modifySup (fun u => { u with keepalive := some s.time }) s, .done)
    else (enterLockdown .keepaliveMissed s, .plain .mode 0)
  | _, _ => (s, .done)

/-- RECOVER (R175). -/
def recoverOrder (_ps : List Nat) (s : State) : State × Answer :=
  (postStateChange s.sup.device .recover (enterProvision (modifySup (fun u => { u with ctlrst := .deasserted }) s)), .done)

/-! ## Timers (R169, R173) -/

/-- The provisioning timer expires (R169). -/
def provisioningExpired (s : State) : Option State :=
  s.sup.provTimer.map fun r =>
    let t := reachTime r 2000 s
    let t := modifySup (fun u => { u with windowCount := min (u.windowCount + 1) 255 }) t
    let t := postEvent (.provisionExpired t.sup.windowCount t.sup.cold t.store.journal.length) t
    modifySup (fun u => { u with ctlrst := .pulsing t.time, provTimer := some t.time }) t

/-- The CTLRST pulse ends (R169). -/
def pulseEnded (s : State) : Option State :=
  match s.sup.ctlrst with
  | .pulsing r => some (modifySup (fun u => { u with ctlrst := .deasserted }) (reachTime r 100 s))
  | _ => none

/-- The keepalive period passes with no KEEPALIVE (R173). -/
def keepaliveExpired (s : State) : Option State :=
  match s.sup.device, s.sup.keepalive with
  | .run, some r => some (enterLockdown .keepaliveMissed (reachTime r s.sup.period s))
  | _, _ => none

/-! ## The supply-fall line (R133, R176) -/

/-- The supply-fall warning takes a level. -/
def pfwChanged (asserted : Bool) (s : State) : State :=
  let t := modifySup (fun u => { u with pfw := asserted }) s
  if asserted then oweAll t else t

end Sys2Proof.Machine
end

