-- ==== Sys2Proof/Machine/Transfer.lean ====
section
/-! DEFINITION. The Transfer Filter (chapter 02, 2.2 to 2.4): a part's record and breach, the views, the line cipher, the snooped header
words, and the end of a part's service. -/

namespace Sys2Proof.Machine

/-! ## The record of a part (R22, R31) -/

/-- The binding of a BOUND frame. -/
def FrameEntry.binding (e : FrameEntry) : Option Binding :=
  match e.state with
  | .bound b => some b
  | _ => none

/-- The key that a key slot gives to a part taken now (R22, R40). -/
def KeySlot.usable : KeySlot → Option Key
  | .loaded k => some k
  | _ => none

/-- At least one byte of the part is a live extent byte of a page slot (R31). -/
def liveByte (s : State) (p : Part) (page : Option Nat) : Bool :=
  match page.bind (pageOf s) with
  | some pg => pg.touches p.addr (p.addr + p.size)
  | none => false

/-- The classes whose blanked accesses are breaches (R11). -/
def FrameClass.guarded : FrameClass → Bool
  | .control => true
  | .priv => true
  | .retired => true
  | .opened => false
  | .shared => false

/-- An in-range part is a breach (R11). -/
def isBreach (p : Part) (cls : FrameClass) (view : View) (live : Bool) : Bool :=
  let dropped := match view with
    | .blank => true
    | .metered => p.isWrite
    | _ => false
  (dropped && cls.guarded) || (decide (p.source = .print) && !p.isWrite && !live)

/-- The record of a part as the tables stand at its take (R22). -/
def formRecord (s : State) (p : Part) : PartRecord :=
  let f := p.frame
  if f < frameLimit s then
    let e := frameOf s f
    let cls := classOf s e
    let view := s.views.look cls p.source
    let b := e.binding
    let j := b.map fun b => jobOf s b.job
    let holds := decide (view = .plain) || (decide (view = .metered) && decide (cls = .priv))
    let page := b.bind (·.page)
    { frame := f
      inRange := true
      cls := some cls
      view := some view
      job := b.map (·.job)
      generation := j.map (·.generation)
      block := b.map (·.block)
      page := page
      key := if holds then j.bind fun j => j.key.usable else none
      breach := isBreach p cls view (liveByte s p page) }
  else
    { frame := f, inRange := false, cls := none, view := none, job := none, generation := none, block := none, page := none,
      key := none, breach := true }

/-- The event of a breach (R4, R12). -/
def breachEvent (s : State) (p : Part) (r : PartRecord) : Event :=
  match r.cls, r.view with
  | some c, some v => .viewBreach p.source r.frame p.isWrite c v
  | _, _ => .rangeBreach p.source r.frame p.isWrite (frameLimit s)

/-- A breach on a frame whose breach-noted flag is clear is posted and sets the flag (R4, R12). -/
def noteBreach (p : Part) (r : PartRecord) (s : State) : State :=
  let e := frameOf s r.frame
  if r.breach && !e.noted then setFrame r.frame { e with noted := true } (postEvent (breachEvent s p r) s) else s

/-! ## The line cipher (R27) -/

/-- The tweak of block `k` of a line of a part (R27). -/
def PartRecord.tweak (r : PartRecord) (line k : Nat) : Tweak := ⟨r.generation.getD 0, r.block.getD 0, line, k⟩

/-- A block of 16 bytes as the cipher's 128 bits. Which byte stands where is part of the cipher's construction. -/
def blockBits (bs : List Byte) : BitVec 128 := BitVec.ofNat 128 (fromLe bs)

/-- The 16 bytes of a block. -/
def blockBytes (b : BitVec 128) : List Byte := leBytes 16 b.toNat

/-- The four blocks of a line transformed, each under its own tweak. -/
def cipherLine (f : Tweak → BitVec 128 → BitVec 128) (r : PartRecord) (line : Nat) (bs : List Byte) : List Byte :=
  (List.range 4).flatMap fun k => blockBytes (f (r.tweak line k) (blockBits ((bs.drop (16 * k)).take 16)))

/-- A line enciphered with the key that the part holds (R27). A part that needs a key always holds one (R22). -/
def encipherLine (r : PartRecord) (line : Nat) (bs : List Byte) : List Byte :=
  match r.key with
  | some key => cipherLine (fun t b => Config.lineCipher key t b) r line bs
  | none => List.replicate 64 0

/-- A line deciphered with the key that the part holds (R27). -/
def decipherLine (r : PartRecord) (line : Nat) (bs : List Byte) : List Byte :=
  match r.key with
  | some key => cipherLine (fun t b => (Config.lineCipher key t).symm b) r line bs
  | none => List.replicate 64 0

/-- The index within its frame of line `i` of a part (R27). -/
def Part.lineIndex (p : Part) (i : Nat) : Nat := p.addr % frameSize / 64 + i

/-- The bytes of a part's lines deciphered (R28, R32). -/
def decipherPart (r : PartRecord) (p : Part) (bs : List Byte) : List Byte :=
  (List.range p.access.lineCount).flatMap fun i => decipherLine r (p.lineIndex i) (lineOf bs i)

/-- The enabled bytes of a line put over stored bytes (R30, step 3). -/
def overlay (line : List (Option Byte)) (stored : List Byte) : List Byte := List.zipWith (fun w b => w.getD b) line stored

/-- The lines that a PLAIN write stores, from the bytes stored before: full lines and merged partial lines enciphered whole; lines with no
enable left out (R29, R30). -/
def plainWrite (r : PartRecord) (p : Part) (stored : List Byte) : List (Option Byte) :=
  (List.range p.access.lineCount).flatMap fun i =>
    let line := lineOf p.bytes i
    if lineEmpty line then line
    else
      let plain :=
        if lineFull line then line.map (·.getD 0)
        else overlay line (decipherLine r (p.lineIndex i) (lineOf stored i))
      (encipherLine r (p.lineIndex i) plain).map some

/-! ## The memory work of a view (2.3) -/

/-- A write access for bytes of which some are enabled, none otherwise (R25, R29). -/
def writeAccess (bs : List (Option Byte)) : Option LinkAccess := if lineEmpty bs then none else some (.write bs)

/-- Some line of the part is partial (R29). -/
def hasPartial (p : Part) : Bool :=
  (List.range p.access.lineCount).any fun i => !lineEmpty (lineOf p.bytes i) && !lineFull (lineOf p.bytes i)

/-- The access that a part first asks for, none when its service ends at take (R4, R25 to R31, R38). -/
def firstAccess (s : State) (p : Part) (r : PartRecord) : Option LinkAccess :=
  match r.view with
  | none => none
  | some .pass => if p.isWrite then writeAccess (maskHeader p) else some .read
  | some .cipher => if p.isWrite then writeAccess p.bytes else some .read
  | some .blank => none
  | some .plain =>
    if p.isWrite then
      if hasPartial p then some .mergeRead else writeAccess (plainWrite r p [])
    else some .read
  | some .metered => if !p.isWrite && liveByte s p r.page then some .read else none

/-! ## Snooped values at the Order Unit (R34, R35, R155, R162) -/

/-- A post value is taken (R155). -/
def takePost (v : Index) (s : State) : State :=
  let outstanding := ringDistance v s.orders.take
  if outstanding ≤ 64 ∧ (s.orders.fetching = true → 1 ≤ outstanding) then
    { s with orders := { s.orders with heldPost := v } }
  else postEvent (.ringFaultPost v s.orders.heldPost s.orders.take) s

/-- A consume value is taken (R162). -/
def takeConsume (v : Index) (s : State) : State :=
  if ringDistance v s.events.consume ≤ ringDistance s.events.written s.events.consume then
    { s with events := s.events.consumed v }
  else postEvent (.ringFaultConsume v s.events.consume s.events.written) s

/-- The snooped values of a part are handed over, the post index first (R35). -/
def handOver (post consume : Option Index) (s : State) : State :=
  let t := match post with
    | some v => takePost v s
    | none => s
  match consume with
  | some v => takeConsume v t
  | none => t

/-- A shadow takes a new value, where there is one (R34). -/
def shadowed (v : Option Index) (shadow : Index) : Index := v.getD shadow

/-! ## Service (R20, R21, R23) -/

/-- The answer of a transfer (R20). -/
def linkAnswer (write : Bool) (data : List Byte) : LinkAnswer := if write then .completion else .data data

/-- The fill that a part ended at its take gives (R4, R26, R31): 0x00 in every byte of a read. -/
def fillOf (p : Part) : List Byte := if p.isWrite then [] else List.replicate p.size 0

/-- The parts still to be served are taken in order: a part whose service ends at take is followed at once by the next, and after the last
the filter is IDLE and the transfer's answer leaves (R20, R21, R23). `data` is the read data of the parts before. -/
def serveParts (write : Bool) : List Part → List Byte → State → State
  | [], data, s => { s with filter := { s.filter with service := none, answer := some (linkAnswer write data) } }
  | p :: rest, data, s =>
    let r := formRecord s p
    let t := noteBreach p r s
    let post := snoopWord p 0 t.filter.postShadow
    let consume := snoopWord p 6 t.filter.consumeShadow
    let t := { t with filter := { t.filter with
      postShadow := shadowed post t.filter.postShadow
      consumeShadow := shadowed consume t.filter.consumeShadow } }
    match firstAccess t p r with
    | none => serveParts write rest (data ++ fillOf p) (handOver post consume t)
    | some a =>
      let v := { part := p, record := r, phase := .asking a, rest := rest, data := data, post := post, consume := consume }
      { t with filter := { t.filter with service := some v } }

/-- A part's service ends: its snooped values are handed over, a DRAINING key that it held is erased, and the upper part is taken or the
answer leaves (R20, R21, R24, R35, R54). -/
def endService (v : Service) (data : List Byte) (s : State) : State :=
  let t := handOver v.post v.consume s
  let t := eraseDraining v.record.key { t with filter := { t.filter with service := none } }
  serveParts v.part.isWrite v.rest (v.data ++ data) t

/-- A transfer is accepted while the filter is idle (R19). -/
def acceptTransfer (t : Transfer) (s : State) : Option State :=
  if s.filter.service.isNone && t.wf then
    some (serveParts (match t.access with
      | .read _ => false
      | .write _ => true) (Transfer.parts t) [] s)
  else none

/-! ## Accesses performed (R25, R28, R30, R32) -/

/-- The port is free. -/
def freePort (s : State) : State := { s with port := { s.port with grant := none } }

/-- The bytes that a read under a view hands to the link, with the Page Unit's take of a METERED read (R25, R28, R32). -/
def readUnder (v : Service) (stored : List Byte) (s : State) : State × List Byte :=
  match v.record.view with
  | some .plain => (s, decipherPart v.record v.part stored)
  | some .metered =>
    let plain := if v.record.cls = some .priv then decipherPart v.record v.part stored else stored
    takePrintRead (v.record.page.getD 0) (v.record.job.getD 0) (v.record.generation.getD 0) v.part.addr plain s
  | _ => (s, stored)

/-- An access of the link grant has been performed (R38). The hand-off to the Page Unit, the settlement and release that it brings, the end of the
part's service with the erasure of its key, and the answer are one step, so that no order is taken between them: DESIGN CHOICE, log
entry 38. -/
def linkPerformed (v : Service) (a : LinkAccess) (s : State) : State :=
  let stored := portRead s v.part.addr v.part.size
  let counted := { s with openReads := s.openReads + 1 }
  match a with
  | .read =>
    let r := readUnder v stored counted
    endService v r.2 (freePort r.1)
  | .mergeRead =>
    let next := { v with phase := .performing (.write (plainWrite v.record v.part stored)) }
    { counted with filter := { counted.filter with service := some next } }
  | .write bs => endService v [] (freePort (portWrite v.part.addr bs s))

end Sys2Proof.Machine
end

