-- ==== Sys2Proof/Machine/Take.lean ====
section
/-! DEFINITION. What every take has in common: whether the part can take anything at all, and what follows every change within the same
step: the fold's removals, the store's next write, and the header write of R152. -/

namespace Sys2Proof.Machine

/-- The outcome of a command. -/
abbrev Result := Host.Outcome State Fault Refusal

/-- While the store is not FAILED, the fold removes the entries that are done, fold complete is reported when that empties the journal, and
the writer takes its next write (R109 to R111, R117). -/
def advanceStore (s : State) : State :=
  if s.meter.failed then s
  else
    let t := dropFolded s
    startWrite (if s.store.journal ≠ [] ∧ t.store.journal = [] then reportFold t else t)

/-- The end of a take (log entry 13 for the place of the header write). -/
def closeTake (s : State) : State := placeHeader (advanceStore s)

/-- A command that the present state does not allow, or that is given while the part has no power or is held in reset, changes nothing:
DESIGN CHOICE, log entry 1. -/
def taken (f : State → Option State) (s : State) : Result :=
  if s.power = .on then
    match f s with
    | some t => .next (closeTake t)
    | none => .next s
  else .next s

/-! ## The meter store's writes (R110) -/

/-- A store write ends and is read back (R110). -/
def storeWriteDone (readsBack : Bool) (s : State) : Option State :=
  s.meter.write.map fun w =>
    if readsBack then commitWrite w.1 s
    else if w.2 = 1 then { s with meter := { s.meter with write := some (w.1, 2) } }
    else
      let t := failStore w.1 s
      if t.store.journal = [] then t else reportFold t

end Sys2Proof.Machine
end

