-- ==== Sys2Proof/Machine/Board.lean ====
section
/-! DEFINITION. The commands of the timers, the board lines, the supply links and the meter store. -/

namespace Sys2Proof.Machine

/-- STALL_TIMER_EXPIRY (R76). -/
def execStallTimerExpiry (page : Nat) (s : State) : Result := taken (stallExpired page) s

/-- PROVISIONING_TIMER_EXPIRY (R169). -/
def execProvisioningTimerExpiry (s : State) : Result := taken provisioningExpired s

/-- CTLRST_PULSE_END (R169). -/
def execCtlrstPulseEnd (s : State) : Result := taken pulseEnded s

/-- KEEPALIVE_EXPIRY (R173, R174). -/
def execKeepaliveExpiry (s : State) : Result := taken keepaliveExpired s

/-- LINE_SETTLE_EXPIRY (R120 to R123). -/
def execLineSettleExpiry (line : Line) (s : State) : Result := taken (lineSettled line) s

/-- PROBE_DELAY_EXPIRY (R123). -/
def execProbeDelayExpiry (slot : Plane) (s : State) : Result := taken (probeDelayExpired slot) s

/-- REPROBE_TIMER_EXPIRY (R128). -/
def execReprobeTimerExpiry (slot : Plane) (s : State) : Result := taken (reprobeExpired slot) s

/-- SUPPLY_FRAME_SENT (R124, R126). -/
def execSupplyFrameSent (slot : Plane) (s : State) : Result := taken (frameSent slot) s

/-- SUPPLY_FRAME_RECEIVED (R124). -/
def execSupplyFrameReceived (slot : Plane) (chars : List LinkChar) (s : State) : Result := taken (frameReceived slot chars) s

/-- ANSWER_WINDOW_EXPIRY (R124). -/
def execAnswerWindowExpiry (slot : Plane) (s : State) : Result := taken (windowExpired slot) s

/-- STORE_WRITE_DONE (R110). -/
def execStoreWriteDone (readsBack : Bool) (s : State) : Result := taken (storeWriteDone readsBack) s

/-- A change of a board line: the raw level follows whether or not the part runs; a running part takes the change. A level that is no change does
nothing (log entries 22 and 30). -/
def lineChange (same : Bool) (raw take : State → State) (s : State) : Result :=
  if same then .next s else if s.power = .on then .next (closeTake (take (raw s))) else .next (raw s)

/-- PFW_CHANGE (R176). -/
def execPfwChange (asserted : Bool) (s : State) : Result :=
  lineChange (asserted == s.lines.pfw) (fun s => { s with lines := { s.lines with pfw := asserted } }) (pfwChanged asserted) s

/-- LINE_RAW_CHANGE (R120, R121). -/
def execLineRawChange (line : Line) (level : Bool) (s : State) : Result :=
  lineChange (level == rawLevel line s) (setRaw line level) (noteRaw line level) s

end Sys2Proof.Machine
end

