-- ==== Sys2Proof/Machine/Port.lean ====
section
/-! DEFINITION. The Memory Port's arbiter (R37), the performance of its accesses (R38, R147, R152, R161), and the commands of the transfer
path: TRANSFER_ACCEPT, MEMORY_GRANT, LINK_ACCESS_PERFORMED, SCRUB_LINE_PERFORMED. -/

namespace Sys2Proof.Machine

/-! ## Who waits (R36, R37) -/

/-- The part in service asks for its link grant. -/
def linkWaits (s : State) : Bool :=
  match s.filter.service with
  | some v =>
    match v.phase with
    | .asking _ => true
    | .performing _ => false
  | none => false

/-- The part in service addresses the head frame of the scrub queue: its scrub line is held back (R18, R37). -/
def scrubHeldBack (s : State) : Bool :=
  match s.filter.service, s.scrub.queue with
  | some v, f :: _ => decide (v.part.frame = f)
  | _, _ => false

/-- A scrub line can be granted. -/
def scrubWaits (s : State) : Bool := s.scrub.offered && !scrubHeldBack s

/-- What the arbiter can grant. -/
inductive Client
  | link | control | scrub
  deriving DecidableEq, Repr

/-- The arbiter's choice, by the table of R37: at a guard count of 16 the control head and then the scrub line come before the link. A scrub line that
was held back has no place before a client that the table puts first, although R37 and R147 end with "the first grant after that part's service
ends": DESIGN CHOICE, log entry 37. -/
def arbiter (s : State) : Option Client :=
  let control := !s.port.control.isEmpty
  if 16 ≤ s.port.guardCount then
    if control then some .control else if scrubWaits s then some .scrub else if linkWaits s then some .link else none
  else if linkWaits s then some .link
  else if control then some .control
  else if scrubWaits s then some .scrub
  else none

/-! ## Grants (R37) -/

/-- The guard count after a link grant (R37). At 16 it stays. -/
def linkGuard (s : State) : Nat :=
  if s.port.control.isEmpty && !s.scrub.offered then 0 else min (s.port.guardCount + 1) 16

/-- The part in service has its grant: its first access is in progress. -/
def Service.granted (v : Service) : Service :=
  match v.phase with
  | .asking a => { v with phase := .performing a }
  | .performing _ => v

/-- A link grant. -/
def grantLink (s : State) : State :=
  { s with
    filter := { s.filter with service := s.filter.service.map Service.granted }
    port := { s.port with grant := some .link, guardCount := linkGuard s } }

/-- An answer write is stored in its order slot (R158, R180). -/
def writeAnswer (i : Index) (a : Answer) (s : State) : State :=
  controlWrite (orderAddress i + (answerBytes i a).1) ((answerBytes i a).2.map some) s

/-- A control grant: the head of the control queue. The table has no row for the performance of an answer write, so it is performed within its
grant: DESIGN CHOICE, log entry 12. -/
def grantControl (s : State) : State :=
  match s.port.control with
  | [] => s
  | a :: rest =>
    let t := { s with port := { s.port with guardCount := 0, control := rest } }
    match a with
    | .answer i ans => writeAnswer i ans t
    | a => { t with port := { t.port with grant := some (.control a) } }

/-- A scrub grant: the line of the head frame that the progress names. -/
def grantScrub (s : State) : State :=
  match s.scrub.queue, s.scrub.progress with
  | f :: _, some l =>
    { s with port := { s.port with grant := some (.scrub f l true), guardCount := 0 }
             scrub := { s.scrub with offered := false } }
  | _, _ => s

/-- The arbiter grants the free port to a client that waits (R37). -/
def memoryGrant (s : State) : Option State :=
  if s.port.grant.isNone then
    (arbiter s).map fun c =>
      match c with
      | .link => grantLink s
      | .control => grantControl s
      | .scrub => grantScrub s
  else none

/-! ## Accesses performed -/

/-- The access of the link grant that is in progress is performed (R38). -/
def linkAccess (s : State) : Option State :=
  match s.port.grant, s.filter.service with
  | some .link, some v =>
    match v.phase with
    | .performing a => some (linkPerformed v a s)
    | .asking _ => none
  | _, _ => none

/-- The address of a line of a frame. -/
def lineAddress (f l : Nat) : Nat := f * frameSize + lineSize * l

/-- A scrub line is written with zeros; the head's progress rises and the next line is offered, or the frame's scrub ends (R147, R148). The
line of a removed head counts for nothing (R150). -/
def scrubPerformed (s : State) : Option State :=
  match s.port.grant with
  | some (.scrub f l live) =>
    let t := freePort (portWrite (lineAddress f l) (List.replicate 64 (some 0)) s)
    if live then
      if l < 16383 then some { t with scrub := { t.scrub with progress := some (l + 1), offered := true } }
      else some (endScrub f t)
    else some t
  | _ => none

/-! ## Commands -/

/-- TRANSFER_ACCEPT (R19 to R35). -/
def execTransferAccept (t : Transfer) (s : State) : Result := taken (acceptTransfer t) s

/-- MEMORY_GRANT (R37). -/
def execMemoryGrant (s : State) : Result := taken memoryGrant s

/-- LINK_ACCESS_PERFORMED (R38). -/
def execLinkAccessPerformed (s : State) : Result := taken linkAccess s

/-- SCRUB_LINE_PERFORMED (R147, R148). -/
def execScrubLinePerformed (s : State) : Result := taken scrubPerformed s

end Sys2Proof.Machine
end

