-- ==== Sys2Proof/Machine/Orders.lean ====
section
/-! DEFINITION. The Order Unit (chapter 09): the fetch of orders, the commands of the 26 orders and of an order of no known kind, SET ATTENTION,
and the performance of event and header writes. -/

namespace Sys2Proof.Machine

/-! ## Fetching (R155, R156, R160) -/

/-- The slot at the take index holds a deferred order without its final answer (R156 step 1, R160). -/
def slotDeferred (s : State) : Bool :=
  s.orders.deferred.any fun d => decide (d.index.toNat % 64 = s.orders.take.toNat % 64)

/-- The Order Unit can fetch the order at the take index: one is posted and none is being fetched, no access of its own waits outside the
control queue and the queue has room, and the slot is not held by a deferred order (R36, R156, R160; log entry 13). -/
def mayFetch (s : State) : Bool :=
  decide (s.orders.heldPost ≠ s.orders.take) && !s.orders.fetching && decide (s.port.control.length < 4) && !slotDeferred s

/-- The fetch flag is set and the fetch placed (R156, step 2). -/
def orderFetch (s : State) : Option State :=
  if mayFetch s then some (placeAccess (.fetch s.orders.take) { s with orders := { s.orders with fetching := true } })
  else none

/-- ORDER_FETCH (R156). -/
def execOrderFetch (s : State) : Result := taken orderFetch s

/-! ## Orders of no known kind (R157, R180) -/

/-- An order whose kind is 0 or not in the table of R180 is refused with FORMAT, detail 1. -/
def takeUnknown (s : State) : Option State :=
  (fetchedOrder s).bind fun o =>
    if (orderWidths o.kind).isNone then some (answerAndAdvance (fetchDone s, .plain .format 1)) else none

/-- UNKNOWN_ORDER (R157, R180). -/
def execUnknownOrder (s : State) : Result := taken takeUnknown s

/-! ## SET ATTENTION (R167) -/

/-- SET ATTENTION (R167). -/
def setAttentionOrder (ps : List Nat) (s : State) : State × Answer :=
  match AttnMode.ofCode (arg ps 1) with
  | none => (s, .plain .range 1)
  | some m => ({ s with events := s.events.setMode m }, .doneWith (leBytes 1 (arg ps 1)))

/-! ## The orders -/

/-- BIND FRAMES (R14, R15). -/
def execBindFrames (s : State) : Result := taken (takeOrder 1 inWork bindFramesOrder) s

/-- RELEASE FRAMES (R16, R17). -/
def execReleaseFrames (s : State) : Result := taken (takeOrder 2 inWork releaseFramesOrder) s

/-- SET VIEW (R10). -/
def execSetView (s : State) : Result := taken (takeOrder 3 inSettings setViewOrder) s

/-- OPEN JOB (R43 to R45). -/
def execOpenJob (s : State) : Result := taken (takeOrder 4 inWork openJobOrder) s

/-- CLOSE JOB (R47, R48). -/
def execCloseJob (s : State) : Result := taken (takeOrder 5 inWork closeJobOrder) s

/-- PURGE JOB (R51). -/
def execPurgeJob (s : State) : Result := taken (takeOrder 6 inWork purgeJobOrder) s

/-- DEFINE PAGE (R59, R60). -/
def execDefinePage (s : State) : Result := taken (takeOrder 7 inWork definePageOrder) s

/-- TICKET PAGE (R62, R63). -/
def execTicketPage (s : State) : Result := taken (takeOrder 8 inWork ticketPageOrder) s

/-- UNTICKET PAGE (R62, R64). -/
def execUnticketPage (s : State) : Result := taken (takeOrder 9 inWork unticketPageOrder) s

/-- DROP PAGE (R62, R65). -/
def execDropPage (s : State) : Result := taken (takeOrder 10 inWork dropPageOrder) s

/-- SET WEIGHTS (R93). -/
def execSetWeights (s : State) : Result := taken (takeOrder 11 inSettings setWeightsOrder) s

/-- SET COLOUR THRESHOLD (R94). -/
def execSetColourThreshold (s : State) : Result := taken (takeOrder 12 inSettings setColourThresholdOrder) s

/-- SET ACCOUNT (R102). -/
def execSetAccount (s : State) : Result := taken (takeOrder 13 inSettings setAccountOrder) s

/-- SET TARIFF (R100). -/
def execSetTariff (s : State) : Result := taken (takeOrder 14 inSettings setTariffOrder) s

/-- ROLL PERIOD (R104). -/
def execRollPeriod (s : State) : Result := taken (takeOrder 15 inWork rollPeriodOrder) s

/-- CREDIT ACCOUNT (R103). -/
def execCreditAccount (s : State) : Result := taken (takeOrder 16 inWork creditAccountOrder) s

/-- READ ACCOUNT (R105). -/
def execReadAccount (s : State) : Result := taken (takeOrder 17 inSettings readAccountOrder) s

/-- PROBE SLOT (R140). -/
def execProbeSlot (s : State) : Result := taken (takeOrder 18 inSettings probeSlotOrder) s

/-- READ SLOT (R141). -/
def execReadSlot (s : State) : Result := taken (takeOrder 19 inSettings readSlotOrder) s

/-- SET SUPPLY (R142). -/
def execSetSupply (s : State) : Result := taken (takeOrder 20 inSettings setSupplyOrder) s

/-- SET ATTENTION (R167). -/
def execSetAttention (s : State) : Result := taken (takeOrder 21 inSettings setAttentionOrder) s

/-- START (R170). -/
def execStart (s : State) : Result := taken (takeOrder 22 inProvision startOrder) s

/-- START SERVICE (R171). -/
def execStartService (s : State) : Result := taken (takeOrder 23 inProvision startServiceOrder) s

/-- END SERVICE (R172). -/
def execEndService (s : State) : Result := taken (takeOrder 24 inService endServiceOrder) s

/-- KEEPALIVE (R173). -/
def execKeepalive (s : State) : Result := taken (takeOrder 25 inWork keepaliveOrder) s

/-- RECOVER (R175). -/
def execRecover (s : State) : Result := taken (takeOrder 26 inLockdown recoverOrder) s

/-! ## Event and header writes (R152, R161) -/

/-- An event record's write is performed: the written produce index rises past it and ATTN is judged again (R161, R165, R166). -/
def eventPerformed (s : State) : Option State :=
  match s.port.grant with
  | some (.control (.event r)) =>
    let t := freePort (controlWrite (eventAddress r.index) (r.bytes.map some) s)
    some { t with events := t.events.recordWritten r.index r.event.isAlarm }
  | _ => none

/-- EVENT_WRITE_PERFORMED (R161). -/
def execEventWritePerformed (s : State) : Result := taken eventPerformed s

/-- A header write is performed (R152, R179). The next one, if a word has changed, is placed at the end of the take. -/
def headerPerformed (s : State) : Option State :=
  match s.port.grant with
  | some (.control (.header whole w)) => some (freePort (controlWrite 0 (headerBytes whole w) s))
  | _ => none

/-- HEADER_WRITE_PERFORMED (R152). -/
def execHeaderWritePerformed (s : State) : Result := taken headerPerformed s

end Sys2Proof.Machine
end

