-- ==== Sys2Proof/Machine/Resets.lean ====
section
/-! DEFINITION. The resets and the loss of power (R177, R108): POWER_ON, WARM_RESET, RESETN_RELEASE, POWER_LOSS. -/

namespace Sys2Proof.Machine

/-! ## What a reset finds half done -/

/-- The meter store after the cut of the write in progress: whole or not at all (R108). -/
def cutStore (cut : ResetCut) (s : State) : Store :=
  match s.meter.write with
  | some (w, _) => if cut.storeCommits then committed w s else s.store
  | none => s.store

/-- The lines of a link write that had been performed; the others keep their contents (R23). -/
def performedLines (cut : ResetCut) (bs : List (Option Byte)) : List (Option Byte) :=
  (List.range (bs.length / 64)).flatMap fun i =>
    if cut.linesPerformed.getLsbD i then lineOf bs i else (lineOf bs i).map fun _ => none

/-- Page memory after the cut of the access in progress: a link write line by line, a scrub line whole or not at all, and a control access abandoned
(R23, R36, R38, R151; log entry 33). -/
def cutMemory (cut : ResetCut) (s : State) : State :=
  match s.port.grant, s.filter.service with
  | some (.scrub f l _), _ =>
    if cut.linesPerformed.getLsbD 0 then portWrite (lineAddress f l) (List.replicate 64 (some 0)) s else s
  | some .link, some v =>
    match v.phase with
    | .performing (.write bs) => portWrite v.part.addr (performedLines cut bs) s
    | _ => s
  | _, _ => s

/-! ## The state after a reset -/

/-- A slot record at a reset (R119, R123). -/
def startSlot (present doorClosed : Bool) : Slot :=
  { Slot.absentFresh with
    state := if present then .unknown else .absent
    probeDelay := if present && doorClosed then some 0 else none }

/-- The Supply Unit at a reset: settled levels at the raw levels, slots by their presence lines, the seen list and settings from the store, the
model key table kept (R119, R120, R130, R133, R135). -/
def startSupply (lines : Lines) (st : Store) (models : List ModelEntry) : Supply :=
  { slots := ⟨startSlot lines.presence.q0 lines.doorClosed, startSlot lines.presence.q1 lines.doorClosed,
      startSlot lines.presence.q2 lines.doorClosed, startSlot lines.presence.q3 lines.doorClosed⟩
    presence := lines.presence
    doorClosed := lines.doorClosed
    presenceTimers := Quad.all none
    doorTimer := none
    seen := st.seen
    settings := st.supply
    models := models }

/-- The Order Unit's first access after a reset: the whole header with every index 0 and the state word as it stands (R152). -/
def firstHeader (s : State) : State :=
  { s with port := { s.port with control := [.header true (headerWords s)] }
           orders := { s.orders with lastHeader := headerWords s } }

/-- Every volatile state as its chapter gives it for a reset, the values loaded from the meter store, and what a reset keeps (R177). -/
def cleared (cold : Bool) (st : Store) (s : State) : State :=
  { State.reset with
    pending := s.pending
    mem := s.mem
    fittedFrames := s.fittedFrames
    lines := s.lines
    keyDraws := s.keyDraws
    nonceDraws := s.nonceDraws
    openReads := s.openReads
    coverage := { settings := st.coverage, residues := Quad.all 0 }
    meter := loadedMeter st
    store := st
    supply := startSupply s.lines st s.supply.models
    sup := { Supervision.powerOn with cold := cold, pfw := s.lines.pfw } }

/-- The part as a reset leaves it, loaded from the meter store and with its first header write placed (R116, R152, R177). -/
def afterReset (cold : Bool) (cut : ResetCut) (s : State) : State :=
  firstHeader (cleared cold (cutStore cut s) (cutMemory cut s))

/-- The part starts after a reset: the fold begins when the load has ended (R116). -/
def startUp (cold : Bool) (cut : ResetCut) (s : State) : State := closeTake (afterReset cold cut s)

/-! ## Commands -/

/-- POWER_ON (R177). Where power falls and rises at once, the cut is what the fall found half done. -/
def execPowerOn (cut : ResetCut) (s : State) : Result := .next (startUp true cut s)

/-- WARM_RESET: RESETN is asserted (R177). The part is cleared at once and stays in reset (log entry 21). -/
def execWarmReset (cut : ResetCut) (s : State) : Result :=
  if s.power = .on then .next { afterReset false cut s with power := .held } else .next s

/-- RESETN_RELEASE: the part resumes, with the board lines as they then are (R177, log entry 21). -/
def execResetnRelease (s : State) : Result :=
  if s.power = .held then .next (startUp false ⟨false, 0⟩ s) else .next s

/-- POWER_LOSS (R108): the accesses in progress end. What the volatile state holds until the next power-on is never read (log entry 22). -/
def execPowerLoss (cut : ResetCut) (s : State) : Result :=
  if s.power = .off then .next s
  else
    let t := cutMemory cut s
    .next { t with power := .off, store := cutStore cut s, port := { t.port with grant := none },
                   meter := { t.meter with write := none } }

end Sys2Proof.Machine
end

