-- ==== Sys2Proof/Machine/Dispatch.lean ====
section
/-! DEFINITION. One arm per command of spec/opcode_table.json: its effect on everything but the queue. -/

namespace Sys2Proof.Machine

/-- The effect of a command. -/
def exec (i : Instr) (s : State) : Host.Outcome State Fault Refusal :=
  match i with
  | .powerOn cut => Sys2Proof.Machine.execPowerOn cut s
  | .warmReset cut => Sys2Proof.Machine.execWarmReset cut s
  | .transferAccept t => Sys2Proof.Machine.execTransferAccept t s
  | .memoryGrant => Sys2Proof.Machine.execMemoryGrant s
  | .linkAccessPerformed => Sys2Proof.Machine.execLinkAccessPerformed s
  | .scrubLinePerformed => Sys2Proof.Machine.execScrubLinePerformed s
  | .orderFetch => Sys2Proof.Machine.execOrderFetch s
  | .unknownOrder => Sys2Proof.Machine.execUnknownOrder s
  | .bindFrames => Sys2Proof.Machine.execBindFrames s
  | .releaseFrames => Sys2Proof.Machine.execReleaseFrames s
  | .setView => Sys2Proof.Machine.execSetView s
  | .openJob => Sys2Proof.Machine.execOpenJob s
  | .closeJob => Sys2Proof.Machine.execCloseJob s
  | .purgeJob => Sys2Proof.Machine.execPurgeJob s
  | .definePage => Sys2Proof.Machine.execDefinePage s
  | .ticketPage => Sys2Proof.Machine.execTicketPage s
  | .unticketPage => Sys2Proof.Machine.execUnticketPage s
  | .dropPage => Sys2Proof.Machine.execDropPage s
  | .setWeights => Sys2Proof.Machine.execSetWeights s
  | .setColourThreshold => Sys2Proof.Machine.execSetColourThreshold s
  | .setAccount => Sys2Proof.Machine.execSetAccount s
  | .setTariff => Sys2Proof.Machine.execSetTariff s
  | .rollPeriod => Sys2Proof.Machine.execRollPeriod s
  | .creditAccount => Sys2Proof.Machine.execCreditAccount s
  | .readAccount => Sys2Proof.Machine.execReadAccount s
  | .probeSlot => Sys2Proof.Machine.execProbeSlot s
  | .readSlot => Sys2Proof.Machine.execReadSlot s
  | .setSupply => Sys2Proof.Machine.execSetSupply s
  | .setAttention => Sys2Proof.Machine.execSetAttention s
  | .start => Sys2Proof.Machine.execStart s
  | .startService => Sys2Proof.Machine.execStartService s
  | .endService => Sys2Proof.Machine.execEndService s
  | .keepalive => Sys2Proof.Machine.execKeepalive s
  | .recover => Sys2Proof.Machine.execRecover s
  | .eventWritePerformed => Sys2Proof.Machine.execEventWritePerformed s
  | .headerWritePerformed => Sys2Proof.Machine.execHeaderWritePerformed s
  | .stallTimerExpiry page => Sys2Proof.Machine.execStallTimerExpiry page s
  | .provisioningTimerExpiry => Sys2Proof.Machine.execProvisioningTimerExpiry s
  | .ctlrstPulseEnd => Sys2Proof.Machine.execCtlrstPulseEnd s
  | .keepaliveExpiry => Sys2Proof.Machine.execKeepaliveExpiry s
  | .pfwChange asserted => Sys2Proof.Machine.execPfwChange asserted s
  | .lineRawChange line level => Sys2Proof.Machine.execLineRawChange line level s
  | .lineSettleExpiry line => Sys2Proof.Machine.execLineSettleExpiry line s
  | .probeDelayExpiry slot => Sys2Proof.Machine.execProbeDelayExpiry slot s
  | .reprobeTimerExpiry slot => Sys2Proof.Machine.execReprobeTimerExpiry slot s
  | .supplyFrameSent slot => Sys2Proof.Machine.execSupplyFrameSent slot s
  | .supplyFrameReceived slot chars => Sys2Proof.Machine.execSupplyFrameReceived slot chars s
  | .answerWindowExpiry slot => Sys2Proof.Machine.execAnswerWindowExpiry slot s
  | .storeWriteDone readsBack => Sys2Proof.Machine.execStoreWriteDone readsBack s
  | .resetnRelease => Sys2Proof.Machine.execResetnRelease s
  | .powerLoss cut => Sys2Proof.Machine.execPowerLoss cut s

end Sys2Proof.Machine
end

