-- ==== Sys2Proof/Machine/Step.lean ====
section
/-! DEFINITION. One step: the command at the front of the queue, or one millisecond of the time base on an empty queue. -/

namespace Sys2Proof.Machine

/-- A millisecond passes while the part runs. DESIGN CHOICE, log entry 9: the table has no row for the time base. -/
def tick (s : State) : State := if s.power = .on then { s with time := s.time + 1 } else s

/-- The command at the front of the queue is taken with the rest of the queue; on an empty queue a millisecond passes. -/
def step (s : State) : Host.Outcome State Fault Refusal :=
  match s.pending with
  | [] => .next (tick s)
  | c :: rest => exec c { s with pending := rest }

/-- The state with the command that a word spells at the front of the queue; unchanged where it spells none. -/
def State.withFetchWord (s : State) (nbits w : Nat) : State :=
  match decodeTableWord nbits w with
  | some c => { s with pending := c :: s.pending }
  | none => s

end Sys2Proof.Machine
end

