-- ==== Sys2Proof/Safety.lean ====
section
/-! DEFINITION. What a sound state of the part is, in the terms that claims use: canonical data, lawful views, the scrub queue, the meter's
reservations and books, the rings, the keys and the supply slots. Each law is a promise of the spec about the whole machine. -/

namespace Sys2Proof.Machine

/-! ## Canonical data -/

/-- Page memory and every table are in their canonical form, so that equal contents are equal data. -/
structure Canonical (s : State) : Prop where
  mem      : Memory.wf s.mem = true
  frames   : Table.wf FrameEntry.free s.frames.entries = true
  jobs     : Table.wf Job.fresh s.jobs = true
  pages    : Table.wf none s.pages = true
  accounts : Table.wf Account.blank s.meter.accounts = true
  counts   : Table.wf CountsBlock.blank s.store.counts = true
  settings : Table.wf AccountSettings.blank s.store.settings = true

/-- The guard count of R37 is at most 16, and the deferred list of R159 holds at most 8 orders, each CLOSE JOB among them of one of the 16 job slots. -/
structure Bounded (s : State) : Prop where
  guard    : s.port.guardCount ≤ 16
  deferred : s.orders.deferred.length ≤ 8
  closes   : ∀ d ∈ s.orders.deferred, ∀ j, d.object = .closeJob j → j < 16

/-! ## Views -/

/-- A pinned entry of the View Table holds its default (R9), and no other entry holds a view that makes no sense for its class (R10). -/
def ViewsLawful (s : State) : Prop :=
  ∀ c src, if pinned c src = true then s.views.look c src = ViewTable.default.look c src
    else senseless c (s.views.look c src) = false

/-! ## The scrub queue -/

/-- A live scrub line of a frame is being performed. -/
def scrubLive (s : State) (f l : Nat) : Prop := s.port.grant = some (.scrub f l true)

/-- The frame is RETIRED or SCRUBBING. -/
def FrameState.residue : FrameState → Bool
  | .retired => true
  | .scrubbing => true
  | _ => false

/-- The Scrub Engine's law (R2, R144 to R148): the queue holds each RETIRED or SCRUBBING frame once and no other, its head alone is
SCRUBBING, and while the part runs the head's next line is offered or being performed. -/
structure ScrubLaw (s : State) : Prop where
  tables     : Table.wf FrameEntry.free s.frames.entries = true
  control    : ∀ f, (frameOf s f).state = .control ↔ f = 0
  once       : s.scrub.queue.Nodup
  residue    : ∀ f, f ∈ s.scrub.queue ↔ (frameOf s f).state.residue = true
  head       : ∀ f, (frameOf s f).state = .scrubbing ↔ s.scrub.queue.head? = some f
  progress   : s.scrub.progress.isSome = true ↔ s.scrub.queue ≠ []
  lines      : ∀ l, s.scrub.progress = some l → l < 16384
  live       : ∀ f l, scrubLive s f l → s.scrub.queue.head? = some f ∧ s.scrub.progress = some l ∧ s.scrub.offered = false
  offered    : s.scrub.offered = true → s.scrub.queue ≠ []
  advances   : s.power = .on → s.scrub.queue ≠ [] → s.scrub.offered = true ∨ ∃ f l, scrubLive s f l

/-! ## The meter -/

/-- The pages that hold a capture: each holds one journal reservation (R57). -/
def capturedPages (s : State) : Nat := (s.pages.filter fun e => (e.2.bind Page.capture).isSome).length

/-- The journal's law (R107): entries and reservations never exceed 64, and every reservation is a page's. -/
structure JournalLaw (s : State) : Prop where
  tables   : Table.wf none s.pages = true
  room     : s.store.journal.length + s.meter.reservations ≤ 64
  reserved : s.meter.reservations = capturedPages s

/-- The provisional charge that a page slot adds to an account's held clicks: that of a TICKETED page of the account (R99). -/
def heldBy (s : State) (a slot : Nat) : Nat :=
  match pageOf s slot with
  | some p =>
    match p.state with
    | .ticketed c => if accountNumber s p = a then c.provisional else 0
    | _ => 0
  | none => 0

/-- The provisional charge that a page slot adds to an account's inflight clicks: that of a PRINTING page of the account (R99). -/
def inflightBy (s : State) (a slot : Nat) : Nat :=
  match pageOf s slot with
  | some p =>
    match p.state with
    | .printing c _ => if accountNumber s p = a then c.provisional else 0
    | _ => 0
  | none => 0

/-- A job slot is CLOSING. -/
def Job.isClosing (j : Job) : Bool :=
  match j.state with
  | .closing _ _ => true
  | _ => false

/-- A tariff that SET TARIFF can leave (R100): 1 to 255 clicks, the colour tariff at or above the mono tariff. -/
def ByColour.lawful (b : ByColour) : Prop := 1 ≤ b.mono ∧ b.mono ≤ b.colour ∧ b.colour ≤ 255

/-- The law of pages and holds (R71, R73, R79, R99, R100): every live page is one of its job slot's present opening, a CLOSING job has pages in print
alone, no high-water passes the plane's length, level-dots are counted for a PRINTING page alone, a capture holds lawful tariffs and the
provisional charge of the declared colour, and an account's held and inflight clicks are the provisional charges of its TICKETED and of its
PRINTING pages. -/
structure HoldsLaw (s : State) : Prop where
  tables   : Table.wf Account.blank s.meter.accounts = true
  slots    : ∀ slot, 32 ≤ slot → pageOf s slot = none
  opening  : ∀ slot p, pageOf s slot = some p →
    p.job < 16 ∧ (jobOf s p.job).isFree = false ∧ (jobOf s p.job).generation = p.generation
  closing  : ∀ slot p, pageOf s slot = some p → (jobOf s p.job).isClosing = true → p.inPrint = true
  progress : ∀ slot p n, pageOf s slot = some p →
    p.highWater.get n ≤ p.length ∧ (p.isPrinting = false → p.sums.get n = 0)
  tariff   : ∀ n, (s.meter.tariff.get n).lawful ∧ (s.store.tariff.get n).lawful
  captured : ∀ slot p c, pageOf s slot = some p → p.capture = some c →
    (ByColour.mk c.mono c.colour).lawful ∧ c.provisional = c.of p.colour
  held     : ∀ a, (accountOf s a).held = ((List.range 32).map (heldBy s a)).sum
  inflight : ∀ a, (accountOf s a).inflight = ((List.range 32).map (inflightBy s a)).sum

/-- The law of the books (R106, R108, R112, R114, R116): the counts and totals in use are those that a load of the meter store would give, the
journal's sequences rise, no block has folded beyond the last sequence, and a fold write in progress is the next one that the head entry
needs. -/
structure BooksLaw (s : State) : Prop where
  tables   : Table.wf Account.blank s.meter.accounts = true
  counts   : ∀ a, a < 256 → (accountOf s a).counts = (loadedAccount s.store a).counts
  totals   : s.meter.totals = (s.store.journal.foldl foldTotals s.store.totals).totals
  rising   : (s.store.journal.map (·.sequence)).Pairwise (· < ·)
  ceiling  : ∀ e ∈ s.store.journal, e.sequence ≤ s.store.lastSeq
  folded   : ∀ a, (storedCounts s a).lastFolded ≤ s.store.lastSeq
  foldedTo : s.store.totals.lastFolded ≤ s.store.lastSeq
  write    : ∀ e a t n, s.meter.write = some (.fold e a t, n) →
    s.store.journal.head? = some e ∧ entryWrite s.store e = some (.fold e a t)

/-! ## The rings -/

/-- The ring index of an event write. -/
def ControlAccess.eventIndex : ControlAccess → Option Index
  | .event r => some r.index
  | _ => none

/-- The ring index of an order fetch. -/
def ControlAccess.fetchIndex : ControlAccess → Option Index
  | .fetch i => some i
  | _ => none

/-- The accesses that the Order Unit has placed and that have not been performed, oldest first. -/
def outstanding (s : State) : List ControlAccess :=
  match s.port.grant with
  | some (.control a) => a :: s.port.control
  | _ => s.port.control

/-- The law of the rings and of the header while the part runs (R152, R155, R156, R161, R163): the event writes outstanding are those of the
indices from the written produce index up to the produce index, in order; the event ring never holds more than 256 unconsumed records; the
only fetch outstanding is the one that the fetch flag says, at the take index; at most 64 orders are outstanding; and the header in memory
is that of the part's words or a header write waits. -/
structure RingsLaw (s : State) : Prop where
  events  : (outstanding s).filterMap (·.eventIndex) =
    (List.range (ringDistance s.events.produce s.events.written)).map fun k => s.events.written + BitVec.ofNat 16 k
  counted : ringDistance s.events.written s.events.consume + ringDistance s.events.produce s.events.written = occupancy s
  bounded : occupancy s ≤ 256
  fetch   : (outstanding s).filterMap (·.fetchIndex) = if s.orders.fetching = true then [s.orders.take] else []
  posted  : ringDistance s.orders.heldPost s.orders.take ≤ 64
  pending : s.orders.fetching = true → s.orders.heldPost ≠ s.orders.take
  header  : headerWords s = s.orders.lastHeader ∨ s.port.control.any (·.isHeader) = true

/-! ## Keys -/

/-- A key slot holds a key, LOADED or DRAINING. -/
def KeySlot.holds (k : Key) : KeySlot → Prop
  | .empty => False
  | .loaded l => l = k
  | .draining l => l = k

/-- The law of keys (R22, R24, R40, R45, R54): a key slot is LOADED exactly while its job is open and PRIVATE, every key was drawn once and stands in
one slot, a key drains only while the part in service holds it, and the part in service holds no key that has been erased. -/
structure KeysLaw (s : State) : Prop where
  tables   : Table.wf Job.fresh s.jobs = true
  loaded   : ∀ j, (∃ k, (jobOf s j).key = .loaded k) ↔ ∃ o, (jobOf s j).opening = some o ∧ o.privacy = .priv
  drawn    : ∀ j k, (jobOf s j).key.holds k → k.draw < s.keyDraws
  single   : ∀ i j k, (jobOf s i).key.holds k → (jobOf s j).key.holds k → i = j
  draining : ∀ j k, (jobOf s j).key = .draining k → ∃ v, s.filter.service = some v ∧ v.record.key = some k
  held     : ∀ v k, s.filter.service = some v → v.record.key = some k → ∃ j, (jobOf s j).key.holds k

/-! ## Supply -/

/-- A seen list: at most 8 serials, each once, with owed of 16 bits (R132). -/
structure SeenLaw (l : List SeenEntry) : Prop where
  room    : l.length ≤ 8
  serials : (l.map (·.serial)).Nodup
  owed    : ∀ e ∈ l, e.owed ≤ 65535

/-- Of an exchange, the frame being sent and the running answer window, counted: each live frame and a running window count one. -/
def Slot.attempts (r : Slot) : Nat := (r.sending.filter (·.live)).length + if r.window.isSome = true then 1 else 0

/-- A slot record's law (R118, R119, R124, R126): PROBING means an IDENT exchange, a DEBIT exchange runs on a VERIFIED cartridge alone, and an
exchange in flight has one attempt: its frame on the link or its answer window. -/
structure SlotLaw (r : Slot) : Prop where
  pending  : r.pending ≤ 65535
  probing  : r.state = .probing ↔ ∃ a nonce, r.exchange = .ident a nonce
  debit    : ∀ a nonce t c, r.exchange = .debit a nonce t c → r.state = .verified ∧ r.cartridge.isSome = true
  attempts : r.attempts = if r.exchange = .none then 0 else 1

/-- The Supply Unit's law while the part runs (R119 to R123, R132): the slots' own laws, ABSENT exactly where the presence line has settled low,
nothing but ABSENT and UNKNOWN behind an open door, and settle timers only where the raw level differs from the settled one. -/
structure SupplyLaw (s : State) : Prop where
  slots  : ∀ n, SlotLaw (slotOf s n)
  absent : ∀ n, (slotOf s n).state = .absent ↔ s.supply.presence.get n = false
  door   : s.supply.doorClosed = false → ∀ n, (slotOf s n).state = .absent ∨ (slotOf s n).state = .unknown
  settle : ∀ n, (s.supply.presenceTimers.get n).isSome = true → s.lines.presence.get n ≠ s.supply.presence.get n
  shut   : s.supply.doorTimer.isSome = true → s.lines.doorClosed = true ∧ s.supply.doorClosed = false
  seen   : SeenLaw s.supply.seen
  stored : SeenLaw s.store.seen

/-! ## The terms in which statements speak of a take -/

/-- The part runs, and an order of a kind has been fetched with its right length and turn: it passes the checks 1 to 3 of R157. -/
structure OrderReady (kind : Nat) (ps : List Nat) (s : State) : Prop where
  on      : s.power = .on
  fetched : fetchedOrder s = some ⟨kind, orderLength kind, orderTurn s.orders.take, ps⟩

/-- The state after the take of an order: the part as the order left it, the answer placed, the take index advanced, and what follows every
change within the same step. -/
def answered (u : State) (a : Answer) : State := closeTake (answerAndAdvance (u, a))

/-- The state after the take of an order that is refused: nothing but the fetch's end and the answer (R157). -/
def refusedWith (s : State) (c : Code) (detail : Nat) : State := answered (fetchDone s) (.plain c detail)

/-- The part in service asks for its link grant. -/
def asks (s : State) (v : Service) (a : LinkAccess) : Prop := s.filter.service = some v ∧ v.phase = .asking a

/-- The part in service has its grant, and an access of it is in progress. -/
def performs (s : State) (v : Service) (a : LinkAccess) : Prop :=
  s.power = .on ∧ s.port.grant = some .link ∧ s.filter.service = some v ∧ v.phase = .performing a

/-- The part runs, no transfer is in service, and a transfer of one part is accepted (R19, R21). -/
structure SinglePart (t : Transfer) (p : Part) (s : State) : Prop where
  on    : s.power = .on
  idle  : s.filter.service = none
  wf    : t.wf = true
  parts : Transfer.parts t = [p]

end Sys2Proof.Machine
end

