-- ==== Sys2Proof/Certificates/Slice0/Obligations.lean ====
section
/-! DEFINITION. The statements for the provers, from the spec's numbered rules. `answered`, `refusedWith`, `OrderReady` and the laws are those of
Sys2Proof/Safety.lean; the terms that only statements use stand first here. A state after a take is written `closeTake u`: `u` is what the command's own
rules give, and CloseTakeFrame says what the end of every take does to it within the same step. -/

open Sys2Proof Sys2Proof.Machine

/-! ## Terms of the statements: small parts of what the rules say, spelled out -/

/-- Every stored block that a journal entry concerns has taken it, by the block's last-folded sequence (R111, R112). -/
def entryTaken (st : Store) (e : Entry) : Prop :=
  let folded := fun a => (Table.get CountsBlock.blank st.counts a).lastFolded
  match e.body with
  | .settle a _ _ _ _ => e.sequence ≤ folded a ∧ e.sequence ≤ st.totals.lastFolded
  | .credit a _ => e.sequence ≤ folded a
  | .roll => ∀ a, a < 256 → e.sequence ≤ folded a

/-- The fold write that a journal entry needs next (R111, R112): of a SETTLE entry the blocks of the two that have not taken it, of a CREDIT entry its
account's, of a ROLL entry the lowest-numbered account's that has not. -/
def asksFold (st : Store) (e : Entry) (w : StoreWrite) : Prop :=
  let folded := fun a => (Table.get CountsBlock.blank st.counts a).lastFolded
  match e.body with
  | .settle a _ _ _ _ =>
    w = .fold e (if folded a < e.sequence then some a else none) (decide (st.totals.lastFolded < e.sequence))
  | .credit a _ => w = .fold e (some a) false
  | .roll => ∃ a, a < 256 ∧ folded a < e.sequence ∧ (∀ b, b < a → e.sequence ≤ folded b) ∧ w = .fold e (some a) false

/-- Fold complete is reported (R117, R159, R170): where a START waits, RUN is entered, the keepalive reference is the present time, STATE_CHANGE is
posted, and the START is answered DONE, detail 0 (log entry 40), and leaves the deferred list. -/
def foldComplete (s : State) : State :=
  let reported := { s with meter := { s.meter with foldReported := true } }
  if s.sup.startWaiting = none then reported
  else
    let isStart := fun (d : Deferred) => decide (d.object = .start)
    let entered := postEvent (.stateChange s.sup.device .run .start s.sup.cold)
      { reported with sup := { s.sup with device := .run, keepalive := some s.time, startWaiting := none } }
    { entered with
      port := { entered.port with
        control := entered.port.control ++ (s.orders.deferred.filter isStart).map fun d => .answer d.index (.plain .done 0) }
      orders := { s.orders with deferred := s.orders.deferred.filter fun d => !isStart d } }

/-- ATTN by its mode (R165), from the unconsumed count, whether an unconsumed alarm exists, and the latch. -/
def attnUnder (mode : AttnMode) (waiting : Nat) (alarm latch : Bool) : Bool :=
  match mode with
  | .off => false
  | .each => decide (1 ≤ waiting)
  | .batch => decide (4 ≤ waiting) || alarm
  | .alarmOnly => alarm
  | .first => latch

/-- The code of an event's kind, whether it is an alarm, and its payload item by item (R164, R181). -/
def eventRow : Event → Nat × Bool × List Byte
  | .pageWithheld p j a number cls declared reason ticketed =>
    (1, false, leBytes 1 p ++ leBytes 1 j ++ leBytes 1 a ++ leBytes 2 number ++ leBytes 1 cls.val ++ leBytes 1 declared.code ++
      leBytes 1 reason.code ++ leBytes 1 ticketed.toNat)
  | .pageSettled p j a outcome number measured clicks pm d =>
    (2, false, leBytes 1 p ++ leBytes 1 j ++ leBytes 1 a ++ leBytes 1 outcome.code ++ leBytes 2 number ++ leBytes 1 measured.code ++
      leBytes 1 clicks ++ (leBytes 2 pm.q0 ++ leBytes 2 pm.q1 ++ leBytes 2 pm.q2 ++ leBytes 2 pm.q3) ++
      (leBytes 2 d.q0 ++ leBytes 2 d.q1 ++ leBytes 2 d.q2 ++ leBytes 2 d.q3))
  | .pageGap p j number plane high offset =>
    (3, false, leBytes 1 p ++ leBytes 1 j ++ leBytes 2 number ++ leBytes 1 plane.val ++ leBytes 4 high ++ leBytes 4 offset)
  | .viewBreach src f write cls view =>
    (4, true, leBytes 1 (sourceTag src) ++ leBytes 2 f ++ leBytes 1 write.toNat ++ leBytes 1 cls.code ++ leBytes 1 view.code)
  | .rangeBreach src f write size => (5, true, leBytes 1 (sourceTag src) ++ leBytes 2 f ++ leBytes 1 write.toNat ++ leBytes 2 size)
  | .jobReleased j g a cause retired opened dropped aborted =>
    (6, false, leBytes 1 j ++ leBytes 2 g.toNat ++ leBytes 1 a ++ leBytes 1 cause.code ++ leBytes 2 retired ++ leBytes 2 opened ++
      leBytes 1 dropped ++ leBytes 1 aborted)
  | .scrubIdle scrubbed removed last how => (7, false, leBytes 2 scrubbed ++ leBytes 2 removed ++ leBytes 2 last ++ leBytes 1 how.code)
  | .slotChange n old new cart gauge clamped =>
    let reason := match new with
      | .rejected r => some r
      | _ => none
    (8, reason.isSome && decide (old ≠ new),
      leBytes 1 n.val ++ leBytes 1 old.code ++ leBytes 1 new.code ++ leBytes 1 ((reason.map (·.code)).getD 0) ++
        leBytes 6 ((cart.map (·.1.toNat)).getD 0) ++ leBytes 2 ((cart.map (·.2.toNat)).getD 0) ++ leBytes 3 (gauge.getD 0) ++
        leBytes 1 clamped.toNat ++ leBytes 1 (reason.isSome.toNat + 2 * cart.isSome.toNat + 4 * gauge.isSome.toNat))
  | .supplyLow n serial gauge capacity threshold =>
    (9, false, leBytes 1 n.val ++ leBytes 6 serial.toNat ++ leBytes 3 gauge ++ leBytes 3 capacity ++ leBytes 3 threshold)
  | .lines l =>
    (10, false, leBytes 1 (l.presence.q0.toNat + 2 * l.presence.q1.toNat + 4 * l.presence.q2.toNat + 8 * l.presence.q3.toNat +
      16 * l.doorClosed.toNat + 32 * l.pfw.toNat))
  | .stateChange old new cause cold =>
    (11, decide (new = .lockdown), leBytes 1 old.code ++ leBytes 1 new.code ++ leBytes 1 cause.code ++ leBytes 1 cold.toNat)
  | .provisionExpired windows cold entries => (12, true, leBytes 1 windows ++ leBytes 1 cold.toNat ++ leBytes 1 entries)
  | .ringFaultPost written held taken => (13, true, leBytes 1 0 ++ leBytes 2 written.toNat ++ leBytes 2 held.toNat ++ leBytes 2 taken.toNat)
  | .ringFaultConsume written held produced =>
    (13, true, leBytes 1 1 ++ leBytes 2 written.toNat ++ leBytes 2 held.toNat ++ leBytes 2 produced.toNat)
  | .storeFault block sequence entries =>
    let named := match block with
      | .counts a => (0, a)
      | .background (.accountSettings a) => (1, a)
      | .totals => (2, 0)
      | .background .tariff => (3, 0)
      | .background .coverage => (4, 0)
      | .background .supplySettings => (5, 0)
      | .background .seenList => (6, 0)
    (14, true, leBytes 1 named.1 ++ leBytes 1 named.2 ++ leBytes 4 sequence ++ leBytes 1 entries)
  | .meterFull entries reservations failed => (15, false, leBytes 1 entries ++ leBytes 1 reservations ++ leBytes 1 failed.toNat)
  | .overrun kind alarm => (16, true, leBytes 1 kind ++ leBytes 1 alarm.toNat)

/-- The toner that a run of settlements in one plane debits, and the residues after it. -/
def tonerRun (n : Plane) : Quad Nat → List (CoverageSettings × Page) → Nat × Quad Nat
  | r, [] => (0, r)
  | r, (c, p) :: rest =>
    let next := tonerRun n (tonerResidues ⟨c, r⟩ p) rest
    ((tonerDebits ⟨c, r⟩ p).get n + next.1, next.2)

/-- The live pages of a job slot's present opening, in ascending order of page slot (3.2). -/
def openingPages (s : State) (j : Nat) : List Page :=
  (List.range 32).filterMap fun slot => liveFor s slot j (jobOf s j).generation

/-- A slot's gauge (R118). -/
def gaugeOf (r : Slot) : Option Nat := r.cartridge.map fun c => c.capacity - c.dispensed - r.pending

/-- A slot takes a state; a change posts SLOT_CHANGE (R143). -/
def slotChanged (n : Plane) (new : SlotState) (s : State) : State :=
  let r := slotOf s n
  if r.state = new then s
  else
    postEvent (.slotChange n r.state new (r.cartridge.map fun c => (c.serial, c.model)) (gaugeOf r) r.clamped)
      (setSlot n { r with state := new } s)

/-- The IDENT exchange that begins on a slot (R125, R127, R128, R140): its probe delay and re-probe timer stop, it is PROBING, with SLOT_CHANGE unless
it was, and an ASK with a fresh nonce (a free value, log entry 4) is on its link as attempt 1, behind what the link still sends (log entry 20). -/
def identBegun (n : Plane) (s : State) : State :=
  let nonce := Config.nonceSource s.nonceDraws
  let t := slotChanged n .probing (setSlot n { slotOf s n with probeDelay := none, reprobe := none } s)
  setSlot n { slotOf t n with exchange := .ident 1 nonce, sending := (slotOf t n).sending ++ [⟨askFrame nonce, true⟩] }
    { t with nonceDraws := s.nonceDraws + 1 }

/-- The debit start condition is tested (R136): on a VERIFIED slot with no exchange and no retry waiting, whose pending reaches the quantum, or is above 0
with an empty gauge, attempt 1 of a DEBIT is on its link with a fresh nonce (log entry 4), behind what the link still sends (log entry 20). Its
target is the smaller of dispensed + pending and the capacity. -/
def debitTested (n : Plane) (s : State) : State :=
  let r := slotOf s n
  let nonce := Config.nonceSource s.nonceDraws
  match r.cartridge with
  | some c =>
    if r.state = .verified ∧ r.exchange = .none ∧ r.retryWaiting = false ∧
        (s.supply.settings.quantum ≤ r.pending ∨ (0 < r.pending ∧ gaugeOf r = some 0)) then
      let target := min (c.dispensed + r.pending) c.capacity
      setSlot n { r with
        exchange := .debit 1 nonce target (decide (c.capacity < c.dispensed + r.pending))
        sending := r.sending ++ [⟨debitFrame target nonce, true⟩] } { s with nonceDraws := s.nonceDraws + 1 }
    else s
  | none => s

/-- The owed of a slot's serial takes the slot's pending where the serial is present and in the seen list, whose block is then dirty (R133). -/
def owedWritten (n : Plane) (s : State) : State :=
  let r := slotOf s n
  match r.cartridge with
  | some c =>
    if ∃ e ∈ s.supply.seen, e.serial = c.serial then
      markDirty .seenList { s with supply := { s.supply with
        seen := s.supply.seen.map fun e => if e.serial = c.serial then { e with owed := r.pending } else e } }
    else s
  | none => s

/-- The seen list after a verification or a confirmation of a slot's serial (R132, R133): the serial at the front with its floor and owed 0, or the
slot's pending while the supply-fall warning is asserted; a ninth entry falls out; the block is dirty (log entry 16). -/
def serialSeen (n : Plane) (serial : BitVec 48) (floor : Nat) (s : State) : State :=
  markDirty .seenList { s with supply := { s.supply with
    seen := (⟨serial, floor, if s.sup.pfw = true then (slotOf s n).pending else 0⟩ ::
      s.supply.seen.filter fun e => decide (e.serial ≠ serial)).take 8 } }

/-- SUPPLY_LOW is tested (R135, R139): below the low threshold with low-warned clear it is posted and low-warned set. -/
def lowTested (n : Plane) (s : State) : State :=
  let r := slotOf s n
  match r.cartridge with
  | some c =>
    let gauge := c.capacity - c.dispensed - r.pending
    let threshold := c.capacity * s.supply.settings.lowMark / 1000
    if gauge < threshold ∧ r.lowWarned = false then
      postEvent (.supplyLow n c.serial gauge c.capacity threshold) (setSlot n { r with lowWarned := true } s)
    else s
  | none => s

/-- The final answer of a PROBE SLOT with a slot state: DONE, with the state, the reject reason, and the slot's serial and gauge (R140, R180). Its detail of 0
is the model's choice: log entry 40. -/
def probeResult (state : SlotState) (r : Slot) : Answer :=
  let reason := match state with
    | .rejected x => some x
    | _ => none
  ⟨.done, 0, some
    ⟨leBytes 1 state.code ++ leBytes 1 ((reason.map (·.code)).getD 0) ++ leBytes 6 ((r.cartridge.map (·.serial.toNat)).getD 0) ++
        leBytes 3 ((gaugeOf r).getD 0),
      BitVec.ofNat 8 (reason.isSome.toNat + 2 * r.cartridge.isSome.toNat)⟩⟩

/-- The PROBE SLOT orders that wait on a slot are answered with a state in the order of their take, and leave the deferred list (R140, R159). -/
def probesAnswered (n : Plane) (state : SlotState) (s : State) : State :=
  let waits := fun (d : Deferred) => decide (d.object = .probeSlot n)
  { s with
    port := { s.port with
      control := s.port.control ++ (s.orders.deferred.filter waits).map fun d => .answer d.index (probeResult state (slotOf s n)) }
    orders := { s.orders with deferred := s.orders.deferred.filter fun d => !waits d } }

/-- An exchange has ended, and the PROBE SLOT orders that wait on the slot are answered with its state (R140). -/
def probesEnded (n : Plane) (s : State) : State := probesAnswered n (slotOf s n).state s

/-- An exchange in flight is abandoned (R126): the exchange and its window end, and of the frames on the link the one being sent goes to its end, with any
answer to it discarded (log entry 20). -/
def exchangeAbandoned (n : Plane) (s : State) : State :=
  let r := slotOf s n
  if r.exchange = .none then s
  else setSlot n { r with exchange := .none, window := none, sending := (r.sending.take 1).map fun f => { f with live := false } } s

/-- A slot takes a state, with SLOT_CHANGE where it changes, and its probe delay and re-probe timer stop (R121, R122). -/
def slotStopped (n : Plane) (state : SlotState) (s : State) : State :=
  let t := slotChanged n state s
  setSlot n { slotOf t n with probeDelay := none, reprobe := none } t

/-- A slot becomes UNKNOWN, with SLOT_CHANGE unless it was, and its probe delay starts (R123). -/
def slotWaits (n : Plane) (s : State) : State :=
  let t := slotChanged n .unknown s
  setSlot n { slotOf t n with probeDelay := some s.time } t

/-- LINES is posted with the settled levels and the supply-fall warning as they stand (R120). -/
def linesPosted (s : State) : State := postEvent (.lines ⟨s.supply.presence, s.supply.doorClosed, s.sup.pfw⟩) s

/-- What steps 1 to 3 of a purge make of a job slot that is not FREE (R17, R51, R53 to R55). Every page in print is settled: of a PRINTING page the
provisional charge, an ABORTED entry and the debits by its sums. Every STAGED or TICKETED page is dropped. JOB_RELEASED, posted last, carries the frames
bound, retired or opened by the job's privacy and flag, and the two tallies. No page of the opening is live, no frame is BOUND to the job, each that was is
OPEN or in the scrub queue, the slot is FREE with its generation kept, and the key is gone or drains with the part in service. The Order Unit's own
state is as before. -/
def jobPurged (cause : ReleaseCause) (j : Nat) (s u : State) : Prop :=
  let job := jobOf s j
  let pages := openingPages s j
  let inPrint := pages.filter (·.inPrint)
  let charged := pages.filterMap fun p => match p.state with
    | .printing c _ => some (p, c)
    | _ => none
  let tickets := pages.filterMap fun p => match p.state with
    | .ticketed c => some c.provisional
    | _ => none
  let measured := fun (p : Page) =>
    if p.colour = .colour ∧ p.pixels * 9 * s.coverage.settings.threshold ≤ (p.sums.q1 + p.sums.q2 + p.sums.q3) * 65536 then Colour.colour
    else .mono
  let account := accountOf s job.account
  let clicks := (charged.map (·.2.provisional)).sum
  let run := charged.map fun e => (s.coverage.settings, e.1)
  let bound := (s.frames.entries.filter fun e => (boundTo j e.2).isSome).length
  let retires : Bool := match job.opening with
    | some o => o.scrubOnRelease || decide (o.privacy = .priv)
    | none => false
  (∃ t more, t.time = s.time ∧ t.port.control = s.port.control ++ more ∧ (∀ x ∈ more, ∃ e, x = .event e) ∧
    u = postEvent (.jobReleased j job.generation job.account cause (if retires then bound else 0) (if retires then 0 else bound)
      (job.dropped + (pages.length - inPrint.length)) (job.aborted + inPrint.length)) t) ∧
  u.store.journal = s.store.journal ++ charged.mapIdx (fun i e =>
    ⟨s.store.lastSeq + 1 + i, .settle job.account e.1.sizeClass (measured e.1) e.2.provisional .aborted⟩) ∧
  u.meter.reservations = s.meter.reservations - (charged.length + tickets.length) ∧
  (accountOf u job.account).inflight = account.inflight - clicks ∧
  (accountOf u job.account).held = account.held - tickets.sum ∧
  (account.counts.settled ≤ 4294967295 →
    (accountOf u job.account).counts.settled = min (account.counts.settled + clicks) 4294967295) ∧
  (∀ a, a ≠ job.account → accountOf u a = accountOf s a) ∧
  u.coverage.residues = (tonerRun 0 s.coverage.residues run).2 ∧
  (∀ n, (slotOf s n).pending ≤ 65535 →
    (slotOf u n).pending = min ((slotOf s n).pending + (tonerRun n s.coverage.residues run).1) 65535) ∧
  (∀ slot, slot < 32 → liveFor u slot j job.generation = none) ∧
  (∀ slot, liveFor s slot j job.generation = none → pageOf u slot = pageOf s slot) ∧
  (∀ f, (boundTo j (frameOf s f)).isSome = true →
    if retires then (frameOf u f).state.residue = true ∧ f ∈ u.scrub.queue else frameOf u f = ⟨.opened, false⟩) ∧
  (∀ f, boundTo j (frameOf s f) = none → (frameOf u f).state.residue = (frameOf s f).state.residue ∧ boundTo j (frameOf u f) = none) ∧
  (jobOf u j).state = .free ∧ (jobOf u j).generation = job.generation ∧
  (∀ k, job.key = .loaded k →
    (jobOf u j).key = if ∃ v, s.filter.service = some v ∧ v.record.key = some k then .draining k else .empty) ∧
  (∀ i, i ≠ j → jobOf u i = jobOf s i) ∧
  u.orders = s.orders ∧ u.mem = s.mem ∧ u.views = s.views ∧ u.sup = s.sup

/-- The purge of every job slot (R56, R159, R172, R174): `t j` is the state at the turn of slot `j`. In ascending order, a slot that is not FREE is purged, and
then, before the next slot's turn, the deferred CLOSE JOB orders are answered with a code in the order of their take, up to the first that waits on a
slot whose turn has not come; the answered ones leave the deferred list. That the close of the slot just purged stays behind one taken before it is the
model's choice: log entry 39. -/
def purgedInTurn (cause : ReleaseCause) (code : Code) (s : State) (t : Nat → State) : Prop :=
  let waitsOn := fun (d : Deferred) => match d.object with
    | .closeJob i => some i
    | _ => none
  t 0 = s ∧ ∀ j, j < 16 → ∃ v, (if (jobOf (t j) j).isFree = true then v = t j else jobPurged cause j (t j) v) ∧
    let closes := v.orders.deferred.filter fun d => (waitsOn d).isSome
    let due := closes.takeWhile fun d => (waitsOn d).any fun i => decide (i ≤ j)
    t (j + 1) = { v with
      port := { v.port with control := v.port.control ++ due.map fun d => .answer d.index (.plain code 0) }
      orders := { v.orders with deferred := v.orders.deferred.diff due } }

/-- A journal entry applied to the counts block of account `a`, once, by the block's last-folded sequence (R112): of a SETTLE entry the clicks and the page, of
a CREDIT entry settled less the clicks, of a ROLL entry settled moved to last-period. -/
def countsFolded (a : Nat) (block : CountsBlock) (e : Entry) : CountsBlock :=
  let c := block.counts
  if e.sequence ≤ block.lastFolded then block
  else match e.body with
    | .settle b _ measured clicks _ =>
      if b ≠ a then block
      else
        ⟨{ c with
          settled := min (c.settled + clicks) 4294967295
          lifetimeClicks := min (c.lifetimeClicks + clicks) 4294967295
          monoPages := if measured = .mono then min (c.monoPages + 1) 4294967295 else c.monoPages
          colourPages := if measured = .colour then min (c.colourPages + 1) 4294967295 else c.colourPages }, e.sequence⟩
    | .credit b clicks => if b ≠ a then block else ⟨{ c with settled := c.settled - clicks }, e.sequence⟩
    | .roll => if 256 ≤ a then block else ⟨{ c with lastPeriod := c.settled, settled := 0 }, e.sequence⟩

/-- A journal entry applied to the device totals block, once, by the block's last-folded sequence (R112): of a SETTLE entry the clicks and the page of its
size class and measured colour; other entries leave it as it is. -/
def totalsFolded (block : TotalsBlock) (e : Entry) : TotalsBlock :=
  match e.body with
  | .settle _ cls measured clicks _ =>
    if e.sequence ≤ block.lastFolded then block
    else
      let pages := fun (n : Plane) =>
        let old := block.totals.pages.get n
        if n ≠ cls then old
        else if measured = .mono then { old with mono := min (old.mono + 1) 4294967295 }
        else { old with colour := min (old.colour + 1) 4294967295 }
      ⟨⟨⟨pages 0, pages 1, pages 2, pages 3⟩, min (block.totals.clicks + clicks) 4294967295⟩, e.sequence⟩
  | _ => block

/-- The store after a store write has committed (R109, R112): a background block as it is in use at the commit (log entry 14), or the blocks that a fold
write covers with its entry applied; everything else as before. -/
def storeCommitted (w : StoreWrite) (s : State) (st : Store) : Prop :=
  (∀ a, w = .block (.accountSettings a) → st =
    { s.store with settings := Table.set AccountSettings.blank s.store.settings a (accountOf s a).settings }) ∧
  (w = .block .tariff → st = { s.store with tariff := s.meter.tariff }) ∧
  (w = .block .coverage → st = { s.store with coverage := s.coverage.settings }) ∧
  (w = .block .supplySettings → st = { s.store with supply := s.supply.settings }) ∧
  (w = .block .seenList → st = { s.store with seen := s.supply.seen }) ∧
  (∀ e account totals, w = .fold e account totals → ∃ counts,
    st = { s.store with counts := counts, totals := if totals then totalsFolded s.store.totals e else s.store.totals } ∧
    ∀ a, Table.get CountsBlock.blank counts a = if account = some a then countsFolded a (storedCounts s a) e else storedCounts s a)

/-! ## The machine as a whole -/

/-- One step takes the command at the front of the queue and is its `exec` on the state with the queue's rest. On an empty queue a millisecond of
the time base passes while the part runs: the model's choice, log entry 9. -/
def Obligations.StepTakesFrontCommand : Prop :=
  ∀ s : State,
    (∀ c rest, s.pending = c :: rest → step s = exec c { s with pending := rest }) ∧
    (s.pending = [] → s.power = .on → step s = .next { s with time := s.time + 1 }) ∧
    (s.pending = [] → s.power ≠ .on → step s = .next s)

/-- Every command answers a next state in every state and leaves the queue as it is. While the part has no power or is held in reset, nothing but the
resets, the loss of power and the board's own line levels changes anything: log entries 1, 21 and 22. -/
def Obligations.EveryCommandAnswers : Prop :=
  ∀ (c : Instr) (s : State), (∃ t, exec c s = .next t ∧ t.pending = s.pending) ∧
    (s.power ≠ .on →
      match c with
      | .powerOn _ => True
      | .resetnRelease => True
      | .powerLoss _ => True
      | .pfwChange a => exec c s = .next { s with lines := { s.lines with pfw := a } }
      | .lineRawChange .door v => exec c s = .next { s with lines := { s.lines with doorClosed := v } }
      | .lineRawChange (.presence n) v => exec c s = .next { s with lines := { s.lines with presence := s.lines.presence.set n v } }
      | _ => exec c s = .next s)

/-- The end of a take, whole (R109, R111, R117, R152, R159, R170). While the store is not FAILED the head entries that every block has taken leave the
journal, and no head that is left has been taken. With no write in progress the store takes its next: the oldest dirty block and the head entry's fold
write in turn where both wait, else the one that waits, as attempt 1. Where the last entry left, fold complete is reported, and a waiting START enters
RUN. A header write with the part-owned words is placed exactly when they differ from those of the last one and none waits. Where the header write
stands among the accesses that wait is the model's choice: log entry 13; so is the detail 0 of that START's answer: log entry 40. -/
def Obligations.CloseTakeFrame : Prop :=
  ∀ s : State, ∃ (gone rest : List Entry) (w : Option (StoreWrite × Nat)),
    s.store.journal = gone ++ rest ∧ (∀ e ∈ gone, entryTaken s.store e) ∧
    (s.meter.failed = true → gone = []) ∧ (s.meter.failed = false → ∀ e, rest.head? = some e → ¬ entryTaken s.store e) ∧
    (s.meter.failed = true ∨ s.meter.write.isSome = true → w = s.meter.write) ∧
    (s.meter.failed = false → s.meter.write = none →
      let block := s.meter.dirty.head?.map fun b => (StoreWrite.block b, 1)
      (rest = [] ∨ (block.isSome = true ∧ s.meter.lastWasFold = true) → w = block) ∧
      (∀ e, rest.head? = some e → (block = none ∨ s.meter.lastWasFold = false) → ∃ f, asksFold s.store e f ∧ w = some (f, 1))) ∧
    let folded := { s with store := { s.store with journal := rest }, meter := { s.meter with write := w } }
    let u := if gone ≠ [] ∧ rest = [] then foldComplete folded else folded
    let byte := fun n => BitVec.ofNat 8 ((slotOf s n).state.code + if (slotOf s n).clamped then 128 else 0)
    let words : HeaderWords :=
      { take := s.orders.take, produce := s.events.written, device := u.sup.device, cold := s.sup.cold
        slots := ⟨byte 0, byte 1, byte 2, byte 3⟩, free := 64 - rest.length - s.meter.reservations }
    let waits := u.port.control.any fun a => match a with
      | .header _ _ => true
      | _ => false
    closeTake s =
      if words ≠ s.orders.lastHeader ∧ waits = false then
        { u with
          port := { u.port with control := u.port.control ++ [.header false words] }
          orders := { u.orders with lastHeader := words } }
      else u

/-! ## Layouts -/

/-- An order slot that the CPU writes for any order kind, with every parameter at every value that its width admits, is read back as it was
written (R154, R178, R180). -/
def Obligations.OrderSlotRoundTrip : Prop :=
  ∀ (o : OrderSlot) (widths : List Nat), orderWidths o.kind = some widths →
    List.Forall₂ (fun w v => v < 256 ^ w) widths o.params → o.length < 256 → o.turn < 256 →
    decodeOrder (encodeOrder o) = o

/-- Each frame that a cartridge may answer with is read as it was sent, whatever bytes that are no start marker come before it and whatever comes
after it (R124, R182). -/
def Obligations.SupplyFrameRoundTrip : Prop :=
  ∀ noise tail : List LinkChar, (∀ c ∈ noise, c.data ≠ startMarker) →
    (∀ (serial : BitVec 48) (model : BitVec 16) (capacity dispensed : Nat) (flags : Byte) (tag : BitVec 64),
      capacity < 2 ^ 24 → dispensed < 2 ^ 24 →
      decodeFrame (noise ++ encodeFrame 0x02 (beBytes 6 serial.toNat ++ beBytes 2 model.toNat ++ beBytes 3 capacity ++ beBytes 3 dispensed ++
          [flags] ++ beBytes 8 tag.toNat) ++ tail) =
        .ident serial model capacity dispensed flags tag) ∧
    (∀ (serial : BitVec 48) (dispensed : Nat) (tag : BitVec 64), dispensed < 2 ^ 24 →
      decodeFrame (noise ++ encodeFrame 0x04 (beBytes 6 serial.toNat ++ beBytes 3 dispensed ++ beBytes 8 tag.toNat) ++ tail) =
        .tally serial dispensed tag) ∧
    ∀ reason : Byte, decodeFrame (noise ++ encodeFrame 0x05 [reason] ++ tail) = .decline reason

/-- A complete frame with one parity bit turned, with a CRC that is not that of its bytes, or with a length that its kind does not have, is faulty (R124,
R182). That a start marker is known by its data bits, so that one of wrong parity makes a faulty frame, is the model's choice: log entry 19. -/
def Obligations.FaultyFrameDetected : Prop :=
  ∀ (noise tail : List LinkChar) (kind : Byte) (payload : List Byte), (∀ c ∈ noise, c.data ≠ startMarker) → payload.length < 256 →
    (∀ i, i < payload.length + 5 →
      decodeFrame (noise ++ (encodeFrame kind payload).modify i (fun c => { c with parity := !c.parity }) ++ tail) = .faulty) ∧
    (∀ crc : BitVec 16, crc ≠ crc16 (kind :: BitVec.ofNat 8 payload.length :: payload) →
      decodeFrame (noise ++
        (startMarker :: kind :: BitVec.ofNat 8 payload.length :: payload ++ beBytes 2 crc.toNat).map linkChar ++ tail) = .faulty) ∧
    (∀ n, frameLength kind = some n → payload.length ≠ n → decodeFrame (noise ++ encodeFrame kind payload ++ tail) = .faulty)

/-! ## The transfer path -/

/-- A transfer is served as one part, or as two where its lines cross a frame boundary: each part lies within one frame, the parts cover the
transfer's lines in order, past the top of the address space at address 0, and carry its bytes (R21). -/
def Obligations.PartsCoverTransfer : Prop :=
  ∀ t : Transfer, t.wf = true →
    ((Transfer.parts t).length = 1 ∨ (Transfer.parts t).length = 2) ∧
    ((Transfer.parts t).length = 1 ↔ t.addr.toNat / frameSize = (t.addr.toNat + 64 * t.access.lineCount - 1) / frameSize) ∧
    (∀ p ∈ Transfer.parts t, p.source = t.source ∧ 1 ≤ p.access.lineCount ∧ p.addr % 64 = 0 ∧ p.addr < 4294967296 ∧
      (p.addr + p.size - 1) / frameSize = p.addr / frameSize ∧ (p.isWrite = true ↔ ∃ bytes, t.access = .write bytes)) ∧
    ((Transfer.parts t).flatMap fun p => (List.range p.access.lineCount).map fun i => p.addr + 64 * i) =
      ((List.range t.access.lineCount).map fun i => (t.addr.toNat + 64 * i) % 4294967296) ∧
    ∀ bytes, t.access = .write bytes → (Transfer.parts t).flatMap Part.bytes = bytes

/-- The class of a frame that is not BOUND, by its state (R5). -/
def unboundClass : FrameState → Option FrameClass
  | .control => some .control
  | .opened => some .opened
  | .retired => some .retired
  | .scrubbing => some .retired
  | .bound _ => none

/-- What a part's record holds at its take (R5, R11, R22): out of range, nothing but its frame; of a BOUND frame, the class by the job's privacy, the
view, the binding, the job's generation, and the LOADED key under PLAIN or under METERED in the PRIVATE class; of any other frame, the class and
the view. A part is a breach when its view drops or blanks it in a guarded class, or when it is a print read of no live extent byte. -/
def Obligations.RecordAtTake : Prop :=
  ∀ (s : State) (p : Part),
    let r := formRecord s p
    let breaks := fun (c : FrameClass) (v : View) =>
      ((v = .blank ∨ (v = .metered ∧ p.isWrite = true)) ∧ (c = .control ∨ c = .priv ∨ c = .retired)) ∨
        (p.source = .print ∧ p.isWrite = false ∧ liveByte s p r.page = false)
    r.frame = p.frame ∧
    (frameLimit s ≤ p.frame → r = ⟨p.frame, false, none, none, none, none, none, none, none, true⟩) ∧
    (p.frame < frameLimit s →
      (∀ c, unboundClass (frameOf s p.frame).state = some c →
        r = ⟨p.frame, true, some c, some (s.views.look c p.source), none, none, none, none, none, r.breach⟩ ∧
        (r.breach = true ↔ breaks c (s.views.look c p.source))) ∧
      (∀ b o, (frameOf s p.frame).state = .bound b → (jobOf s b.job).opening = some o →
        ∃ c v, (c = if o.privacy = .priv then .priv else .shared) ∧ v = s.views.look c p.source ∧
          r = ⟨p.frame, true, some c, some v, some b.job, some (jobOf s b.job).generation, some b.block, b.page, r.key, r.breach⟩ ∧
          (∀ k, r.key = some k ↔ ((v = .plain ∨ (v = .metered ∧ c = .priv)) ∧ (jobOf s b.job).key = .loaded k)) ∧
          (r.breach = true ↔ breaks c v)))

/-- A part that is out of range, or in range under BLANK, gets its answer at its take: 0x00 in every byte of a read, a completion for a write, no
access of memory. A breach on a frame with a clear breach-noted flag is posted once and sets the flag (R4, R11, R12, R20, R26, R31). -/
def Obligations.FilledTransferAnswered : Prop :=
  ∀ (s : State) (t : Transfer) (p : Part), SinglePart t p s → (p.source ≠ .cpu ∨ p.frame ≠ 0) →
    let fill : LinkAnswer := if p.isWrite then .completion else .data (List.replicate p.size 0)
    let entry := frameOf s p.frame
    let closes := fun (u : State) => exec (.transferAccept t) s = .next (closeTake { u with filter := { u.filter with answer := some fill } })
    (frameLimit s ≤ p.frame →
      closes (if entry.noted then s else
        setFrame p.frame { entry with noted := true } (postEvent (.rangeBreach p.source p.frame p.isWrite (frameLimit s)) s))) ∧
    (p.frame < frameLimit s → s.views.look (classOf s entry) p.source = .blank →
      closes (if entry.noted = false ∧ (classOf s entry = .control ∨ classOf s entry = .priv ∨ classOf s entry = .retired ∨
            (p.source = .print ∧ p.isWrite = false ∧ liveByte s p (entry.binding.bind (·.page)) = false)) then
          setFrame p.frame { entry with noted := true }
            (postEvent (.viewBreach p.source p.frame p.isWrite (classOf s entry) .blank) s)
        else s))

/-- What the take of a transfer's parts asks for (R11 to R13, R20, R21, R22, R25 to R31, R34). The parts are taken in order; a part that touches no memory
ends at its take with fill, and the next is taken at once; after the last the answer leaves. Any other part asks for its link grant with its record,
the parts behind it, and the snooped values of the header words that it covers, whose shadows follow at the take. A breach on a frame with a clear flag
is posted and sets it. PASS, CIPHER and PLAIN reads and METERED reads with a live extent byte ask for a read. PASS writes, without the part-owned
header bytes, and CIPHER writes ask for their enabled bytes; PLAIN writes ask for an inserted read with a partial line, and for enciphered full lines
without. A write with no enabled byte, a write under METERED, a METERED read with no live extent byte, and a part that is blanked or out of range end. -/
def Obligations.TransferAsksForGrant : Prop :=
  (∀ (s : State) (t : Transfer), s.power = .on → s.filter.service = none → t.wf = true →
    ∃ write : Bool, (write = true ↔ ∃ bytes, t.access = .write bytes) ∧
      exec (.transferAccept t) s = .next (closeTake (serveParts write (Transfer.parts t) [] s))) ∧
  (∀ (write : Bool) (data : List Byte) (s : State), serveParts write [] data s =
    { s with filter := { s.filter with service := none, answer := some (if write then .completion else .data data) } }) ∧
  ∀ (write : Bool) (p : Part) (rest : List Part) (data : List Byte) (s : State), p.addr % 64 = 0 →
    (p.isWrite = true → p.bytes.length = 64 * p.access.lineCount) →
    let r := formRecord s p
    let enabled := fun i => p.bytes.getD i none
    let covers := fun (a : Nat) (shadow : Index) (value : Option Index) =>
      let lo := enabled a
      let hi := enabled (a + 1)
      if p.source = .cpu ∧ p.isWrite = true ∧ p.addr = 0 ∧ (lo.isSome = true ∨ hi.isSome = true) then
        value.map (·.toNat) = some ((lo.map (·.toNat)).getD (shadow.toNat % 256) + 256 * (hi.map (·.toNat)).getD (shadow.toNat / 256))
      else value = none
    let live := ∃ (slot : Nat) (pg : Page) (n : Plane) (x : Nat), r.page = some slot ∧ pageOf s slot = some pg ∧
      (n = 0 ∨ pg.colour = .colour) ∧ p.addr ≤ x ∧ x < p.addr + 64 * p.access.lineCount ∧
      pg.starts.get n ≤ x ∧ x < pg.starts.get n + (pg.pixels + 3) / 4
    let noted := if r.breach = true ∧ (frameOf s r.frame).noted = false then
        setFrame r.frame { frameOf s r.frame with noted := true } (postEvent
          (match r.cls, r.view with
            | some c, some v => .viewBreach p.source r.frame p.isWrite c v
            | _, _ => .rangeBreach p.source r.frame p.isWrite (frameLimit s)) s)
      else s
    ∃ (post consume : Option Index) (stored : List (Option Byte)),
      covers 0 s.filter.postShadow post ∧ covers 6 s.filter.consumeShadow consume ∧ stored.length = p.bytes.length ∧
      (∀ i, i < p.bytes.length → stored.getD i none =
        if p.source = .cpu ∧ ((2 ≤ p.addr + i ∧ p.addr + i < 6) ∨ (8 ≤ p.addr + i ∧ p.addr + i < 16)) then none
        else enabled i) ∧
      let u := { noted with filter := { s.filter with
        postShadow := post.getD s.filter.postShadow, consumeShadow := consume.getD s.filter.consumeShadow } }
      let asks := fun (a : LinkAccess) => serveParts write (p :: rest) data s =
        { u with filter := { u.filter with service := some ⟨p, r, .asking a, rest, data, post, consume⟩ } }
      let ends := post = none → consume = none → serveParts write (p :: rest) data s =
        serveParts write rest (data ++ if p.isWrite then [] else List.replicate (64 * p.access.lineCount) 0) u
      let none_ := fun (bytes : List (Option Byte)) => ∀ b ∈ bytes, b = none
      let partial_ := ∃ i, i < p.access.lineCount ∧ (∃ b ∈ lineOf p.bytes i, b.isSome = true) ∧ (∃ b ∈ lineOf p.bytes i, b = none)
      ((r.view = none ∨ r.view = some .blank) → ends) ∧
      (p.isWrite = false → (r.view = some .pass ∨ r.view = some .cipher ∨ r.view = some .plain) → asks .read) ∧
      (p.isWrite = false → r.view = some .metered → (live → asks .read) ∧ (¬ live → ends)) ∧
      (p.isWrite = true →
        (r.view = some .pass → (none_ stored → ends) ∧ (¬ none_ stored → asks (.write stored))) ∧
        (r.view = some .cipher → (none_ p.bytes → ends) ∧ (¬ none_ p.bytes → asks (.write p.bytes))) ∧
        (r.view = some .plain → (none_ p.bytes → ends) ∧ (partial_ → asks .mergeRead) ∧
          (¬ none_ p.bytes → ¬ partial_ → asks (.write (plainWrite r p [])))) ∧
        (r.view = some .metered → ends))

/-- In every state whose View Table is lawful, no read of a PRIVATE frame by the CPU or by NET tells anything of memory: every byte is 0x00. No write of
theirs to such a frame changes memory. The transfer completes at its take (R9, R26). -/
def Obligations.PrivateFrameHiddenFromCpuAndNet : Prop :=
  ∀ (s : State) (t : Transfer), ViewsLawful s → s.power = .on → s.filter.service = none → t.wf = true →
    (t.source = .cpu ∨ t.source = .net) →
    (∀ p ∈ Transfer.parts t, p.frame ≠ 0 ∧ p.frame < frameLimit s ∧ classOf s (frameOf s p.frame) = .priv) →
    ∃ u, exec (.transferAccept t) s = .next u ∧ u.mem = s.mem ∧ u.filter.service = none ∧ u.port.grant = s.port.grant ∧
      u.filter.answer = some (match t.access with
        | .read n => .data (List.replicate (64 * n) 0)
        | .write _ => .completion)

/-- The arbiter (R37): below a guard count of 16 the link, then the control queue, then the scrub line of a head frame that the part in service does
not address; at 16 the control queue, the scrub line, the link. A link grant counts while control or scrub work waits; the others clear the
count. A scrub line that was held back has no place before a client that R37's table puts first: log entry 37. While a grant lasts, or when nothing
waits, the command changes nothing: log entry 1. An answer write is performed within its grant (log entry 12): into the slot of its ring index, the code,
the detail, the turn of the index and zeros at 56 to 63, and with data the items, zeros and the marks at 8 to 55; no other byte changes (R158, R180). The
result codes stand in R178's order. -/
def Obligations.MemoryGrantArbitrates : Prop :=
  ∀ s : State, s.power = .on →
    let scrubReady := s.scrub.offered = true ∧ scrubHeldBack s = false
    (s.port.grant.isSome = true → exec .memoryGrant s = .next s) ∧
    (s.port.grant = none →
      (∀ v a, asks s v a → (s.port.guardCount < 16 ∨ (s.port.control = [] ∧ ¬ scrubReady)) →
        exec .memoryGrant s = .next (closeTake { s with
          filter := { s.filter with service := some { v with phase := .performing a } }
          port := { s.port with
            grant := some .link
            guardCount := if s.port.control = [] ∧ s.scrub.offered = false then 0 else min (s.port.guardCount + 1) 16 } })) ∧
      (∀ x rest, s.port.control = x :: rest → (16 ≤ s.port.guardCount ∨ ∀ v a, ¬ asks s v a) →
        match x with
        | .answer i ans =>
          ∃ m, exec .memoryGrant s = .next (closeTake { s with mem := m, port := { s.port with guardCount := 0, control := rest } }) ∧
            ∀ a, Table.get unlistedByte m a =
              let base := 4096 + 64 * (i.toNat % 64)
              if base + 56 ≤ a ∧ a < base + 64 then
                [BitVec.ofNat 8 ans.code.code, BitVec.ofNat 8 ans.detail, BitVec.ofNat 8 (i.toNat / 64 % 2)].getD (a - (base + 56)) 0
              else
                match ans.data with
                | none => readByte s a
                | some d =>
                  if a = base + 55 then d.marks
                  else if base + 8 ≤ a ∧ a < base + 55 then d.items.getD (a - (base + 8)) 0
                  else readByte s a
        | _ =>
          exec .memoryGrant s = .next (closeTake { s with
            port := { grant := some (.control x), guardCount := 0, control := rest } })) ∧
      (∀ f q l, s.scrub.queue = f :: q → s.scrub.progress = some l → scrubReady → s.port.control = [] →
        (16 ≤ s.port.guardCount ∨ ∀ v a, ¬ asks s v a) →
        exec .memoryGrant s = .next (closeTake { s with
          port := { grant := some (.scrub f l true), guardCount := 0, control := [] }
          scrub := { s.scrub with offered := false } })) ∧
      ((∀ v a, ¬ asks s v a) → s.port.control = [] → ¬ scrubReady → exec .memoryGrant s = .next s)) ∧
    [Code.done, .pending, .aborted, .format, .mode, .range, .stale, .state, .busy, .late, .pinned, .account, .allowance, .supply, .meter,
      .overlap].map (·.code) = List.range 16

/-- The read of a part is performed (R20, R21, R24, R25, R28, R38, R54): the link gets the stored lines under PASS and CIPHER and the deciphered lines under
PLAIN; the grant and the service end, a DRAINING key that the part held is erased, and the answer leaves, or the upper part is taken, behind whose
lines the lower part's stand first. Bytes beyond the fitted memory are free values: log entry 5. -/
def Obligations.LinkReadPerformed : Prop :=
  ∀ (s : State) (v : Service), performs s v .read → v.post = none → v.consume = none → v.part.isWrite = false →
    let stored := portRead s v.part.addr v.part.size
    let ends := fun (bytes : List Byte) =>
      eraseDraining v.record.key { s with
        openReads := s.openReads + 1
        port := { s.port with grant := none }
        filter := { s.filter with service := none, answer := some (.data (v.data ++ bytes)) } }
    (fitted s v.part.addr = true → stored = readBytes s v.part.addr v.part.size) ∧
    (v.rest = [] → (v.record.view = some .pass ∨ v.record.view = some .cipher) →
      exec .linkAccessPerformed s = .next (closeTake (ends stored))) ∧
    (v.rest = [] → v.record.view = some .plain →
      exec .linkAccessPerformed s = .next (closeTake (ends (decipherPart v.record v.part stored)))) ∧
    let goesOn := fun (p : Part) (bytes : List Byte) =>
      serveParts false [p] (v.data ++ bytes) (eraseDraining v.record.key { s with
        openReads := s.openReads + 1
        port := { s.port with grant := none }
        filter := { s.filter with service := none } })
    ∀ p, v.rest = [p] →
      ((v.record.view = some .pass ∨ v.record.view = some .cipher) →
        exec .linkAccessPerformed s = .next (closeTake (goesOn p stored))) ∧
      (v.record.view = some .plain →
        exec .linkAccessPerformed s = .next (closeTake (goesOn p (decipherPart v.record v.part stored))))

/-- The write of a part is performed (R20, R21, R24, R25, R30, R38): the enabled bytes stand in memory, every other byte reads as before, the grant and
the service end, a DRAINING key that the part held is erased, and the completion leaves; where an upper part waits, it is taken at once instead. The
inserted read of a read-merge-write is followed by the write of the merged lines within the same grant. -/
def Obligations.LinkWritePerformed : Prop :=
  ∀ (s : State) (v : Service),
    (∀ bytes, performs s v (.write bytes) → v.post = none → v.consume = none → v.part.isWrite = true →
      ∃ u,
        (v.rest = [] → exec .linkAccessPerformed s = .next (closeTake (eraseDraining v.record.key { s with
          mem := u
          port := { s.port with grant := none }
          filter := { s.filter with service := none, answer := some .completion } }))) ∧
        (∀ p, v.rest = [p] → exec .linkAccessPerformed s = .next (closeTake (serveParts true [p] v.data
          (eraseDraining v.record.key { s with
            mem := u
            port := { s.port with grant := none }
            filter := { s.filter with service := none } })))) ∧
        ∀ x, Table.get unlistedByte u x =
          if fitted s v.part.addr = true ∧ v.part.addr ≤ x ∧ x < v.part.addr + bytes.length then
            (bytes.getD (x - v.part.addr) none).getD (readByte s x)
          else readByte s x) ∧
    (performs s v .mergeRead →
      exec .linkAccessPerformed s = .next (closeTake { s with
        openReads := s.openReads + 1
        filter := { s.filter with service := some { v with
          phase := .performing (.write (plainWrite v.record v.part (portRead s v.part.addr v.part.size))) } } }))

/-- The line cipher's two directions undo each other on every whole line, under the same key, generation, logical block and line (R27). A PLAIN write,
line by line (R29, R30): a line with no enable is not written; any other line is written whole, and deciphers to the enabled bytes of the write over
what the stored line deciphered to, which for a full line is the write's own data. -/
def Obligations.PlainWriteKeepsUnenabledBytes : Prop :=
  ∀ (r : PartRecord) (k : Key), r.key = some k →
    (∀ (line : Nat) (bytes : List Byte), bytes.length = 64 →
      (encipherLine r line bytes).length = 64 ∧
      decipherLine r line (encipherLine r line bytes) = bytes ∧
      encipherLine r line (decipherLine r line bytes) = bytes) ∧
    ∀ (p : Part) (bytes : List (Option Byte)) (stored : List Byte) (i : Nat),
      p.access = .write bytes → bytes.length = 64 * p.access.lineCount → stored.length = 64 * p.access.lineCount →
      i < p.access.lineCount →
      (lineEmpty (lineOf bytes i) = true → lineOf (plainWrite r p stored) i = lineOf bytes i) ∧
      (lineEmpty (lineOf bytes i) = false →
        ∃ line, lineOf (plainWrite r p stored) i = line.map some ∧
          decipherLine r (p.lineIndex i) line =
            List.zipWith (fun w b => w.getD b) (lineOf bytes i) (decipherLine r (p.lineIndex i) (lineOf stored i)))

/-- The CPU's order post and event consume indices reach the Order Unit when the write that carries them has been performed, the post index first (R35). A
post value is held when at most 64 orders would be outstanding and it does not pass an order being fetched (R155). A consume value up to the written
produce index becomes the consume index; the last alarm's index becomes none when the record is consumed; in FIRST the latch is clear, and armed is set
where no record is unconsumed; ATTN is judged again (R162, R165, R166). Any other value is reported as RING_FAULT and leaves the held one. -/
def Obligations.SnoopedIndicesTaken : Prop :=
  ∀ (s : State) (v : Service) (bytes : List (Option Byte)),
    performs s v (.write bytes) → v.rest = [] → v.part.isWrite = true → v.record.key = none →
    ∃ m, m = (if fitted s v.part.addr then writeCells s.mem v.part.addr bytes else s.mem) ∧
    let base := { s with mem := m, port := { s.port with grant := none } }
    let posted := match v.post with
      | none => base
      | some value =>
        if ringDistance value s.orders.take ≤ 64 ∧ (s.orders.fetching = true → value ≠ s.orders.take) then
          { base with orders := { s.orders with heldPost := value } }
        else postEvent (.ringFaultPost value s.orders.heldPost s.orders.take) base
    let consumed := match v.consume with
      | none => posted
      | some value =>
        if ringDistance value s.events.consume ≤ ringDistance s.events.written s.events.consume then
          let waiting := ringDistance s.events.written value
          let last := match s.events.lastAlarm with
            | some i => if ringDistance i value < waiting then some i else none
            | none => none
          let latch := if s.events.mode = AttnMode.first then false else s.events.latch
          { posted with events := { posted.events with
            consume := value
            lastAlarm := last
            latch := latch
            armed := if s.events.mode = AttnMode.first then decide (waiting = 0) else s.events.armed
            attn := attnUnder s.events.mode waiting last.isSome latch } }
        else postEvent (.ringFaultConsume value s.events.consume s.events.written) posted
    exec .linkAccessPerformed s =
      .next (closeTake { consumed with filter := { s.filter with service := none, answer := some .completion } })

/-- A scrub line is performed (R146 to R150): the line of the frame is zero. The head's progress rises and its next line is offered; after the last
line the frame is OPEN, the count of frames scrubbed rises, and the next of the queue is SCRUBBING from line 0, or the empty queue posts SCRUB_IDLE and
clears both counts. The line of a frame that START removed counts for nothing. -/
def Obligations.ScrubLinePerformed : Prop :=
  ∀ (s : State) (f l : Nat) (live : Bool), s.power = .on → s.port.grant = some (.scrub f l live) →
    ∃ m, (∀ x, Table.get unlistedByte m x =
        if fitted s (lineAddress f l) = true ∧ lineAddress f l ≤ x ∧ x < lineAddress f l + 64 then 0 else readByte s x) ∧
      let base := { s with mem := m, port := { s.port with grant := none } }
      let count := min (s.scrub.scrubbed + 1) 65535
      exec .scrubLinePerformed s = .next (closeTake (
        if live = false then base
        else if l < 16383 then { base with scrub := { s.scrub with progress := some (l + 1), offered := true } }
        else
          match s.scrub.queue.tail with
          | g :: q =>
            setFrame g ⟨.scrubbing, false⟩ (setFrame f ⟨.opened, false⟩
              { base with scrub := ⟨g :: q, some 0, true, count, s.scrub.removed⟩ })
          | [] =>
            let posted := postEvent (.scrubIdle count s.scrub.removed f .scrubbed)
              (setFrame f ⟨.opened, false⟩ { base with scrub := ⟨[], none, false, count, s.scrub.removed⟩ })
            { posted with scrub := ⟨[], none, false, 0, 0⟩ }))

/-! ## Pages in print -/

/-- A METERED read that has been performed (R32, R50, R67 to R75), of any page, class and place. Its lines are deciphered in class PRIVATE and stand
as stored in SHARED. Where the record's page is no longer live for its job and generation, or no byte lies in a plane of it, every byte is fill and
nothing changes. Otherwise the page is admitted or withheld if it was not in print, and the read is served plane by plane against each high-water: a
re-read changes nothing; a straddle raises the high-water, restarts the stall timer and, of a PRINTING page, adds the level sum of the bytes from the
old high-water on; the first gap in the order K, C, M, Y posts PAGE_GAP once for a page. The page is settled PRINTED, or WITHHELD, where every
high-water is the plane's length. Data are the bytes of a PRINTING page's re-reads and straddles; every other byte is fill. That the hand-off, what it
settles and releases, the erasure of the key and the answer are one step is the model's choice: log entry 38. Bytes beyond the fitted memory are free:
log entry 5. What counted bytes add (R83, R84, 11.6): the levels of their pixels, two bits each from the most significant on, and in the last byte of
a plane those of the page's pixels alone. -/
def Obligations.PrintReadServed : Prop :=
  (∀ (pixels offset : Nat) (bytes : List Byte), 0 < pixels → offset + bytes.length ≤ planeLength pixels →
    countedSum pixels offset bytes =
      ((List.range (4 * bytes.length)).map fun i =>
        if 4 * offset + i < pixels then (bytes.getD (i / 4) 0).toNat / 4 ^ (3 - i % 4) % 4 else 0).sum) ∧
  ∀ (s : State) (v : Service) (slot j : Nat) (g : Index) (plain : List Byte),
    performs s v .read → v.post = none → v.consume = none → v.part.isWrite = false → v.record.view = some .metered →
    v.record.page = some slot → v.record.job = some j → v.record.generation = some g →
    plain = (if v.record.cls = some .priv then decipherPart v.record v.part (portRead s v.part.addr v.part.size)
      else portRead s v.part.addr v.part.size) →
    let lo := v.part.addr
    let hi := v.part.addr + plain.length
    let base := { s with openReads := s.openReads + 1 }
    let ends := fun (u : State) (bytes : List Byte) => exec .linkAccessPerformed s = .next (closeTake (serveParts false v.rest (v.data ++ bytes)
      (eraseDraining v.record.key { u with port := { u.port with grant := none }, filter := { s.filter with service := none } })))
    let meets := fun (p : Page) (n : Plane) =>
      (n = 0 ∨ p.colour = .colour) ∧ max lo (p.starts.get n) < min hi (p.starts.get n + (p.pixels + 3) / 4)
    ((∀ p, pageOf s slot = some p → p.job = j → p.generation = g → ∀ n, ¬ meets p n) → ends base (List.replicate plain.length 0)) ∧
    ∀ p q, pageOf s slot = some p → p.job = j → p.generation = g → (∃ n, meets p n) → pageOf (takeAdmission slot p base) slot = some q →
      let a := fun n => max lo (q.starts.get n) - q.starts.get n
      let b := fun n => min hi (q.starts.get n + (q.pixels + 3) / 4) - q.starts.get n
      let raises := fun n => meets q n ∧ a n ≤ q.highWater.get n ∧ q.highWater.get n < b n
      let gaps := fun n => meets q n ∧ q.highWater.get n < a n
      ∃ (q' : Page) (pages : Table (Option Page)) (posted : State) (bytes : List Byte),
        q' = { q with state := q'.state, highWater := q'.highWater, gapPosted := q'.gapPosted, sums := q'.sums } ∧
        (∀ n, (raises n → q'.highWater.get n = b n) ∧ (¬ raises n → q'.highWater.get n = q.highWater.get n)) ∧
        (∀ n, (raises n → q.isPrinting = true → q'.sums.get n = q.sums.get n + countedSum q.pixels (q.highWater.get n)
            ((plain.drop (q.starts.get n + q.highWater.get n - lo)).take (b n - q.highWater.get n))) ∧
          (¬ raises n ∨ q.isPrinting = false → q'.sums.get n = q.sums.get n)) ∧
        ((∃ n, raises n) → q'.state = match q.state with
          | .printing c _ => .printing c s.time
          | .withheld r _ => .withheld r s.time
          | other => other) ∧
        ((∀ n, ¬ raises n) → q'.state = q.state) ∧
        (q'.gapPosted = true ↔ q.gapPosted = true ∨ ∃ n, gaps n) ∧
        (∀ k, Table.get none pages k = if k = slot then some q' else pageOf (takeAdmission slot p base) k) ∧
        (let kept := { takeAdmission slot p base with pages := pages }
         (q.gapPosted = true ∨ (∀ n, ¬ gaps n) → posted = kept) ∧
         (∀ n, gaps n → (∀ m, m < n → ¬ gaps m) → q.gapPosted = false →
          posted = postEvent (.pageGap slot q.job q.number n (q.highWater.get n) (a n)) kept)) ∧
        bytes.length = plain.length ∧
        (∀ i, i < plain.length →
          let data := q.isPrinting = true ∧ ∃ n, meets q n ∧ a n ≤ q.highWater.get n ∧
            q.starts.get n + a n ≤ lo + i ∧ lo + i < q.starts.get n + b n
          (data → bytes.getD i 0 = plain.getD i 0) ∧ (¬ data → bytes.getD i 0 = 0)) ∧
        let complete := ∀ n : Plane, (n = 0 ∨ q.colour = .colour) → q'.highWater.get n = (q.pixels + 3) / 4
        (complete → ends (settleEnding slot .printed posted) bytes) ∧ (¬ complete → ends posted bytes)

/-- The law of admission (R67 to R69) over every command: a page comes to print only by the performance of a link access, and only while the device is
in RUN or SERVICE, the supply-fall line is deasserted, the page's job is ACTIVE, every slot that its planes require is usable, and, for a page that
was not ticketed, its account is ACTIVE, passes the allowance test, and a journal entry is free. -/
def Obligations.AdmissionIsGuarded : Prop :=
  ∀ (c : Instr) (s t : State) (slot : Nat) (p : Page),
    exec c s = .next t → pageOf t slot = some p → p.isPrinting = true →
    (∀ q, pageOf s slot = some q → q.isPrinting = false) →
    c = .linkAccessPerformed ∧ ∃ q, pageOf s slot = some q ∧
      (s.sup.device = .run ∨ s.sup.device = .service) ∧ s.sup.pfw = false ∧ (jobOf s q.job).isActive = true ∧
      (∀ n, n = 0 ∨ q.colour = .colour → (slotOf s n).state ≠ .absent ∧ (slotOf s n).state ≠ .exhausted ∧
        ∀ r, (slotOf s n).state ≠ .rejected r) ∧
      ((∃ cap, q.state = .ticketed cap) ∨
        (q.state = .staged ∧ (accountOf s (accountNumber s q)).settings.state = .active ∧
          (accountOf s (accountNumber s q)).allows (pageTariff s q) = true ∧ 0 < freeCount s))

/-- A first print read of a STAGED or TICKETED page (R67 to R69), by its admission: the first reason that applies withholds it, with its time, its
event and the release of a ticket; where none applies, a TICKETED page's charge moves from held to inflight, and a STAGED page captures the
tariffs, raises inflight and reserves a journal entry. -/
def Obligations.AdmissionOutcome : Prop :=
  ∀ (s : State) (slot : Nat) (p : Page), p.inPrint = false →
    let a := accountNumber s p
    let account := accountOf s a
    let tariff := s.meter.tariff.get p.sizeClass
    let charge := tariff.of p.colour
    let free := 64 - s.store.journal.length - s.meter.reservations
    let posts := fun (r : WithheldReason) (ticketed : Bool) (u : State) =>
      postEvent (.pageWithheld slot p.job a p.number p.sizeClass p.colour r ticketed) u
    (p.state = .staged →
      let reason :=
        if s.sup.device ≠ .run ∧ s.sup.device ≠ .service then some WithheldReason.mode
        else if s.sup.pfw then some .power
        else if (jobOf s p.job).isActive = false then some .job
        else if slotsUsable s p.colour = false then some .supply
        else if account.settings.state ≠ .active then some .account
        else if account.allows charge = false then some .allowance
        else if free = 0 then some .meter
        else none
      takeAdmission slot p s =
        match reason with
        | some r => posts r false (setPage slot (some { p with state := .withheld r s.time }) s)
        | none =>
          let printing := setAccount a { account with inflight := account.inflight + charge }
            (setPage slot (some { p with state := .printing ⟨tariff.mono, tariff.colour, charge⟩ s.time }) s)
          let reserved := { printing with meter := { printing.meter with reservations := s.meter.reservations + 1 } }
          if free = 1 then
            postEvent (.meterFull s.store.journal.length (s.meter.reservations + 1) s.meter.failed) reserved
          else reserved) ∧
    (∀ c, p.state = .ticketed c →
      let reason :=
        if s.sup.device ≠ .run ∧ s.sup.device ≠ .service then some WithheldReason.mode
        else if s.sup.pfw then some .power
        else if (jobOf s p.job).isActive = false then some .job
        else if slotsUsable s p.colour = false then some .supply
        else none
      takeAdmission slot p s =
        match reason with
        | some r =>
          let dropped := setAccount a { account with held := account.held - c.provisional }
            (setPage slot (some { p with state := .withheld r s.time }) s)
          posts r true { dropped with meter := { dropped.meter with reservations := s.meter.reservations - 1 } }
        | none =>
          setAccount a { account with held := account.held - c.provisional, inflight := account.inflight + c.provisional }
            (setPage slot (some { p with state := .printing c s.time }) s))

/-- A settlement of a page in print (R78, R79, R81, R85 to R88, R101, R106). Of a PRINTING page: its measured colour, its clicks by its captured tariffs,
the account's counts and page counts, the SETTLE entry in place of the reservation, the device's page totals and clicks, the residues and the debits
by its sums. Of a WITHHELD page nothing is charged, journalled or debited. Each posts PAGE_SETTLED last, with its outcome, clicks, permille figures and
debits, and the page is FREE. That its slot leaves every frame that carries it, and not those of its extents alone, is the model's: log entry 28. -/
def Obligations.SettlementFigures : Prop :=
  ∀ (s : State) (slot : Nat) (p : Page) (ending : Outcome), pageOf s slot = some p → ending ≠ .withheld →
    let u := settlePage slot ending s
    let a := accountNumber s p
    let account := accountOf s a
    let counts := account.counts
    let up := fun (n by_ : Nat) => min (n + by_) 4294967295
    let colours := p.sums.q1 + p.sums.q2 + p.sums.q3
    let measured : Colour :=
      if p.colour = .colour ∧ p.pixels * 9 * s.coverage.settings.threshold ≤ colours * 65536 then .colour else .mono
    let present := fun (n : Plane) => n = 0 ∨ p.colour = .colour
    let product := fun n => p.sums.get n * s.coverage.settings.weights.get n + s.coverage.residues.get n
    let reports := fun (outcome : Outcome) (clicks : Nat) (charged : Bool) =>
      ∃ (t : State) (more : List ControlAccess) (permille debits : Quad Nat), t.time = s.time ∧ t.port.control = s.port.control ++ more ∧
        u = { postEvent (.pageSettled slot p.job a outcome p.number measured clicks permille debits) t with
          pages := u.pages, frames := u.frames } ∧
        ∀ n, permille.get n = (if present n then p.sums.get n * 1000 / (p.pixels * 3) else 0) ∧
          debits.get n = if charged = true ∧ present n then product n / 4294967296 + s.coverage.settings.overheads.get n else 0
    pageOf u slot = none ∧ (∀ other, other ≠ slot → pageOf u other = pageOf s other) ∧
    (Table.wf FrameEntry.free s.frames.entries = true → ∀ f b, (frameOf u f).state = .bound b → b.page ≠ some slot) ∧
    (∀ c last, p.state = .printing c last →
      let clicks := if ending = .printed then (if measured = .mono then c.mono else c.colour) else c.provisional
      accountOf u a = { account with
        inflight := account.inflight - c.provisional
        counts := { counts with
          settled := up counts.settled clicks
          lifetimeClicks := up counts.lifetimeClicks clicks
          monoPages := if measured = .mono then up counts.monoPages 1 else counts.monoPages
          colourPages := if measured = .colour then up counts.colourPages 1 else counts.colourPages } } ∧
      (∀ other, other ≠ a → accountOf u other = accountOf s other) ∧
      u.store.journal = s.store.journal ++ [⟨s.store.lastSeq + 1, .settle a p.sizeClass measured clicks ending⟩] ∧
      u.store.lastSeq = s.store.lastSeq + 1 ∧
      u.meter.reservations = s.meter.reservations - 1 ∧
      u.meter.totals.clicks = up s.meter.totals.clicks clicks ∧
      (∀ cls, u.meter.totals.pages.get cls =
        let old := s.meter.totals.pages.get cls
        if cls ≠ p.sizeClass then old
        else if measured = .mono then { old with mono := up old.mono 1 } else { old with colour := up old.colour 1 }) ∧
      (∀ n, u.coverage.residues.get n = if present n then product n % 4294967296 else s.coverage.residues.get n) ∧
      (∀ n, (slotOf u n).pending =
        if present n then
          min ((slotOf s n).pending + product n / 4294967296 + s.coverage.settings.overheads.get n) 65535
        else (slotOf s n).pending) ∧
      reports ending clicks true) ∧
    (∀ r last, p.state = .withheld r last →
      u.meter = s.meter ∧ u.store = s.store ∧ u.coverage = s.coverage ∧ u.supply = s.supply ∧ reports .withheld 0 false)

/-- The charge of a page never exceeds what it held (R79): in a lawful state a page's final clicks, whatever its outcome and its measured colour, are at
most its provisional charge, so that its settlement never raises its account's sum of settled, inflight and held clicks. -/
def Obligations.FinalClicksNeverExceedProvisional : Prop :=
  ∀ (s : State) (slot : Nat) (p : Page) (c : Capture) (last : Time) (ending : Outcome), HoldsLaw s → slot < 32 →
    pageOf s slot = some p → p.state = .printing c last → ending ≠ .withheld →
    finalClicks ending c (measuredColour s.coverage.settings.threshold p) ≤ c.provisional ∧
    let u := accountOf (settlePage slot ending s) (accountNumber s p)
    let old := accountOf s (accountNumber s p)
    u.counts.settled + u.inflight + u.held ≤ old.counts.settled + old.inflight + old.held

/-- Toner is neither gained nor lost between pages (R89): over a run of charged pages of a plane, under weights that may differ from page to page, the
debits are the floor of the run's exact toner plus the pages' overheads, and the residue is its remainder. -/
def Obligations.TonerRunIsExact : Prop :=
  ∀ (n : Plane) (r : Quad Nat) (run : List (CoverageSettings × Page)), r.get n < 4294967296 → (∀ e ∈ run, n ∈ planesOf e.2.colour) →
    let total := r.get n + (run.map fun e => e.2.sums.get n * e.1.weights.get n).sum
    (tonerRun n r run).1 = total / 4294967296 + (run.map fun e => e.1.overheads.get n).sum ∧
      (tonerRun n r run).2.get n = total % 4294967296

/-- The end of a page by completion or by its stall timer (R50, R75, R76, R78): the page is settled PRINTED or STALLED, or WITHHELD if it was withheld, and
the last page in print of a CLOSING job releases the job and answers its deferred close DONE. A stall is taken at the timer's expiry: the time base
stands at it or later (log entry 10). Without a page in print the expiry changes nothing (log entry 1). The detail 0 of DONE is the model's choice: log
entry 40. -/
def Obligations.StallTimerExpires : Prop :=
  ∀ (s : State) (slot : Nat),
    (∀ p ending, pageOf s slot = some p →
      let u := settlePage slot ending s
      ((jobOf u p.job).isClosing = false ∨ pageInPrint u p.job = true → settleEnding slot ending s = u) ∧
      ((jobOf u p.job).isClosing = true → pageInPrint u p.job = false →
        settleEnding slot ending s = answerDeferred (fun d => decide (d.object = .closeJob p.job)) (fun _ => .plain .done 0)
          (releaseJob p.job .close u))) ∧
    (s.power = .on →
      (∀ p last, pageOf s slot = some p → p.progress = some last →
        let t := reachTime last (1000 * s.sup.stallSeconds) s
        (t = s ∨ t = { s with time := last + BitVec.ofNat 32 (1000 * s.sup.stallSeconds) }) ∧
        exec (.stallTimerExpiry slot) s = .next (closeTake (settleEnding slot .stalled t))) ∧
      ((∀ p, pageOf s slot = some p → p.inPrint = false) → exec (.stallTimerExpiry slot) s = .next s))

/-! ## Orders: fetch and common checks -/

/-- The orders of R180: the command, the code, the parameter length in bytes, and the device states that accept the order (R157). -/
def orderTable : List (Instr × Nat × Nat × List DeviceState) :=
  let work : List DeviceState := [.run, .service]
  let settings : List DeviceState := [.provision, .run, .service]
  [(.bindFrames, 1, 9, work), (.releaseFrames, 2, 7, work), (.setView, 3, 3, settings), (.openJob, 4, 4, work),
   (.closeJob, 5, 3, work), (.purgeJob, 6, 3, work), (.definePage, 7, 27, work), (.ticketPage, 8, 4, work),
   (.unticketPage, 9, 4, work), (.dropPage, 10, 4, work), (.setWeights, 11, 7, settings),
   (.setColourThreshold, 12, 4, settings), (.setAccount, 13, 7, settings), (.setTariff, 14, 3, settings),
   (.rollPeriod, 15, 0, work), (.creditAccount, 16, 6, work), (.readAccount, 17, 3, settings), (.probeSlot, 18, 1, settings),
   (.readSlot, 19, 1, settings), (.setSupply, 20, 4, settings), (.setAttention, 21, 1, settings),
   (.start, 22, 5, [.provision]), (.startService, 23, 0, [.provision]), (.endService, 24, 0, [.service]),
   (.keepalive, 25, 0, work), (.recover, 26, 0, [.lockdown])]

/-- The fetch of orders, the common checks and the order of no known kind (R154 to R157, R160, R180). A fetch of the slot at the take index is placed when
an order is posted, none is being fetched, fewer than four accesses wait (log entry 13), and no deferred order waits in that slot; otherwise the command
changes nothing (log entry 1). A
fetched kind that is not 1 to 26 is refused with FORMAT detail 1; then, for every order of the table, a length that is not the order's with FORMAT
detail 2, a turn that is not the slot's with FORMAT detail 3, a device state that does not accept the order with MODE. Of a fetch that has been performed the
port is free and the fetch flag clear; the answer write of an order is placed for the take index, behind what waits and after the order's events, and the take
index then rises by one. A refused order changes nothing else. -/
def Obligations.OrderFetchAndCommonChecks : Prop :=
  (∀ s, fetchDone s = { s with port := { s.port with grant := none }, orders := { s.orders with fetching := false } }) ∧
  (∀ u a, answered u a = closeTake { u with
    port := { u.port with control := u.port.control ++ [.answer u.orders.take a] }
    orders := { u.orders with take := u.orders.take + 1 } }) ∧
  (∀ s code detail, refusedWith s code detail = answered (fetchDone s) ⟨code, detail, none⟩) ∧
  ∀ s : State, s.power = .on →
    (let may := s.orders.heldPost ≠ s.orders.take ∧ s.orders.fetching = false ∧ s.port.control.length < 4 ∧
        ∀ d ∈ s.orders.deferred, d.index.toNat % 64 ≠ s.orders.take.toNat % 64
     (may → exec .orderFetch s = .next (closeTake { s with
        orders := { s.orders with fetching := true }
        port := { s.port with control := s.port.control ++ [.fetch s.orders.take] } })) ∧
     (¬ may → exec .orderFetch s = .next s)) ∧
    (∀ i, s.port.grant = some (.control (.fetch i)) →
      fetchedOrder s = some (decodeOrder (readBytes s (4096 + 64 * (i.toNat % 64)) 64))) ∧
    ∀ o, fetchedOrder s = some o →
      (o.kind = 0 ∨ 26 < o.kind → exec .unknownOrder s = .next (refusedWith s .format 1)) ∧
      ∀ row ∈ orderTable, o.kind = row.2.1 →
        (o.length ≠ row.2.2.1 → exec row.1 s = .next (refusedWith s .format 2)) ∧
        (o.length = row.2.2.1 → o.turn ≠ s.orders.take.toNat / 64 % 2 → exec row.1 s = .next (refusedWith s .format 3)) ∧
        (o.length = row.2.2.1 → o.turn = s.orders.take.toNat / 64 % 2 → s.sup.device ∉ row.2.2.2 →
          exec row.1 s = .next (refusedWith s .mode 0))

/-! ## Orders on frames and views -/

/-- BIND FRAMES (R14, R15): its checks in their order, and then every frame of the run BOUND to the job with rising logical blocks, no page and a clear
flag, the job's count raised, and every other frame as it was. -/
def Obligations.BindFramesOrder : Prop :=
  ∀ (s : State) (j g first count lb : Nat), OrderReady 1 [j, g, first, count, lb] s →
    if s.sup.device ≠ .run ∧ s.sup.device ≠ .service then exec .bindFrames s = .next (refusedWith s .mode 0) else
    if 15 < j then exec .bindFrames s = .next (refusedWith s .range 1)
    else if count = 0 ∨ 4096 < count then exec .bindFrames s = .next (refusedWith s .range 4)
    else if first = 0 ∨ frameLimit s ≤ first then exec .bindFrames s = .next (refusedWith s .range 3)
    else if frameLimit s < first + count then exec .bindFrames s = .next (refusedWith s .range 4)
    else if BitVec.ofNat 16 g ≠ (jobOf s j).generation then exec .bindFrames s = .next (refusedWith s .stale 2)
    else if (jobOf s j).isActive = false then exec .bindFrames s = .next (refusedWith s .state 1)
    else if ∃ i, i < count ∧ (frameOf s (first + i)).state ≠ .opened then exec .bindFrames s = .next (refusedWith s .state 3)
    else if 4096 < lb + count then exec .bindFrames s = .next (refusedWith s .overlap 5)
    else if ∃ e ∈ s.frames.entries, ((boundTo j e.2).any fun b => decide (lb ≤ b.block) && decide (b.block < lb + count)) = true then
      exec .bindFrames s = .next (refusedWith s .overlap 5)
    else ∃ frames : Frames, frames.size = s.frames.size ∧
      (∀ f, Table.get FrameEntry.free frames.entries f =
        if first ≤ f ∧ f < first + count then ⟨.bound ⟨j, lb + (f - first), none⟩, false⟩ else frameOf s f) ∧
      exec .bindFrames s = .next (answered
        { setJob j { jobOf s j with bound := (jobOf s j).bound + count } (fetchDone s) with frames := frames } .done)

/-- RELEASE FRAMES (R16, R17, R145): its checks in their order, and then every frame of the run RETIRED at the queue's tail in order, the first SCRUBBING
from line 0 if the queue was empty, or OPEN, by the job's privacy and scrub-on-release flag; every flag clear, the job's count lowered, and every
other frame as it was. -/
def Obligations.ReleaseFramesOrder : Prop :=
  ∀ (s : State) (j g first count : Nat), OrderReady 2 [j, g, first, count] s →
    if s.sup.device ≠ .run ∧ s.sup.device ≠ .service then exec .releaseFrames s = .next (refusedWith s .mode 0) else
    if 15 < j then exec .releaseFrames s = .next (refusedWith s .range 1)
    else if count = 0 ∨ 4096 < count then exec .releaseFrames s = .next (refusedWith s .range 4)
    else if 4096 < first + count then exec .releaseFrames s = .next (refusedWith s .range 4)
    else if BitVec.ofNat 16 g ≠ (jobOf s j).generation then exec .releaseFrames s = .next (refusedWith s .stale 2)
    else if (jobOf s j).isFree = true then exec .releaseFrames s = .next (refusedWith s .state 1)
    else if ∃ i, i < count ∧ boundTo j (frameOf s (first + i)) = none then exec .releaseFrames s = .next (refusedWith s .state 3)
    else if ∃ i, i < count ∧ ((boundTo j (frameOf s (first + i))).bind (·.page)).isSome = true then
      exec .releaseFrames s = .next (refusedWith s .busy 3)
    else ∃ (frames : Frames) (scrub : Scrub), frames.size = s.frames.size ∧
      exec .releaseFrames s = .next (answered
        { setJob j { jobOf s j with bound := (jobOf s j).bound - count } (fetchDone s) with frames := frames, scrub := scrub } .done) ∧
      (((jobOf s j).retires = false ∧ scrub = s.scrub ∧
          ∀ f, Table.get FrameEntry.free frames.entries f =
            if first ≤ f ∧ f < first + count then ⟨.opened, false⟩ else frameOf s f) ∨
       ((jobOf s j).retires = true ∧ scrub.queue = s.scrub.queue ++ run first count ∧
          scrub.scrubbed = s.scrub.scrubbed ∧ scrub.removed = s.scrub.removed ∧
          (s.scrub.queue ≠ [] → scrub.progress = s.scrub.progress ∧ scrub.offered = s.scrub.offered) ∧
          (s.scrub.queue = [] → scrub.progress = some 0 ∧ scrub.offered = true) ∧
          ∀ f, Table.get FrameEntry.free frames.entries f =
            if first ≤ f ∧ f < first + count then
              (if s.scrub.queue = [] ∧ f = first then ⟨.scrubbing, false⟩ else ⟨.retired, false⟩)
            else frameOf s f))

/-- SET VIEW (R9, R10): codes out of range are refused, then a view that makes no sense for the class, then a pinned entry; otherwise that one entry takes
the view and no other changes. -/
def Obligations.SetViewOrder : Prop :=
  ∀ s : State,
    (∀ c src v, OrderReady 3 [c, src, v] s →
      (s.sup.device = .lockdown → exec .setView s = .next (refusedWith s .mode 0)) ∧
      (s.sup.device ≠ .lockdown → 4 < c → exec .setView s = .next (refusedWith s .range 1)) ∧
      (s.sup.device ≠ .lockdown → c ≤ 4 → 7 < src → exec .setView s = .next (refusedWith s .range 2)) ∧
      (s.sup.device ≠ .lockdown → c ≤ 4 → src ≤ 7 → 4 < v → exec .setView s = .next (refusedWith s .range 3))) ∧
    (∀ (c : FrameClass) (src : Source) (v : View), OrderReady 3 [c.code, sourceTag src, v.code] s → s.sup.device ≠ .lockdown →
      if v = .metered ∨ (c = .opened ∧ (v = .plain ∨ v = .cipher)) ∨ (c = .shared ∧ (v = .plain ∨ v = .cipher)) ∨ (c = .priv ∧ v = .pass) then
        exec .setView s = .next (refusedWith s .range 3)
      else if c = .control ∨ c = .retired ∨ src = .print ∨ (c = .priv ∧ (src = .cpu ∨ src = .net)) then
        exec .setView s = .next (refusedWith s .pinned 2)
      else ∃ views : ViewTable,
        (∀ d k, views.look d k = if d = c ∧ k = src then v else s.views.look d k) ∧
        exec .setView s = .next (answered { fetchDone s with views := views } .done))

/-! ## Orders on jobs -/

/-- OPEN JOB (R43 to R46): its checks in their order; then the lowest-numbered slot that is FREE with its key slot EMPTY is ACTIVE with the next
generation, the order's account and privacy, scrub-on-release set for PRIVATE, a key of a fresh draw for PRIVATE alone (log entry 2), and counts of
0; the answer carries slot and generation. -/
def Obligations.OpenJobOrder : Prop :=
  ∀ (s : State) (a privacy scrub : Nat), OrderReady 4 [a, privacy, scrub] s →
    if s.sup.device ≠ .run ∧ s.sup.device ≠ .service then exec .openJob s = .next (refusedWith s .mode 0) else
    if s.sup.device = .service ∧ privacy = 1 then exec .openJob s = .next (refusedWith s .mode 2)
    else if 255 < a then exec .openJob s = .next (refusedWith s .range 1)
    else if 1 < privacy then exec .openJob s = .next (refusedWith s .range 2)
    else if 1 < scrub then exec .openJob s = .next (refusedWith s .range 3)
    else if (accountOf s a).settings.state ≠ .active then exec .openJob s = .next (refusedWith s .account 1)
    else
      let usable := fun j => (jobOf s j).isFree = true ∧ (jobOf s j).key = .empty
      ((∀ j, j < 16 → ¬ usable j) → exec .openJob s = .next (refusedWith s .busy 0)) ∧
      ∀ j, j < 16 → usable j → (∀ i, i < j → ¬ usable i) →
        let generation := (jobOf s j).generation + 1
        let record : Job :=
          { state := .active ⟨a, if privacy = 1 then .priv else .shared, decide (scrub = 1 ∨ privacy = 1)⟩
            generation := generation
            key := if privacy = 1 then .loaded ⟨s.keyDraws⟩ else .empty
            bound := 0, dropped := 0, aborted := 0 }
        exec .openJob s = .next (answered
          { setJob j record (fetchDone s) with keyDraws := if privacy = 1 then s.keyDraws + 1 else s.keyDraws }
          (.doneWith (leBytes 1 j ++ leBytes 2 generation.toNat)))

/-- CLOSE JOB (R47, R48): its checks in their order; then every STAGED or TICKETED page of the job is dropped, and the job is released and the order DONE
when no page is in print; otherwise the job is CLOSING with the order deferred and answered PENDING. The detail 0 of DONE and PENDING is the model's
choice: log entry 40. -/
def Obligations.CloseJobOrder : Prop :=
  ∀ (s : State) (j g : Nat), OrderReady 5 [j, g] s →
    if s.sup.device ≠ .run ∧ s.sup.device ≠ .service then exec .closeJob s = .next (refusedWith s .mode 0) else
    if 15 < j then exec .closeJob s = .next (refusedWith s .range 1)
    else if BitVec.ofNat 16 g ≠ (jobOf s j).generation then exec .closeJob s = .next (refusedWith s .stale 2)
    else if (jobOf s j).isActive = false then exec .closeJob s = .next (refusedWith s .state 1)
    else if pageInPrint s j = true ∧ 8 ≤ s.orders.deferred.length then exec .closeJob s = .next (refusedWith s .busy 0)
    else
      let u := dropPages j (fetchDone s)
      (∀ slot p, slot < 32 → liveFor s slot j (jobOf s j).generation = some p →
        pageOf u slot = if p.inPrint then some p else none) ∧
      (∀ slot, liveFor s slot j (jobOf s j).generation = none → pageOf u slot = pageOf s slot) ∧
      (pageInPrint s j = false → exec .closeJob s = .next (answered (releaseJob j .close u) .done)) ∧
      (pageInPrint s j = true → ∀ o, (jobOf s j).opening = some o →
        exec .closeJob s = .next (answered
          (setJob j { jobOf u j with state := .closing o s.orders.take }
            { u with orders := { u.orders with deferred := u.orders.deferred ++ [⟨s.orders.take, .closeJob j⟩] } })
          (.plain .pending 0)))

/-- PURGE JOB and the release of a job (R17, R51, R53 to R55): its checks in their order; then steps 1 to 3, as `jobPurged` says them: every page in print is
settled with its charge, entry and debits, the others are dropped, and the job is released with JOB_RELEASED; then a deferred close of the job is
answered DONE, and then the purge. The detail 0 of the DONE answers is the model's choice: log entry 40. The account's and the slots' counts are premised
within their ranges (R96, R118). -/
def Obligations.PurgeJobOrder : Prop :=
  ∀ (s : State) (j g : Nat), OrderReady 6 [j, g] s → Canonical s →
    if s.sup.device ≠ .run ∧ s.sup.device ≠ .service then exec .purgeJob s = .next (refusedWith s .mode 0) else
    if 15 < j then exec .purgeJob s = .next (refusedWith s .range 1)
    else if BitVec.ofNat 16 g ≠ (jobOf s j).generation then exec .purgeJob s = .next (refusedWith s .stale 2)
    else if (jobOf s j).isFree = true then exec .purgeJob s = .next (refusedWith s .state 1)
    else
      let isClose := fun (d : Deferred) => decide (d.object = .closeJob j)
      ∃ u, jobPurged .purge j (fetchDone s) u ∧
        exec .purgeJob s = .next (answered { u with
          port := { u.port with control := u.port.control ++ (s.orders.deferred.filter isClose).map fun d => .answer d.index (.plain .done 0) }
          orders := { u.orders with deferred := s.orders.deferred.filter fun d => !isClose d } } .done)

/-! ## Orders on pages -/

/-- DEFINE PAGE (R57, R59, R60, R61): its checks in their order, those on planes each in the order K, C, M, Y with the plane's start as the detail.
That M and not Y is reported where K meets Y and C meets M is the model's choice: log entry 41. Then the lowest-numbered FREE record is STAGED with
the order's fields, high-waters, sums and gap flag at 0, its frames carry the page slot, and no other frame or page changes. -/
def Obligations.DefinePageOrder : Prop :=
  ∀ (s : State) (j g number sizeClass colour pixels k c m y : Nat),
    OrderReady 7 [j, g, number, sizeClass, colour, pixels, k, c, m, y] s →
    if s.sup.device ≠ .run ∧ s.sup.device ≠ .service then exec .definePage s = .next (refusedWith s .mode 0) else
    let len := (pixels + 3) / 4
    let planes : List (Nat × Nat) := if colour = 0 then [(7, k)] else [(7, k), (8, c), (9, m), (10, y)]
    let frames := fun (start : Nat) => extentFrames start len
    if 15 < j then exec .definePage s = .next (refusedWith s .range 1)
    else if 3 < sizeClass then exec .definePage s = .next (refusedWith s .range 4)
    else if 1 < colour then exec .definePage s = .next (refusedWith s .range 5)
    else if pixels = 0 ∨ 268435456 < pixels then exec .definePage s = .next (refusedWith s .range 6)
    else
      match planes.find? (fun q => decide (4294967296 < q.2 + len) || decide (frameLimit s * frameSize < q.2 + len)) with
      | some q => exec .definePage s = .next (refusedWith s .range q.1)
      | none =>
        if BitVec.ofNat 16 g ≠ (jobOf s j).generation then exec .definePage s = .next (refusedWith s .stale 2)
        else if (jobOf s j).isActive = false then exec .definePage s = .next (refusedWith s .state 1)
        else
          match planes.find? (fun q => (frames q.2).any fun f => (boundTo j (frameOf s f)).isNone) with
          | some q => exec .definePage s = .next (refusedWith s .overlap q.1)
          | none =>
            match planes.find? (fun q => (frames q.2).any fun f => ((boundTo j (frameOf s f)).bind (·.page)).isSome) with
            | some q => exec .definePage s = .next (refusedWith s .overlap q.1)
            | none =>
              match planes.find? (fun q => planes.any fun e => decide (e.1 < q.1) && extentsMeet e.2 q.2 len) with
              | some q => exec .definePage s = .next (refusedWith s .overlap q.1)
              | none =>
                ((∀ slot, slot < 32 → pageOf s slot ≠ none) → exec .definePage s = .next (refusedWith s .busy 0)) ∧
                ∀ slot, slot < 32 → pageOf s slot = none → (∀ i, i < slot → pageOf s i ≠ none) →
                  ∃ (page : Page) (marked : Frames),
                    page.state = .staged ∧ page.job = j ∧ page.generation = BitVec.ofNat 16 g ∧ page.number = number ∧
                    page.sizeClass.val = sizeClass ∧ page.colour.code = colour ∧ page.pixels = pixels ∧
                    page.starts = (if colour = 0 then ⟨k, 0, 0, 0⟩ else ⟨k, c, m, y⟩) ∧ page.highWater = Quad.all 0 ∧
                    page.gapPosted = false ∧ page.sums = Quad.all 0 ∧
                    marked.size = s.frames.size ∧
                    (∀ f, Table.get FrameEntry.free marked.entries f =
                      match (frameOf s f).binding with
                      | some b =>
                        if planes.any (fun q => decide (f ∈ frames q.2)) then ⟨.bound { b with page := some slot }, (frameOf s f).noted⟩
                        else frameOf s f
                      | none => frameOf s f) ∧
                    exec .definePage s = .next (answered
                      { setPage slot (some page) (fetchDone s) with frames := marked } (.doneWith (leBytes 1 slot)))

/-- TICKET PAGE (R62, R63, R98, R99, R107): the common page checks, the page's state, its account, allowance, slots and a free journal entry; then the page
is TICKETED with both tariffs captured, the account's held clicks rise by the tariff of the declared colour, an entry is reserved, METER_FULL is posted
if it was the last, and the answer carries the charge. -/
def Obligations.TicketPageOrder : Prop :=
  ∀ (s : State) (j g slot : Nat), OrderReady 8 [j, g, slot] s →
    if s.sup.device ≠ .run ∧ s.sup.device ≠ .service then exec .ticketPage s = .next (refusedWith s .mode 0) else
    let free := 64 - s.store.journal.length - s.meter.reservations
    if 15 < j then exec .ticketPage s = .next (refusedWith s .range 1)
    else if 31 < slot then exec .ticketPage s = .next (refusedWith s .range 3)
    else if BitVec.ofNat 16 g ≠ (jobOf s j).generation then exec .ticketPage s = .next (refusedWith s .stale 2)
    else if (jobOf s j).isActive = false then exec .ticketPage s = .next (refusedWith s .state 1)
    else
      (liveFor s slot j (jobOf s j).generation = none → exec .ticketPage s = .next (refusedWith s .state 3)) ∧
      ∀ p, liveFor s slot j (jobOf s j).generation = some p →
        let account := accountOf s (accountNumber s p)
        let tariff := s.meter.tariff.get p.sizeClass
        let charge := tariff.of p.colour
        if p.isTicketed = true then exec .ticketPage s = .next (refusedWith s .state 3)
        else if p.inPrint = true then exec .ticketPage s = .next (refusedWith s .late 3)
        else if account.settings.state ≠ .active then exec .ticketPage s = .next (refusedWith s .account 0)
        else if account.settings.limit ≠ 16777215 ∧
            account.settings.limit < account.counts.settled + account.inflight + account.held + charge then
          exec .ticketPage s = .next (refusedWith s .allowance 0)
        else if slotsUsable s p.colour = false then exec .ticketPage s = .next (refusedWith s .supply 0)
        else if free = 0 then exec .ticketPage s = .next (refusedWith s .meter 0)
        else
          let ticketed := setAccount (accountNumber s p) { account with held := account.held + charge }
            (setPage slot (some { p with state := .ticketed ⟨tariff.mono, tariff.colour, charge⟩ }) (fetchDone s))
          let reserved := { ticketed with meter := { ticketed.meter with reservations := s.meter.reservations + 1 } }
          exec .ticketPage s = .next (answered
            (if free = 1 then
              postEvent (.meterFull s.store.journal.length (s.meter.reservations + 1) s.meter.failed) reserved
            else reserved) (.doneWith (leBytes 1 charge)))

/-- UNTICKET PAGE and DROP PAGE (R62, R64, R65, R99): the common page checks; UNTICKET makes a TICKETED page STAGED again, DROP makes a STAGED or TICKETED page
FREE and clears its slot from every frame that carries it, where R65 names the frames of its extents (log entry 28); both release a ticket's hold and
reservation. A page in print is refused with LATE by UNTICKET and with BUSY by DROP. -/
def Obligations.UnticketAndDropPageOrders : Prop :=
  ∀ (s : State) (c : Instr) (j g slot : Nat),
    ((c = .unticketPage ∧ OrderReady 9 [j, g, slot] s) ∨ (c = .dropPage ∧ OrderReady 10 [j, g, slot] s)) →
    if s.sup.device ≠ .run ∧ s.sup.device ≠ .service then exec c s = .next (refusedWith s .mode 0) else
    if 15 < j then exec c s = .next (refusedWith s .range 1)
    else if 31 < slot then exec c s = .next (refusedWith s .range 3)
    else if BitVec.ofNat 16 g ≠ (jobOf s j).generation then exec c s = .next (refusedWith s .stale 2)
    else if (jobOf s j).isFree = true then exec c s = .next (refusedWith s .state 1)
    else
      (liveFor s slot j (jobOf s j).generation = none → exec c s = .next (refusedWith s .state 3)) ∧
      ∀ p, liveFor s slot j (jobOf s j).generation = some p →
        let account := accountOf s (accountNumber s p)
        let released := fun (r : Option Page) (charge : Nat) =>
          let t := setAccount (accountNumber s p) { account with held := account.held - charge } (setPage slot r (fetchDone s))
          { t with meter := { t.meter with reservations := s.meter.reservations - 1 } }
        let unmarks := fun (u : State) => ∃ frames : Frames, frames.size = s.frames.size ∧
          (Table.wf FrameEntry.free s.frames.entries = true → ∀ f, Table.get FrameEntry.free frames.entries f =
            match (frameOf s f).binding with
            | some b => if b.page = some slot then ⟨.bound { b with page := none }, (frameOf s f).noted⟩ else frameOf s f
            | none => frameOf s f) ∧
          exec c s = .next (answered { u with frames := frames } .done)
        (p.inPrint = true → exec c s = .next (refusedWith s (if c = .unticketPage then .late else .busy) 3)) ∧
        (p.state = .staged → c = .unticketPage → exec c s = .next (refusedWith s .state 3)) ∧
        (p.state = .staged → c = .dropPage → unmarks (setPage slot none (fetchDone s))) ∧
        (∀ cap, p.state = .ticketed cap → c = .unticketPage →
          exec c s = .next (answered (released (some { p with state := .staged }) cap.provisional) .done)) ∧
        (∀ cap, p.state = .ticketed cap → c = .dropPage → unmarks (released none cap.provisional))

/-! ## Orders on coverage, accounts and tariffs -/

/-- SET WEIGHTS and SET COLOUR THRESHOLD (R82, R93, R94): out of range is refused with the parameter's number; otherwise the plane's weight, a 0 taken as 1, and
overhead, or the threshold, are in force at once, the coverage block is dirty, and the answer carries the values set. -/
def Obligations.CoverageOrders : Prop :=
  ∀ s : State,
    (∀ plane weight overhead, OrderReady 11 [plane, weight, overhead] s →
      if s.sup.device = .lockdown then exec .setWeights s = .next (refusedWith s .mode 0) else
      if h : plane < 4 then
        if 65535 < weight then exec .setWeights s = .next (refusedWith s .range 2)
        else if 255 < overhead then exec .setWeights s = .next (refusedWith s .range 3)
        else
          let settings := { s.coverage.settings with
            weights := s.coverage.settings.weights.set ⟨plane, h⟩ (max weight 1)
            overheads := s.coverage.settings.overheads.set ⟨plane, h⟩ overhead }
          exec .setWeights s = .next (answered
            (markDirty .coverage { fetchDone s with coverage := { s.coverage with settings := settings } })
            (.doneWith (leBytes 2 (max weight 1) ++ leBytes 1 overhead)))
      else exec .setWeights s = .next (refusedWith s .range 1)) ∧
    (∀ threshold, OrderReady 12 [threshold] s →
      if s.sup.device = .lockdown then exec .setColourThreshold s = .next (refusedWith s .mode 0) else
      if 65535 < threshold then exec .setColourThreshold s = .next (refusedWith s .range 1)
      else
        exec .setColourThreshold s = .next (answered
          (markDirty .coverage { fetchDone s with
            coverage := { s.coverage with settings := { s.coverage.settings with threshold := threshold } } })
          (.doneWith (leBytes 2 threshold)))) ∧
    ∀ b u, (b ∈ u.meter.dirty → markDirty b u = u) ∧
      (b ∉ u.meter.dirty → markDirty b u = { u with meter := { u.meter with dirty := u.meter.dirty ++ [b] } })

/-- SET ACCOUNT and SET TARIFF (R100, R102): out of range is refused with the parameter's number, a colour tariff below the mono tariff with that of the
colour tariff; otherwise state and limit, or the class's two tariffs, are in force at once, their block is dirty, nothing else of the account
changes, and the answer carries the account's settled, inflight and held clicks, or the tariffs. -/
def Obligations.SetAccountAndTariffOrders : Prop :=
  ∀ s : State,
    (∀ a state limit, OrderReady 13 [a, state, limit] s →
      if s.sup.device = .lockdown then exec .setAccount s = .next (refusedWith s .mode 0) else
      if 255 < a then exec .setAccount s = .next (refusedWith s .range 1)
      else if 2 < state then exec .setAccount s = .next (refusedWith s .range 2)
      else if 16777215 < limit then exec .setAccount s = .next (refusedWith s .range 3)
      else
        let r := accountOf s a
        ∀ st : AccountState, st.code = state →
          exec .setAccount s = .next (answered
            (markDirty (.accountSettings a) (setAccount a { r with settings := ⟨st, limit⟩ } (fetchDone s)))
            (.doneWith (leBytes 4 r.counts.settled ++ leBytes 2 r.inflight ++ leBytes 2 r.held)))) ∧
    (∀ cls mono colour, OrderReady 14 [cls, mono, colour] s →
      if s.sup.device = .lockdown then exec .setTariff s = .next (refusedWith s .mode 0) else
      if h : cls < 4 then
        if mono = 0 ∨ 255 < mono then exec .setTariff s = .next (refusedWith s .range 2)
        else if colour = 0 ∨ 255 < colour then exec .setTariff s = .next (refusedWith s .range 3)
        else if colour < mono then exec .setTariff s = .next (refusedWith s .range 3)
        else
          exec .setTariff s = .next (answered
            (markDirty .tariff { fetchDone s with meter := { s.meter with tariff := s.meter.tariff.set ⟨cls, h⟩ ⟨mono, colour⟩ } })
            (.doneWith (leBytes 1 mono ++ leBytes 1 colour)))
      else exec .setTariff s = .next (refusedWith s .range 1))

/-- CREDIT ACCOUNT and ROLL PERIOD (R103, R104, R106, R107): refused with METER when no journal entry is free; a credit lowers settled by the amount, never
below 0, and appends a CREDIT entry of what it credited; a roll moves every account's settled to last-period and appends a ROLL entry; inflight,
held and the lifetime counts stay, and METER_FULL is posted when the last free entry goes. -/
def Obligations.CreditAndRollOrders : Prop :=
  ∀ s : State,
    let free := 64 - s.store.journal.length - s.meter.reservations
    let sequence := s.store.lastSeq + 1
    let full := fun (u : State) =>
      if free = 1 then postEvent (.meterFull (s.store.journal.length + 1) s.meter.reservations s.meter.failed) u else u
    let appends := fun (body : EntryBody) => { s.store with journal := s.store.journal ++ [⟨sequence, body⟩], lastSeq := sequence }
    (∀ a amount, OrderReady 16 [a, amount] s →
      if s.sup.device ≠ .run ∧ s.sup.device ≠ .service then exec .creditAccount s = .next (refusedWith s .mode 0) else
      if 255 < a then exec .creditAccount s = .next (refusedWith s .range 1)
      else if amount = 0 ∨ 16777215 < amount then exec .creditAccount s = .next (refusedWith s .range 2)
      else if free = 0 then exec .creditAccount s = .next (refusedWith s .meter 0)
      else
        let r := accountOf s a
        let credited := min amount r.counts.settled
        exec .creditAccount s = .next (answered
          (full { setAccount a { r with counts := { r.counts with settled := r.counts.settled - credited } } (fetchDone s) with
            store := appends (.credit a credited) })
          (.doneWith (leBytes 3 credited ++ leBytes 4 (r.counts.settled - credited))))) ∧
    (OrderReady 15 [] s → Table.wf Account.blank s.meter.accounts = true →
      if s.sup.device ≠ .run ∧ s.sup.device ≠ .service then exec .rollPeriod s = .next (refusedWith s .mode 0) else
      (free = 0 → exec .rollPeriod s = .next (refusedWith s .meter 0)) ∧
      (free ≠ 0 → ∃ accounts : Table Account,
        (∀ a, Table.get Account.blank accounts a =
          let r := accountOf s a
          { r with counts := { r.counts with lastPeriod := r.counts.settled, settled := 0 } }) ∧
        exec .rollPeriod s = .next (answered
          (full { fetchDone s with meter := { s.meter with accounts := accounts }, store := appends .roll })
          (.doneWith (leBytes 4 sequence)))))

/-- READ ACCOUNT and READ SLOT (R105, R118, R135, R141, R180): they change nothing, and answer with the account, the totals or the journal, or with the slot's
record and the snapshot of the lines, with a mark for each item that is present, as they stand. The order of the totals within part 1 and the widths
are the model's reading: log entry 27; the detail 0 of DONE is its choice: log entry 40. -/
def Obligations.ReadOrders : Prop :=
  ∀ s : State,
    (∀ a part, OrderReady 17 [a, part] s →
      if s.sup.device = .lockdown then exec .readAccount s = .next (refusedWith s .mode 0) else
      let r := accountOf s a
      let free := 64 - s.store.journal.length - s.meter.reservations
      let two := fun (b : ByColour) => leBytes 4 b.mono ++ leBytes 4 b.colour
      if 255 < a then exec .readAccount s = .next (refusedWith s .range 1)
      else if 2 < part then exec .readAccount s = .next (refusedWith s .range 2)
      else
        exec .readAccount s = .next (answered (fetchDone s) (.doneWith
          (if part = 0 then
            leBytes 1 r.settings.state.code ++ leBytes 3 r.settings.limit ++ leBytes 4 r.counts.settled ++ leBytes 4 r.counts.lastPeriod ++
              leBytes 4 r.counts.lifetimeClicks ++ leBytes 4 r.counts.monoPages ++ leBytes 4 r.counts.colourPages ++
              leBytes 2 r.inflight ++ leBytes 2 r.held ++ leBytes 4 (storedCounts s a).lastFolded
          else if part = 1 then
            two (s.meter.totals.pages.get 0) ++ two (s.meter.totals.pages.get 1) ++ two (s.meter.totals.pages.get 2) ++
              two (s.meter.totals.pages.get 3) ++ leBytes 4 s.meter.totals.clicks ++ leBytes 4 s.store.totals.lastFolded
          else
            leBytes 1 s.store.journal.length ++ leBytes 1 s.meter.reservations ++ leBytes 1 free ++ [flagByte s.meter.failed] ++
              leBytes 4 ((s.store.journal.head?.map (·.sequence)).getD 0) ++ leBytes 4 (s.store.lastSeq + 1))))) ∧
    (∀ n, OrderReady 19 [n] s →
      if s.sup.device = .lockdown then exec .readSlot s = .next (refusedWith s .mode 0) else
      if h : n < 4 then
        let r := slotOf s ⟨n, h⟩
        let c := r.cartridge.getD ⟨0, 0, 0, 0, 0⟩
        let reason := match r.state with
          | .rejected x => some x
          | _ => none
        let exchange : Nat × Nat := match r.exchange with
          | .none => (0, 0)
          | .ident attempt _ => (1, attempt)
          | .debit attempt _ _ _ => (2, attempt)
        ∃ lines marks : Byte, exec .readSlot s = .next (answered (fetchDone s) ⟨.done, 0, some
          ⟨leBytes 1 r.state.code ++ leBytes 1 ((reason.map (·.code)).getD 0) ++ leBytes 6 c.serial.toNat ++ leBytes 2 c.model.toNat ++
              leBytes 3 c.capacity ++ leBytes 3 c.dispensed ++ [c.flags] ++ leBytes 2 r.pending ++
              leBytes 3 (if r.cartridge = none then 0 else c.capacity - c.dispensed - r.pending) ++
              leBytes 3 (c.capacity * s.supply.settings.lowMark / 1000) ++
              [flagByte r.clamped, flagByte r.lowWarned, flagByte r.retryWaiting, r.lastDecline.getD 0] ++
              leBytes 1 exchange.1 ++ leBytes 1 exchange.2 ++ [lines], marks⟩⟩) ∧
          lines.toNat = s.supply.presence.q0.toNat + 2 * s.supply.presence.q1.toNat + 4 * s.supply.presence.q2.toNat +
            8 * s.supply.presence.q3.toNat + 16 * s.supply.doorClosed.toNat + 32 * s.sup.pfw.toNat ∧
          marks.toNat = reason.isSome.toNat + 2 * r.cartridge.isSome.toNat + 4 * r.lastDecline.isSome.toNat +
            8 * (decide (r.exchange ≠ .none)).toNat
      else exec .readSlot s = .next (refusedWith s .range 1))

/-! ## Supply -/

/-- PROBE SLOT and SET SUPPLY (R135, R140, R142): PROBE SLOT is refused for a slot that does not exist, for an ABSENT slot or an open door, and when 8
orders are deferred; otherwise it is deferred, answered PENDING, and begins an IDENT exchange where none is in flight. SET SUPPLY is refused out of
range; otherwise quantum and low mark are in force at once, the debit start condition is tested on slots 0 to 3 in turn, which may start DEBIT
exchanges, and their block is dirty. An ASK or DEBIT carries a fresh nonce (a free value, log entry 4) and stands behind what the link still sends:
log entry 20. The detail 0 of DONE and PENDING is the model's choice: log entry 40. -/
def Obligations.ProbeSlotAndSetSupplyOrders : Prop :=
  ∀ s : State,
    (∀ n, OrderReady 18 [n] s →
      if s.sup.device = .lockdown then exec .probeSlot s = .next (refusedWith s .mode 0) else
      if h : n < 4 then
        let slot : Plane := ⟨n, h⟩
        if (slotOf s slot).state = .absent ∨ s.supply.doorClosed = false then exec .probeSlot s = .next (refusedWith s .state 1)
        else if 8 ≤ s.orders.deferred.length then exec .probeSlot s = .next (refusedWith s .busy 0)
        else
          let deferred := { fetchDone s with
            orders := { (fetchDone s).orders with deferred := s.orders.deferred ++ [⟨s.orders.take, .probeSlot slot⟩] } }
          exec .probeSlot s = .next (answered
            (if (slotOf s slot).exchange = .none then identBegun slot deferred else deferred) (.plain .pending 0))
      else exec .probeSlot s = .next (refusedWith s .range 1)) ∧
    (∀ quantum lowMark, OrderReady 20 [quantum, lowMark] s →
      if s.sup.device = .lockdown then exec .setSupply s = .next (refusedWith s .mode 0) else
      if quantum = 0 ∨ 4096 < quantum then exec .setSupply s = .next (refusedWith s .range 1)
      else if 1000 < lowMark then exec .setSupply s = .next (refusedWith s .range 2)
      else
        let set := { fetchDone s with supply := { s.supply with settings := ⟨quantum, lowMark⟩ } }
        exec .setSupply s = .next (answered
          (markDirty .supplySettings (debitTested 3 (debitTested 2 (debitTested 1 (debitTested 0 set)))))
          (.doneWith (leBytes 2 quantum ++ leBytes 2 lowMark))))

/-- The probe delay and the re-probe timer (R123, R127, R128): an expiry stops the timer, and begins an IDENT exchange on a slot that is still UNKNOWN, or
SUSPECT, present behind a closed door; the time base stands at the expiry or later (log entry 10). A stopped timer does nothing (log entry 1). The ASK
carries a fresh nonce (a free value, log entry 4) and stands behind what the link still sends: log entry 20. -/
def Obligations.SlotTimersExpire : Prop :=
  ∀ (s : State) (n : Plane), s.power = .on →
    let r := slotOf s n
    let probes := fun (u : State) (state : SlotState) =>
      if r.state = state ∧ s.supply.presence.get n = true ∧ s.supply.doorClosed = true then identBegun n u else u
    (∀ since, r.probeDelay = some since →
      exec (.probeDelayExpiry n) s =
        .next (closeTake (probes (setSlot n { r with probeDelay := none } (reachTime since 500 s)) .unknown))) ∧
    (∀ since, r.reprobe = some since →
      exec (.reprobeTimerExpiry n) s =
        .next (closeTake (probes (setSlot n { r with reprobe := none } (reachTime since 2000 s)) .suspect))) ∧
    (r.probeDelay = none → exec (.probeDelayExpiry n) s = .next s) ∧
    (r.reprobe = none → exec (.reprobeTimerExpiry n) s = .next s) ∧
    ∀ since ms, reachTime since ms s =
      if ms ≤ span s.time since then s else { s with time := since + BitVec.ofNat 32 ms }

/-- A frame's last byte, the answer window and a failed attempt (R124 to R128, R138, R140, R182): the last byte of a live attempt starts the window; the
window's end, with the time base at it or later (log entry 10), fails the attempt. A failed attempt is followed by the next with a fresh nonce (a free
value, log entry 4), behind what the link still sends (log entry 20), or after the third by SUSPECT with the re-probe timer, and the answers of the
PROBE SLOT orders that wait, for an IDENT; for a DEBIT by waiting for the next debit, or by the IDENT of a PROBE SLOT that waits. An empty link and a
stopped window do nothing: log entry 1. The detail 0 of their DONE is the model's choice: log entry 40. -/
def Obligations.AttemptsOnTheLink : Prop :=
  (∀ nonce : BitVec 64, askFrame nonce = encodeFrame 0x01 (beBytes 8 nonce.toNat)) ∧
  (∀ target (nonce : BitVec 64), debitFrame target nonce = encodeFrame 0x03 (beBytes 3 target ++ beBytes 8 nonce.toNat)) ∧
  ∀ (s : State) (n : Plane),
    let r := slotOf s n
    let nonce := Config.nonceSource s.nonceDraws
    (s.power = .on →
      (∀ f rest, r.sending = f :: rest →
        exec (.supplyFrameSent n) s =
          .next (closeTake (setSlot n { r with sending := rest, window := if f.live then some s.time else r.window } s))) ∧
      (r.sending = [] → exec (.supplyFrameSent n) s = .next s) ∧
      (r.window = none → exec (.answerWindowExpiry n) s = .next s) ∧
      ∀ since, r.window = some since →
        exec (.answerWindowExpiry n) s =
          .next (closeTake (failAttempt n (setSlot n { r with window := none } (reachTime since 20 s))))) ∧
    (r.exchange = .none → failAttempt n s = s) ∧
    (∀ a old, r.exchange = .ident a old →
      (a < 3 → failAttempt n s =
        setSlot n { r with exchange := .ident (a + 1) nonce, sending := r.sending ++ [⟨askFrame nonce, true⟩] }
          { s with nonceDraws := s.nonceDraws + 1 }) ∧
      (3 ≤ a →
        let t := slotChanged n .suspect (setSlot n { r with window := none, exchange := .none } s)
        failAttempt n s = probesEnded n (setSlot n { slotOf t n with reprobe := some s.time } t))) ∧
    (∀ a old target capped, r.exchange = .debit a old target capped →
      (a < 3 → failAttempt n s =
        setSlot n { r with exchange := .debit (a + 1) nonce target capped, sending := r.sending ++ [⟨debitFrame target nonce, true⟩] }
          { s with nonceDraws := s.nonceDraws + 1 }) ∧
      (3 ≤ a →
        let t := setSlot n { r with window := none, exchange := .none, retryWaiting := true } s
        failAttempt n s = if ∃ d ∈ s.orders.deferred, d.object = .probeSlot n then identBegun n t else t))

/-- The verification of R129, as the first check that fails: model, plane, tag over the nonce of the attempt, capacity ceiling, and the dispensed count
against the floor of record, the greater of the serial's floor in the seen list and the slot's dispensed for the same serial. -/
def verificationFinding (s : State) (n : Plane) (nonce : BitVec 64) (serial : BitVec 48) (model : BitVec 16) (capacity dispensed : Nat)
    (tag : BitVec 64) : Option RejectReason :=
  let listed := ((s.supply.seen.find? fun e => decide (e.serial = serial)).map (·.floor)).getD 0
  let own := match (slotOf s n).cartridge with
    | some c => if c.serial = serial then c.dispensed else 0
    | none => 0
  match s.supply.models.find? fun e => decide (e.model = model) with
  | none => some .model
  | some m =>
    if m.plane ≠ n then some .plane
    else if Config.tagFunction m.key ⟨0x02, nonce, serial, model, capacity, dispensed⟩ ≠ tag then some .tag
    else if m.ceiling < capacity then some .capacity
    else if dispensed < max listed own then some .rollback
    else none

/-- A supply frame received (R87, R92, R124, R127, R129, R131 to R133, R137, R139, R140). Outside a running window, or while no frame is complete, nothing
happens (log entry 1), and nothing for characters that complete after 20 ms (log entry 32). A faulty frame, a frame of a kind that the exchange does not
await, and a DECLINE, whose reason is kept in either exchange (log entry 18), end the window and fail the attempt. An IDENT answer to an IDENT exchange
is rejected by the first check that fails. Otherwise, in R131's order: another old serial's owed is written; pending by the formula; for another serial
the residue, CLAMPED and low-warned are cleared; the fields are taken; the serial stands at the front of the seen list, its block dirty (log entry 16);
the slot is EXHAUSTED or VERIFIED with SLOT_CHANGE; SUPPLY_LOW is tested; a DEBIT may start with a fresh nonce (log entries 4 and 20). Both ways the
PROBE SLOT orders that wait are then answered, DONE with detail 0 (log entry 40). -/
def Obligations.SupplyFrameReceived : Prop :=
  ∀ (s : State) (n : Plane) (chars : List LinkChar), s.power = .on →
    let r := slotOf s n
    let fails := exec (.supplyFrameReceived n chars) s = .next (closeTake (failAttempt n (setSlot n { r with window := none } s)))
    (r.window = none → exec (.supplyFrameReceived n chars) s = .next s) ∧
    (decodeFrame chars = .incomplete → exec (.supplyFrameReceived n chars) s = .next s) ∧
    ∀ since, r.window = some since →
      (20 < span s.time since → exec (.supplyFrameReceived n chars) s = .next s) ∧
      (span s.time since ≤ 20 →
        (decodeFrame chars = .faulty → fails) ∧
        (∀ kind, decodeFrame chars = .foreign kind → fails) ∧
        (∀ serial dispensed tag, decodeFrame chars = .tally serial dispensed tag →
          (∀ a nonce target capped, r.exchange ≠ .debit a nonce target capped) → fails) ∧
        (∀ serial model capacity dispensed flags tag, decodeFrame chars = .ident serial model capacity dispensed flags tag →
          (∀ a nonce, r.exchange ≠ .ident a nonce) → fails) ∧
        (∀ reason, decodeFrame chars = .decline reason →
          exec (.supplyFrameReceived n chars) s =
            .next (closeTake (failAttempt n (setSlot n { r with window := none, lastDecline := some reason } s)))) ∧
        (∀ a nonce serial model capacity dispensed flags tag, r.exchange = .ident a nonce →
          decodeFrame chars = .ident serial model capacity dispensed flags tag →
          (∀ reason, verificationFinding s n nonce serial model capacity dispensed tag = some reason → r.state ≠ .rejected reason →
            exec (.supplyFrameReceived n chars) s = .next (closeTake (probesEnded n
              (postEvent (.slotChange n r.state (.rejected reason) (some (serial, model)) (gaugeOf r) r.clamped)
                (setSlot n { r with window := none, exchange := .none, state := .rejected reason } s))))) ∧
          (verificationFinding s n nonce serial model capacity dispensed tag = none →
            let same := decide (r.cartridge.map (·.serial) = some serial)
            let listed := (s.supply.seen.find? fun e => decide (e.serial = serial)).map fun e => e.floor + e.owed - dispensed
            let pending := match r.cartridge with
              | some c => if c.serial = serial then c.dispensed + r.pending - dispensed else listed.getD 0
              | none => listed.getD 0
            let old := owedWritten n s
            let cleared := if same then s else { old with coverage := { s.coverage with residues := s.coverage.residues.set n 0 } }
            let filled := setSlot n { r with
              window := none, exchange := .none, cartridge := some ⟨serial, model, capacity, dispensed, flags⟩, pending := pending
              retryWaiting := false, clamped := same && r.clamped, lowWarned := same && r.lowWarned } cleared
            let state : SlotState := if capacity - dispensed - pending = 0 ∨ flags.getLsbD 0 = true then .exhausted else .verified
            exec (.supplyFrameReceived n chars) s = .next (closeTake (probesEnded n (debitTested n (lowTested n
              (slotChanged n state (serialSeen n serial dispensed filled)))))))))

/-- A TALLY to a DEBIT exchange on a slot with its cartridge (R132, R133, R137, R139, R140): a serial or tag that is not right rejects for TAG, a
count that is not the target for COUNT, and the PROBE SLOT orders that wait are answered, DONE with detail 0 (log entry 40). Otherwise the target is
dispensed; pending falls by what was dispensed, or to 0 where the capacity capped the target; the serial stands at the front of the seen list with the
target as its floor, its block dirty at every confirmation (log entry 16); a gauge of 0 makes the slot EXHAUSTED; SUPPLY_LOW is tested; the exchange
ends; and the IDENT of a PROBE SLOT that waits begins, or else the debit start condition is tested. The next frame has a fresh nonce and stands behind
what the link sends: log entries 4 and 20. -/
def Obligations.TallyConfirmsDebit : Prop :=
  ∀ (s : State) (n : Plane) (chars : List LinkChar) (since : Time) (a : Nat) (nonce : BitVec 64) (target : Nat) (capped : Bool)
    (c : Cartridge) (serial : BitVec 48) (dispensed : Nat) (tag : BitVec 64),
    s.power = .on → (slotOf s n).window = some since → span s.time since ≤ 20 →
    (slotOf s n).exchange = .debit a nonce target capped → (slotOf s n).cartridge = some c → (slotOf s n).state = .verified →
    decodeFrame chars = .tally serial dispensed tag →
    let r := slotOf s n
    let right := serial = c.serial ∧ ∃ m, modelEntry s c.model = some m ∧
      Config.tagFunction m.key ⟨0x04, nonce, serial, c.model, c.capacity, dispensed⟩ = tag
    let rejects := fun (reason : RejectReason) =>
      exec (.supplyFrameReceived n chars) s = .next (closeTake (probesEnded n
        (postEvent (.slotChange n .verified (.rejected reason) (some (c.serial, c.model)) (gaugeOf r) r.clamped)
          (setSlot n { r with window := none, exchange := .none, state := .rejected reason } s))))
    (¬ right → rejects .tag) ∧
    (right → dispensed ≠ target → rejects .count) ∧
    (right → dispensed = target →
      let pending := if capped then 0 else r.pending - (target - c.dispensed)
      let seen := serialSeen n c.serial target
        (setSlot n { r with window := none, cartridge := some { c with dispensed := target }, pending := pending } s)
      let low := lowTested n (if c.capacity - target - pending = 0 then slotChanged n .exhausted seen else seen)
      let ended := setSlot n { slotOf low n with exchange := .none } low
      exec (.supplyFrameReceived n chars) s = .next (closeTake
        (if ∃ d ∈ s.orders.deferred, d.object = .probeSlot n then identBegun n ended else debitTested n ended)))

/-- The board lines (R120 to R123, R126, R133, R140, R176). The supply-fall line takes effect at once, and its assertion writes the pending of every slot whose
serial stands in the seen list as its owed, slot by slot, the block dirty changed or not (log entry 16). A raw level that differs from the settled one
starts the settle timer and one that agrees stops it, but the door's opening is settled at once; an expiry settles the line, with the time base at it or
later (log entry 10). A door opening abandons every exchange, the frame being sent going to its end (log entry 20), answers the PROBE SLOT orders of the
slots that are not ABSENT with state UNKNOWN (log entry 17; their detail 0: log entry 40), and then, slot by slot, makes those UNKNOWN with SLOT_CHANGE and
stops their timers. A settled fall does the same to its slot with state ABSENT, its pending owed to its serial. A settled rise makes the slot UNKNOWN with
SLOT_CHANGE and a probe delay behind a closed door; a settled closing does so to every present slot. Each posts LINES last. A level that is no change
does nothing (log entry 30), nor does a stopped settle timer (log entry 1). -/
def Obligations.BoardLines : Prop :=
  ∀ s : State, s.power = .on →
    (∀ level, level ≠ s.lines.pfw →
      let t := { s with lines := { s.lines with pfw := level }, sup := { s.sup with pfw := level } }
      exec (.pfwChange level) s = .next (closeTake
        (if level then owedWritten 3 (owedWritten 2 (owedWritten 1 (owedWritten 0 t))) else t))) ∧
    exec (.pfwChange s.lines.pfw) s = .next s ∧
    (∀ n level, level ≠ s.lines.presence.get n →
      exec (.lineRawChange (.presence n) level) s = .next (closeTake { s with
        lines := { s.lines with presence := s.lines.presence.set n level }
        supply := { s.supply with
          presenceTimers := s.supply.presenceTimers.set n (if level = s.supply.presence.get n then none else some s.time) } })) ∧
    (∀ n, exec (.lineRawChange (.presence n) (s.lines.presence.get n)) s = .next s) ∧
    exec (.lineRawChange .door s.lines.doorClosed) s = .next s ∧
    (s.lines.doorClosed = false →
      exec (.lineRawChange .door true) s = .next (closeTake { s with
        lines := { s.lines with doorClosed := true }
        supply := { s.supply with doorTimer := if s.supply.doorClosed then none else some s.time } })) ∧
    (s.lines.doorClosed = true → s.supply.doorClosed = false →
      exec (.lineRawChange .door false) s = .next (closeTake { s with
        lines := { s.lines with doorClosed := false }
        supply := { s.supply with doorTimer := none } })) ∧
    (s.lines.doorClosed = true → s.supply.doorClosed = true →
      let opened := { s with
        lines := { s.lines with doorClosed := false }
        supply := { s.supply with doorClosed := false, doorTimer := none } }
      let gone := exchangeAbandoned 3 (exchangeAbandoned 2 (exchangeAbandoned 1 (exchangeAbandoned 0 opened)))
      let waits := fun (d : Deferred) => match d.object with
        | .probeSlot n => if (slotOf s n).state = .absent then none else some n
        | _ => none
      let told := { gone with
        port := { s.port with
          control := s.port.control ++
            s.orders.deferred.filterMap (fun d => (waits d).map fun n => .answer d.index (probeResult .unknown (slotOf s n))) }
        orders := { s.orders with deferred := s.orders.deferred.filter fun d => decide (waits d = none) } }
      let opens := fun (n : Plane) (u : State) => if (slotOf u n).state = .absent then u else slotStopped n .unknown u
      exec (.lineRawChange .door false) s = .next (closeTake (linesPosted (opens 3 (opens 2 (opens 1 (opens 0 told))))))) ∧
    (∀ n since, s.supply.presenceTimers.get n = some since →
      let t := reachTime since 500 s
      let settled := { t with supply := { s.supply with
        presence := s.supply.presence.set n (s.lines.presence.get n), presenceTimers := s.supply.presenceTimers.set n none } }
      (s.lines.presence.get n = true →
        exec (.lineSettleExpiry (.presence n)) s = .next (closeTake (linesPosted
          (if s.supply.doorClosed then slotWaits n settled else slotChanged n .unknown settled)))) ∧
      (s.lines.presence.get n = false →
        exec (.lineSettleExpiry (.presence n)) s = .next (closeTake (linesPosted
          (slotStopped n .absent (owedWritten n (probesAnswered n .absent (exchangeAbandoned n settled)))))))) ∧
    (∀ since, s.supply.doorTimer = some since → s.lines.doorClosed = true →
      let t := reachTime since 500 s
      let shut := { t with supply := { s.supply with doorClosed := true, doorTimer := none } }
      let closes := fun (n : Plane) (u : State) => if s.supply.presence.get n = true then slotWaits n u else u
      exec (.lineSettleExpiry .door) s = .next (closeTake (linesPosted (closes 3 (closes 2 (closes 1 (closes 0 shut))))))) ∧
    (∀ n, s.supply.presenceTimers.get n = none → exec (.lineSettleExpiry (.presence n)) s = .next s) ∧
    (s.supply.doorTimer = none → exec (.lineSettleExpiry .door) s = .next s)

/-- A settled debit reaches its slot (R91, R92, R133, R136, R138), whatever the slot's state: pending takes the sum up to 65,535, a cut sets CLAMPED and is
posted once, and waiting for a retry ends. While the supply-fall warning is asserted, a pending that changes writes its serial's owed again. Then the
debit start condition is tested: a DEBIT that starts carries a fresh nonce (a free value, log entry 4) and stands behind what the link still sends
(log entry 20). -/
def Obligations.SettledDebitReachesSlot : Prop :=
  ∀ (s : State) (n : Plane) (debit : Nat),
    let r := slotOf s n
    let cut := 65535 < r.pending + debit
    let added := { r with pending := min (r.pending + debit) 65535, clamped := r.clamped || decide cut, retryWaiting := false }
    let t := setSlot n added s
    let posted := if cut ∧ r.clamped = false then
        postEvent (.slotChange n r.state r.state (r.cartridge.map fun c => (c.serial, c.model)) (gaugeOf added) true) t
      else t
    addDebit n debit s = debitTested n (if s.sup.pfw = true ∧ added.pending ≠ r.pending then owedWritten n posted else posted)

/-! ## Events, the header and ATTN -/

/-- An event is posted (R161, R163, R164, R181): with 256 unconsumed or waiting it is lost; in the last free record it is replaced by OVERRUN with its
kind and whether it was an alarm; otherwise it is written as it is. The SLOT_CHANGE of a CLAMPED flag, with the state unchanged, is no alarm even on a
REJECTED slot: log entry 34. It takes the next sequence in each case, and the time of its posting. Its write
and a header write, when performed, stand in memory as R179 and R181 lay them out: of a record the kind, the turn and alarm flags, the sequence, the
time and the kind's payload, 0 after it; every other byte reads as before. The written produce index rises past the event, an alarm's index is kept, in
FIRST an armed latch is set, and ATTN is judged again (R165, R166). The codes of the named values stand in R178's order. -/
def Obligations.EventAndHeaderWrites : Prop :=
  ∀ s : State,
    (∀ e : Event,
      let shown := if occupancy s = 255 then Event.overrun (eventRow e).1 (eventRow e).2.1 else e
      postEvent e s =
        if 256 ≤ occupancy s then { s with events := { s.events with nextSeq := s.events.nextSeq + 1 } }
        else { s with
          events := { s.events with nextSeq := s.events.nextSeq + 1, produce := s.events.produce + 1 }
          port := { s.port with
            control := s.port.control ++ [.event ⟨s.events.produce, s.events.nextSeq, s.time, shown⟩] } }) ∧
    (∀ r : EventRecord, s.power = .on → s.port.grant = some (.control (.event r)) →
      let row := eventRow r.event
      let record := leBytes 1 row.1 ++ leBytes 1 (r.index.toNat / 256 % 2 + 2 * row.2.1.toNat) ++ leBytes 2 r.sequence.toNat ++
        leBytes 4 r.stamp.toNat ++ row.2.2
      let waiting := ringDistance (r.index + 1) s.events.consume
      let last := if row.2.1 then some r.index else s.events.lastAlarm
      let alarm := match last with
        | some i => decide (ringDistance i s.events.consume < waiting)
        | none => false
      let fires := decide (s.events.mode = .first) && s.events.armed
      record.length ≤ 32 ∧
      ∃ m, exec .eventWritePerformed s = .next (closeTake { s with
          mem := m
          port := { s.port with grant := none }
          events := { s.events with
            written := r.index + 1, lastAlarm := last, latch := fires || s.events.latch, armed := s.events.armed && !fires
            attn := attnUnder s.events.mode waiting alarm (fires || s.events.latch) } }) ∧
        ∀ x, Table.get unlistedByte m x =
          let base := 8192 + 32 * (r.index.toNat % 256)
          if base ≤ x ∧ x < base + 32 then record.getD (x - base) 0 else readByte s x) ∧
    (∀ whole w, s.power = .on → s.port.grant = some (.control (.header whole w)) →
      ∃ m, exec .headerWritePerformed s = .next (closeTake { s with mem := m, port := { s.port with grant := none } }) ∧
        (∀ x, 64 ≤ x → Table.get unlistedByte m x = readByte s x) ∧
        (∀ x, (x < 2 ∨ x = 6 ∨ x = 7 ∨ (16 ≤ x ∧ x < 64)) →
          Table.get unlistedByte m x = if whole then 0 else readByte s x) ∧
        [2, 3, 4, 5, 8, 9, 10, 11, 12, 13, 14, 15].map (Table.get unlistedByte m) =
          leBytes 2 w.take.toNat ++ leBytes 2 w.produce.toNat ++ leBytes 1 w.device.code ++
            [flagByte w.cold, w.slots.q0, w.slots.q1, w.slots.q2, w.slots.q3] ++ leBytes 1 w.free ++ [0]) ∧
    [SlotState.absent, .unknown, .probing, .verified, .suspect, .rejected .model, .exhausted].map (·.code) = List.range 7 ∧
    [RejectReason.model, .plane, .tag, .capacity, .rollback, .count].map (·.code) = List.range 6 ∧
    [FrameClass.control, .opened, .shared, .priv, .retired].map (·.code) = List.range 5 ∧
    [View.pass, .plain, .cipher, .blank, .metered].map (·.code) = List.range 5 ∧
    [Source.cpu, .scan, .print, .codec, .store, .net, .fax, .spare].map sourceTag = List.range 8 ∧
    [WithheldReason.mode, .power, .job, .supply, .account, .allowance, .meter].map (·.code) = List.range 7 ∧
    [Outcome.printed, .stalled, .aborted, .withheld].map (·.code) = List.range 4 ∧
    [ReleaseCause.close, .purge, .lockdown].map (·.code) = List.range 3 ∧
    [StateCause.start, .startService, .endService, .keepaliveEarly, .keepaliveMissed, .recover].map (·.code) = List.range 6 ∧
    [DeviceState.provision, .run, .service, .lockdown].map (·.code) = List.range 4 ∧
    [Colour.mono, .colour].map (·.code) = List.range 2 ∧ [ScrubHow.scrubbed, .removed].map (·.code) = List.range 2

/-- SET ATTENTION and the ATTN line (R165 to R167): a mode that does not exist is refused; otherwise the mode is in force at once, entering FIRST from another
mode sets the latch when a record is unconsumed and arms it otherwise (SET ATTENTION of FIRST in FIRST is no change of mode: log entry 35), every
other mode clears both, and ATTN is asserted as the mode says: on one record in EACH, on four or an alarm in BATCH, on an alarm in ALARM, on the
latch in FIRST. -/
def Obligations.SetAttentionOrder : Prop :=
  ∀ (s : State) (mode : Nat), OrderReady 21 [mode] s →
    if s.sup.device = .lockdown then exec .setAttention s = .next (refusedWith s .mode 0) else
    if 4 < mode then exec .setAttention s = .next (refusedWith s .range 1)
    else
      let waiting := ringDistance s.events.written s.events.consume
      let alarm : Bool := match s.events.lastAlarm with
        | some i => decide (ringDistance i s.events.consume < waiting)
        | none => false
      ∃ (m : AttnMode) (latch armed attn : Bool),
        exec .setAttention s = .next (answered
          { fetchDone s with events := { s.events with mode := m, latch := latch, armed := armed, attn := attn } }
          (.doneWith (leBytes 1 mode))) ∧
        (mode = 0 → m = .off ∧ latch = false ∧ armed = false ∧ attn = false) ∧
        (mode = 1 → m = .each ∧ latch = false ∧ armed = false ∧ attn = decide (1 ≤ waiting)) ∧
        (mode = 2 → m = .batch ∧ latch = false ∧ armed = false ∧ attn = (decide (4 ≤ waiting) || alarm)) ∧
        (mode = 3 → m = .alarmOnly ∧ latch = false ∧ armed = false ∧ attn = alarm) ∧
        (mode = 4 → m = .first ∧ attn = latch ∧
          (s.events.mode = .first → latch = s.events.latch ∧ armed = s.events.armed) ∧
          (s.events.mode ≠ .first → latch = decide (1 ≤ waiting) ∧ armed = decide (waiting = 0)))

/-! ## Supervision -/

/-- START, START SERVICE, END SERVICE and RECOVER (R3, R117, R168 to R172, R175). START checks size, period, stall timeout, a waiting START and the
deferred list; then the memory size and the two times are set, the cold flag and the provisioning timer cleared, and RUN is entered at once with
STATE_CHANGE where fold complete has been reported; otherwise the order waits, PENDING. A new memory size (R3, R150) clears the breach-noted flags
from the lower of the old and new size on; RETIRED and SCRUBBING frames at or beyond the new size are OPEN and leave the queue, counted as removed;
where its head leaves, a scrub line granted for it counts for nothing, and the next frame is SCRUBBING from line 0, or SCRUB_IDLE is posted, how
REMOVED, for the last of the queue (log entry 23), and both counts are 0. START SERVICE needs the cold flag and no waiting START. END SERVICE purges
each job slot in turn, answering its deferred close DONE before the next, but for one that stays behind a close taken before it (log entry 39).
RECOVER releases CTLRST. Both enter PROVISION with a fresh window. The detail 0 of DONE and PENDING is the model's choice: log entry 40. -/
def Obligations.DeviceStateOrders : Prop :=
  ∀ s : State,
    (∀ size, Table.wf FrameEntry.free s.frames.entries = true →
      let lower := min (s.frames.size.getD 4096) size
      let kept := s.scrub.queue.filter fun f => decide (f < size)
      let removed := min (s.scrub.removed + (s.scrub.queue.length - kept.length)) 65535
      let grant := match s.port.grant with
        | some (.scrub f l _) => some (Grant.scrub f l false)
        | other => other
      let opens := fun (f : Nat) => if f < lower then frameOf s f
        else if size ≤ f ∧ ((frameOf s f).state = .retired ∨ (frameOf s f).state = .scrubbing) then ⟨.opened, false⟩
        else ⟨(frameOf s f).state, false⟩
      ∃ frames : Frames, frames.size = some size ∧
        (∀ f, Table.get FrameEntry.free frames.entries f =
          if kept.head? = some f ∧ s.scrub.queue.head? ≠ some f then ⟨.scrubbing, false⟩ else opens f) ∧
        (kept.head? = s.scrub.queue.head? → setMemorySize size s =
          { s with frames := frames, scrub := { s.scrub with queue := kept, removed := removed } }) ∧
        (∀ f q, kept = f :: q → s.scrub.queue.head? ≠ some f → setMemorySize size s =
          { s with frames := frames, scrub := ⟨kept, some 0, true, s.scrub.scrubbed, removed⟩, port := { s.port with grant := grant } }) ∧
        (∀ last, kept = [] → s.scrub.queue.getLast? = some last →
          let idle := postEvent (.scrubIdle s.scrub.scrubbed removed last .removed)
            { s with frames := frames, port := { s.port with grant := grant } }
          setMemorySize size s = { idle with scrub := ⟨[], none, false, 0, 0⟩ })) ∧
    (∀ size period stall, OrderReady 22 [size, period, stall] s → s.sup.device = .provision →
      if size < 64 ∨ 4096 < size then exec .start s = .next (refusedWith s .range 1)
      else if period < 100 ∨ 10000 < period ∨ period % 100 ≠ 0 then exec .start s = .next (refusedWith s .range 2)
      else if stall < 1 ∨ 60 < stall then exec .start s = .next (refusedWith s .range 3)
      else if s.sup.startWaiting.isSome = true then exec .start s = .next (refusedWith s .state 0)
      else if s.meter.foldReported = false ∧ 8 ≤ s.orders.deferred.length then exec .start s = .next (refusedWith s .busy 0)
      else
        let u := setMemorySize size (fetchDone s)
        let set := { s.sup with period := period, stallSeconds := stall, cold := false, provTimer := none }
        u.frames.size = some size ∧
        (s.meter.foldReported = true →
          exec .start s = .next (answered (postEvent (.stateChange .provision .run .start false)
            { u with sup := { set with device := .run, keepalive := some s.time, startWaiting := none } }) .done)) ∧
        (s.meter.foldReported = false →
          exec .start s = .next (answered
            { u with sup := { set with startWaiting := some s.orders.take }
                     orders := { u.orders with deferred := u.orders.deferred ++ [⟨s.orders.take, .start⟩] } }
            (.plain .pending 0)))) ∧
    (OrderReady 23 [] s → s.sup.device = .provision →
      if s.sup.cold = false ∨ s.sup.startWaiting.isSome = true then exec .startService s = .next (refusedWith s .state 0)
      else exec .startService s = .next (answered (postEvent (.stateChange .provision .service .startService false)
        { fetchDone s with sup := { s.sup with cold := false, provTimer := none, device := .service } }) .done)) ∧
    (OrderReady 24 [] s → s.sup.device = .service → Canonical s → Bounded s →
      let isClose := fun (d : Deferred) => match d.object with
        | .closeJob _ => true
        | _ => false
      ∃ (turn : Nat → State) (more : List ControlAccess), purgedInTurn .purge .done (fetchDone s) turn ∧
        let u := turn 16
        (∀ j, j < 16 → (jobOf u j).isFree = true) ∧ u.sup = s.sup ∧ u.time = s.time ∧ u.orders.take = s.orders.take ∧
        u.orders.deferred = s.orders.deferred.filter (fun d => !isClose d) ∧
        u.port.control = s.port.control ++ more ∧
        more.filter (fun x => match x with
          | .event _ => false
          | _ => true) = ((s.orders.deferred.filter isClose).map fun d => ControlAccess.answer d.index (.plain .done 0)) ∧
        exec .endService s = .next (answered (postEvent (.stateChange .service .provision .endService s.sup.cold)
          { u with
            sup := { s.sup with device := .provision, windowCount := 0, provTimer := some s.time, keepalive := none }
            meter := { u.meter with foldReported := u.store.journal.isEmpty || u.meter.failed } }) .done)) ∧
    (OrderReady 26 [] s → s.sup.device = .lockdown →
      exec .recover s = .next (answered (postEvent (.stateChange .lockdown .provision .recover s.sup.cold)
        { fetchDone s with
          sup := { s.sup with device := .provision, windowCount := 0, provTimer := some s.time, keepalive := none, ctlrst := .deasserted }
          meter := { s.meter with foldReported := s.store.journal.isEmpty || s.meter.failed } }) .done))

/-- The keepalive and its breach (R171, R173, R174). In RUN, a KEEPALIVE before half the period breaches, one from there to the period sets the
reference, and one beyond it finds the breach of its expiry (log entry 11); in SERVICE it is answered DONE and changes nothing. A breach enters
LOCKDOWN: each job slot is purged in turn, its deferred close answered ABORTED before the next, but for one that stays behind a close taken before it
(log entry 39); the other deferred orders are then answered ABORTED, detail 0, in the list's order; CTLRST is held; STATE_CHANGE, posted last, carries
the cause. The expiry of a running period breaches; the time base stands at it or later (log entry 10). In PROVISION each expiry of the window counts
up to 255, posts PROVISION_EXPIRED, pulses CTLRST and starts the next window, and the pulse's end releases CTLRST (R168, R169); a stopped timer does
nothing (log entry 1). -/
def Obligations.SupervisionTimersAndKeepalive : Prop :=
  ∀ s : State, s.power = .on →
    (OrderReady 25 [] s → s.sup.device = .service → exec .keepalive s = .next (answered (fetchDone s) .done)) ∧
    (∀ since, s.sup.keepalive = some since → s.sup.device = .run →
      let elapsed := (s.time - since).toNat
      (OrderReady 25 [] s →
        if elapsed < s.sup.period / 2 then
          exec .keepalive s = .next (answered (enterLockdown .keepaliveEarly (fetchDone s)) (.plain .state 0))
        else if elapsed ≤ s.sup.period then
          exec .keepalive s = .next (answered { fetchDone s with sup := { s.sup with keepalive := some s.time } } .done)
        else exec .keepalive s = .next (answered (enterLockdown .keepaliveMissed (fetchDone s)) (.plain .mode 0))) ∧
      exec .keepaliveExpiry s = .next (closeTake (enterLockdown .keepaliveMissed (reachTime since s.sup.period s)))) ∧
    ((s.sup.device ≠ .run ∨ s.sup.keepalive = none) → exec .keepaliveExpiry s = .next s) ∧
    (∀ since, s.sup.provTimer = some since →
      let t := reachTime since 2000 s
      let count := min (s.sup.windowCount + 1) 255
      exec .provisioningTimerExpiry s = .next (closeTake
        (postEvent (.provisionExpired count s.sup.cold s.store.journal.length)
          { t with sup := { s.sup with windowCount := count, ctlrst := .pulsing t.time, provTimer := some t.time } }))) ∧
    (s.sup.provTimer = none → exec .provisioningTimerExpiry s = .next s) ∧
    (∀ since, s.sup.ctlrst = .pulsing since →
      exec .ctlrstPulseEnd s = .next (closeTake { reachTime since 100 s with sup := { s.sup with ctlrst := .deasserted } })) ∧
    ((∀ since, s.sup.ctlrst ≠ .pulsing since) → exec .ctlrstPulseEnd s = .next s) ∧
    (Canonical s → Bounded s → ∀ cause,
      let u := enterLockdown cause s
      let locked := { s.sup with device := .lockdown, keepalive := none }
      let isClose := fun (d : Deferred) => match d.object with
        | .closeJob _ => true
        | _ => false
      let others := s.orders.deferred.filter fun d => !isClose d
      let ended := s.orders.deferred.filter isClose ++ others
      (∃ (turn : Nat → State) (more : List ControlAccess), purgedInTurn .lockdown .aborted { s with sup := locked } turn ∧
        let v := turn 16
        let told := { v with
          port := { v.port with control := v.port.control ++ others.map fun (d : Deferred) => ControlAccess.answer d.index (.plain .aborted 0) }
          orders := { v.orders with deferred := [] } }
        u = postEvent (.stateChange s.sup.device .lockdown cause s.sup.cold) { told with sup := { locked with ctlrst := .held } } ∧
        v.time = s.time ∧ told.port.control = s.port.control ++ more ∧
        more.filter (fun x => match x with
          | .event _ => false
          | _ => true) = ended.map fun d => ControlAccess.answer d.index (.plain .aborted 0)) ∧
      u.sup = { locked with ctlrst := .held } ∧
      (∀ j, j < 16 → (jobOf u j).isFree = true) ∧ u.orders.deferred = [] ∧ u.orders.take = s.orders.take ∧
      u.mem = s.mem ∧ u.views = s.views ∧ u.supply.settings = s.supply.settings)

/-! ## The meter store, resets and the loss of power -/

/-- A store write ends (R109, R110, R112). One that reads back stands in the store, as `storeCommitted` says: a background block as it is in use at
the commit (log entry 14), or a fold write with its entry applied once, by the block's last-folded sequence, to the blocks that it covers. The first
that does not read back is tried again; the second marks the store FAILED and posts STORE_FAULT, which names the account's block where the write
covers two (log entry 15), and then, with entries still held, reports fold complete (log entry 31), which answers a waiting START DONE, detail 0 (log
entry 40). With no write in progress nothing happens (log entry 1). -/
def Obligations.StoreWriteEnds : Prop :=
  ∀ s : State, s.power = .on →
    (s.meter.write = none → ∀ good, exec (.storeWriteDone good) s = .next s) ∧
    ∀ w attempt, s.meter.write = some (w, attempt) →
      (∃ st : Store,
        exec (.storeWriteDone true) s = .next (closeTake { s with
          store := st
          meter := { s.meter with
            write := none
            lastWasFold := (match w with
              | .fold _ _ _ => true
              | .block _ => false)
            dirty := (match w with
              | .block b => s.meter.dirty.erase b
              | .fold _ _ _ => s.meter.dirty) } }) ∧
        storeCommitted w s st) ∧
      (attempt = 1 → exec (.storeWriteDone false) s = .next (closeTake { s with meter := { s.meter with write := some (w, 2) } })) ∧
      (attempt ≠ 1 →
        let named : FaultBlock × Nat := match w with
          | .block b => (.background b, 0)
          | .fold e (some a) _ => (.counts a, e.sequence)
          | .fold e none _ => (.totals, e.sequence)
        let failed := postEvent (.storeFault named.1 named.2 s.store.journal.length) { s with
          meter := { s.meter with
            write := none
            failed := true
            lastWasFold := (match w with
              | .fold _ _ _ => true
              | .block _ => false) } }
        exec (.storeWriteDone false) s =
          .next (closeTake (if s.store.journal = [] then failed else foldComplete failed)))

/-- The resets and the loss of power (R6, R9, R23, R38, R42, R58, R87, R107, R108, R116, R119, R120, R135, R151, R152, R160, R168, R177). POWER_ON and
RESETN_RELEASE start the part with every volatile state cleared; settings, tariff, coverage and supply settings from the meter store, every account's counts
and the totals from their blocks with every journal entry applied, store GOOD, no block dirty, fold complete reported where the journal is empty; PROVISION
with a fresh window, and the whole header waiting. WARM_RESET clears in the same way and holds the part (log entry 21). Page memory is kept (log entry
7) but for what a cut access had done: the enabled bytes of each line of a link write, or the zeros of a scrub line, that the command's operand says had been
performed; a control access in progress changes nothing. A store write in progress commits exactly where the operand says so (log entry 33). A power
loss keeps store and memory alone (log entry 22). A reset that does not act in the power state that stands changes nothing (log entry 1). -/
def Obligations.ResetsAndPowerLoss : Prop :=
  ∀ (s : State) (cut : ResetCut),
    let cutAt := fun (lines : BitVec 8) (m : List Host.Cell) => ∀ x, Table.get unlistedByte m x =
      match s.port.grant, s.filter.service with
      | some (.scrub f l _), _ =>
        if fitted s (lineAddress f l) = true ∧ lines.getLsbD 0 = true ∧ lineAddress f l ≤ x ∧ x < lineAddress f l + 64 then 0 else readByte s x
      | some .link, some v =>
        match v.phase with
        | .performing (.write bytes) =>
          let i := x - v.part.addr
          if fitted s v.part.addr = true ∧ v.part.addr ≤ x ∧ i < 64 * (bytes.length / 64) ∧ lines.getLsbD (i / 64) = true then
            (bytes.getD i none).getD (readByte s x)
          else readByte s x
        | _ => readByte s x
      | _, _ => readByte s x
    let cutStored := fun (st : Store) =>
      (∀ w n, s.meter.write = some (w, n) → cut.storeCommits = true → storeCommitted w s st) ∧
      (s.meter.write = none ∨ cut.storeCommits = false → st = s.store)
    let clean := fun (cold : Bool) (lines : BitVec 8) (st : Store) (u : State) =>
      u.frames = State.reset.frames ∧ u.views = ViewTable.default ∧ u.jobs = [] ∧ u.pages = [] ∧ u.store = st ∧
      u.coverage = ⟨st.coverage, Quad.all 0⟩ ∧
      (∃ accounts : Table Account,
        u.meter = ⟨accounts, st.tariff, (st.journal.foldl totalsFolded st.totals).totals, 0, [], none, false, false, st.journal.isEmpty⟩ ∧
        ∀ a, Table.get Account.blank accounts a =
          if a < 256 then
            ⟨Table.get AccountSettings.blank st.settings a,
              (st.journal.foldl (countsFolded a) (Table.get CountsBlock.blank st.counts a)).counts, 0, 0⟩
          else Account.blank) ∧
      u.supply.seen = st.seen ∧ u.supply.settings = st.supply ∧ u.supply.models = s.supply.models ∧
      u.supply.presence = s.lines.presence ∧ u.supply.doorClosed = s.lines.doorClosed ∧
      u.supply.presenceTimers = Quad.all none ∧ u.supply.doorTimer = none ∧
      (∀ n, slotOf u n = { Slot.absentFresh with
        state := if s.lines.presence.get n then .unknown else .absent
        probeDelay := if s.lines.presence.get n = true ∧ s.lines.doorClosed = true then some 0 else none }) ∧
      u.scrub = ⟨[], none, false, 0, 0⟩ ∧ u.filter = State.reset.filter ∧ u.time = 0 ∧
      u.orders = ⟨0, 0, false, [], headerWords u⟩ ∧
      u.port = ⟨none, 0, [.header true (headerWords u)]⟩ ∧ u.events = State.reset.events ∧
      u.sup = { Supervision.powerOn with cold := cold, pfw := s.lines.pfw } ∧
      u.lines = s.lines ∧ u.pending = s.pending ∧ u.keyDraws = s.keyDraws ∧ u.nonceDraws = s.nonceDraws ∧
      u.openReads = s.openReads ∧ u.fittedFrames = s.fittedFrames ∧ cutAt lines u.mem
    (∃ u st, cutStored st ∧ clean true cut.linesPerformed st u ∧ u.power = .on ∧ exec (.powerOn cut) s = .next (closeTake u)) ∧
    (s.power = .on → ∃ u st, cutStored st ∧ clean false cut.linesPerformed st u ∧ u.power = .held ∧ exec (.warmReset cut) s = .next u) ∧
    (s.power ≠ .on → exec (.warmReset cut) s = .next s) ∧
    (s.power = .held → ∃ u, clean false 0 s.store u ∧ u.power = .on ∧ exec .resetnRelease s = .next (closeTake u)) ∧
    (s.power ≠ .held → exec .resetnRelease s = .next s) ∧
    (s.power ≠ .off → ∃ m st, cutStored st ∧ cutAt cut.linesPerformed m ∧
      exec (.powerLoss cut) s = .next { s with
        power := .off, mem := m, store := st, port := { s.port with grant := none }, meter := { s.meter with write := none } }) ∧
    (s.power = .off → exec (.powerLoss cut) s = .next s)

/-! ## Laws that every step keeps -/

/-- Every step keeps memory and tables canonical, the guard count and the deferred list within their bounds, and the View Table lawful (R9, R10, R37, R159). -/
def Obligations.CanonicalDataAndViewsKept : Prop :=
  ∀ s t : State, step s = .next t →
    (Canonical s → Canonical t) ∧ (Bounded s → Bounded t) ∧ (ViewsLawful s → ViewsLawful t)

/-- Every step keeps the scrub queue's law: the queue holds each RETIRED or SCRUBBING frame once and no other, its head alone is SCRUBBING, and while the part
runs the head's next line is offered or being performed (R144 to R150). -/
def Obligations.ScrubLawKept : Prop :=
  ∀ s t : State, ScrubLaw s → step s = .next t → ScrubLaw t

/-- Every step keeps the journal's law: entries and reservations never exceed 64, and every page that holds a capture holds one reservation (R107). -/
def Obligations.JournalLawKept : Prop :=
  ∀ s t : State, JournalLaw s → step s = .next t → JournalLaw t

/-- Every step keeps the law of pages and holds: at every moment an account's held and inflight clicks are exactly what its TICKETED and its PRINTING pages
will be charged at most (R79, R99). -/
def Obligations.HoldsLawKept : Prop :=
  ∀ s t : State, HoldsLaw s → step s = .next t → HoldsLaw t

/-- Every step keeps the law of the books, and a power-on at any moment, whatever it finds half done, loses no count: every account's counts and the
device totals in use after it are those in use before (R106, R108, R112, R114, R116). -/
def Obligations.BooksSurvivePowerLoss : Prop :=
  ∀ s t : State, BooksLaw s →
    (step s = .next t → BooksLaw t) ∧
    ∀ cut, exec (.powerOn cut) s = .next t →
      (∀ a, a < 256 → (accountOf t a).counts = (accountOf s a).counts) ∧ t.meter.totals = s.meter.totals

/-- Every step keeps the law of the rings and of the header while the part runs: the event writes outstanding are those from the written to the
produce index, in order; at most 256 records are unconsumed; the only fetch outstanding is the one of the take index; at most 64 orders are
outstanding; and where the part's words differ from the last header write placed, a header write waits (R152, R155, R156, R161, R163). -/
def Obligations.RingsLawKept : Prop :=
  ∀ s t : State, (s.power = .on → RingsLaw s) → step s = .next t → t.power = .on → RingsLaw t

/-- Every step keeps the law of keys: a key slot is LOADED exactly while its job is open and PRIVATE, a key stands in one slot alone and was drawn before, a key
drains only while the part in service holds it, and that part holds no erased key (R24, R40, R45, R54). That a key is its draw, so that no two openings
ever have the same, is the model's choice: log entry 2. -/
def Obligations.KeysLawKept : Prop :=
  ∀ s t : State, KeysLaw s → step s = .next t → KeysLaw t

/-- Every step keeps the Supply Unit's law while the part runs: an exchange in flight has its frame on the link or its answer window, PROBING means an IDENT
exchange, a DEBIT exchange runs on a VERIFIED cartridge alone, a slot is ABSENT exactly where its line has settled low, and the seen lists hold at most
8 serials, each once (R118 to R124, R126, R132). -/
def Obligations.SupplyLawKept : Prop :=
  ∀ s t : State, SeenLaw s.supply.seen → SeenLaw s.store.seen → (s.power = .on → SupplyLaw s) → step s = .next t →
    SeenLaw t.supply.seen ∧ SeenLaw t.store.seen ∧ (t.power = .on → SupplyLaw t)

/-- The state after power-on meets every law. The values that the spec does not give it are the model's: log entries 3, 5, 6, 8 and 29. -/
def Obligations.LawsHoldAtReset : Prop :=
  Canonical State.reset ∧ Bounded State.reset ∧ ViewsLawful State.reset ∧ ScrubLaw State.reset ∧ JournalLaw State.reset ∧
    HoldsLaw State.reset ∧ BooksLaw State.reset ∧ RingsLaw State.reset ∧ KeysLaw State.reset ∧ SupplyLaw State.reset
end

