-- ==== Sys2Proof/Laws/State.lean ====
section
/-! SUPPORT. One lemma per field and update: what each basic operation on the state leaves as it is. -/

namespace Sys2Proof.Machine

variable (s : State)


/-! ### setFrame -/

@[simp] theorem setFrame_pending (f : Nat) (e : FrameEntry) : (setFrame f e s).pending = s.pending := rfl
@[simp] theorem setFrame_power (f : Nat) (e : FrameEntry) : (setFrame f e s).power = s.power := rfl
@[simp] theorem setFrame_time (f : Nat) (e : FrameEntry) : (setFrame f e s).time = s.time := rfl
@[simp] theorem setFrame_mem (f : Nat) (e : FrameEntry) : (setFrame f e s).mem = s.mem := rfl
@[simp] theorem setFrame_fittedFrames (f : Nat) (e : FrameEntry) : (setFrame f e s).fittedFrames = s.fittedFrames := rfl
@[simp] theorem setFrame_lines (f : Nat) (e : FrameEntry) : (setFrame f e s).lines = s.lines := rfl
@[simp] theorem setFrame_keyDraws (f : Nat) (e : FrameEntry) : (setFrame f e s).keyDraws = s.keyDraws := rfl
@[simp] theorem setFrame_nonceDraws (f : Nat) (e : FrameEntry) : (setFrame f e s).nonceDraws = s.nonceDraws := rfl
@[simp] theorem setFrame_openReads (f : Nat) (e : FrameEntry) : (setFrame f e s).openReads = s.openReads := rfl
@[simp] theorem setFrame_filter (f : Nat) (e : FrameEntry) : (setFrame f e s).filter = s.filter := rfl
@[simp] theorem setFrame_port (f : Nat) (e : FrameEntry) : (setFrame f e s).port = s.port := rfl
@[simp] theorem setFrame_views (f : Nat) (e : FrameEntry) : (setFrame f e s).views = s.views := rfl
@[simp] theorem setFrame_jobs (f : Nat) (e : FrameEntry) : (setFrame f e s).jobs = s.jobs := rfl
@[simp] theorem setFrame_pages (f : Nat) (e : FrameEntry) : (setFrame f e s).pages = s.pages := rfl
@[simp] theorem setFrame_coverage (f : Nat) (e : FrameEntry) : (setFrame f e s).coverage = s.coverage := rfl
@[simp] theorem setFrame_meter (f : Nat) (e : FrameEntry) : (setFrame f e s).meter = s.meter := rfl
@[simp] theorem setFrame_store (f : Nat) (e : FrameEntry) : (setFrame f e s).store = s.store := rfl
@[simp] theorem setFrame_supply (f : Nat) (e : FrameEntry) : (setFrame f e s).supply = s.supply := rfl
@[simp] theorem setFrame_scrub (f : Nat) (e : FrameEntry) : (setFrame f e s).scrub = s.scrub := rfl
@[simp] theorem setFrame_orders (f : Nat) (e : FrameEntry) : (setFrame f e s).orders = s.orders := rfl
@[simp] theorem setFrame_events (f : Nat) (e : FrameEntry) : (setFrame f e s).events = s.events := rfl
@[simp] theorem setFrame_sup (f : Nat) (e : FrameEntry) : (setFrame f e s).sup = s.sup := rfl

/-! ### updateFrames -/

@[simp] theorem updateFrames_pending (g : Nat → FrameEntry → FrameEntry) : (updateFrames g s).pending = s.pending := rfl
@[simp] theorem updateFrames_power (g : Nat → FrameEntry → FrameEntry) : (updateFrames g s).power = s.power := rfl
@[simp] theorem updateFrames_time (g : Nat → FrameEntry → FrameEntry) : (updateFrames g s).time = s.time := rfl
@[simp] theorem updateFrames_mem (g : Nat → FrameEntry → FrameEntry) : (updateFrames g s).mem = s.mem := rfl
@[simp] theorem updateFrames_fittedFrames (g : Nat → FrameEntry → FrameEntry) : (updateFrames g s).fittedFrames = s.fittedFrames := rfl
@[simp] theorem updateFrames_lines (g : Nat → FrameEntry → FrameEntry) : (updateFrames g s).lines = s.lines := rfl
@[simp] theorem updateFrames_keyDraws (g : Nat → FrameEntry → FrameEntry) : (updateFrames g s).keyDraws = s.keyDraws := rfl
@[simp] theorem updateFrames_nonceDraws (g : Nat → FrameEntry → FrameEntry) : (updateFrames g s).nonceDraws = s.nonceDraws := rfl
@[simp] theorem updateFrames_openReads (g : Nat → FrameEntry → FrameEntry) : (updateFrames g s).openReads = s.openReads := rfl
@[simp] theorem updateFrames_filter (g : Nat → FrameEntry → FrameEntry) : (updateFrames g s).filter = s.filter := rfl
@[simp] theorem updateFrames_port (g : Nat → FrameEntry → FrameEntry) : (updateFrames g s).port = s.port := rfl
@[simp] theorem updateFrames_views (g : Nat → FrameEntry → FrameEntry) : (updateFrames g s).views = s.views := rfl
@[simp] theorem updateFrames_jobs (g : Nat → FrameEntry → FrameEntry) : (updateFrames g s).jobs = s.jobs := rfl
@[simp] theorem updateFrames_pages (g : Nat → FrameEntry → FrameEntry) : (updateFrames g s).pages = s.pages := rfl
@[simp] theorem updateFrames_coverage (g : Nat → FrameEntry → FrameEntry) : (updateFrames g s).coverage = s.coverage := rfl
@[simp] theorem updateFrames_meter (g : Nat → FrameEntry → FrameEntry) : (updateFrames g s).meter = s.meter := rfl
@[simp] theorem updateFrames_store (g : Nat → FrameEntry → FrameEntry) : (updateFrames g s).store = s.store := rfl
@[simp] theorem updateFrames_supply (g : Nat → FrameEntry → FrameEntry) : (updateFrames g s).supply = s.supply := rfl
@[simp] theorem updateFrames_scrub (g : Nat → FrameEntry → FrameEntry) : (updateFrames g s).scrub = s.scrub := rfl
@[simp] theorem updateFrames_orders (g : Nat → FrameEntry → FrameEntry) : (updateFrames g s).orders = s.orders := rfl
@[simp] theorem updateFrames_events (g : Nat → FrameEntry → FrameEntry) : (updateFrames g s).events = s.events := rfl
@[simp] theorem updateFrames_sup (g : Nat → FrameEntry → FrameEntry) : (updateFrames g s).sup = s.sup := rfl

/-! ### setJob -/

@[simp] theorem setJob_pending (j : Nat) (r : Job) : (setJob j r s).pending = s.pending := rfl
@[simp] theorem setJob_power (j : Nat) (r : Job) : (setJob j r s).power = s.power := rfl
@[simp] theorem setJob_time (j : Nat) (r : Job) : (setJob j r s).time = s.time := rfl
@[simp] theorem setJob_mem (j : Nat) (r : Job) : (setJob j r s).mem = s.mem := rfl
@[simp] theorem setJob_fittedFrames (j : Nat) (r : Job) : (setJob j r s).fittedFrames = s.fittedFrames := rfl
@[simp] theorem setJob_lines (j : Nat) (r : Job) : (setJob j r s).lines = s.lines := rfl
@[simp] theorem setJob_keyDraws (j : Nat) (r : Job) : (setJob j r s).keyDraws = s.keyDraws := rfl
@[simp] theorem setJob_nonceDraws (j : Nat) (r : Job) : (setJob j r s).nonceDraws = s.nonceDraws := rfl
@[simp] theorem setJob_openReads (j : Nat) (r : Job) : (setJob j r s).openReads = s.openReads := rfl
@[simp] theorem setJob_filter (j : Nat) (r : Job) : (setJob j r s).filter = s.filter := rfl
@[simp] theorem setJob_port (j : Nat) (r : Job) : (setJob j r s).port = s.port := rfl
@[simp] theorem setJob_frames (j : Nat) (r : Job) : (setJob j r s).frames = s.frames := rfl
@[simp] theorem setJob_views (j : Nat) (r : Job) : (setJob j r s).views = s.views := rfl
@[simp] theorem setJob_pages (j : Nat) (r : Job) : (setJob j r s).pages = s.pages := rfl
@[simp] theorem setJob_coverage (j : Nat) (r : Job) : (setJob j r s).coverage = s.coverage := rfl
@[simp] theorem setJob_meter (j : Nat) (r : Job) : (setJob j r s).meter = s.meter := rfl
@[simp] theorem setJob_store (j : Nat) (r : Job) : (setJob j r s).store = s.store := rfl
@[simp] theorem setJob_supply (j : Nat) (r : Job) : (setJob j r s).supply = s.supply := rfl
@[simp] theorem setJob_scrub (j : Nat) (r : Job) : (setJob j r s).scrub = s.scrub := rfl
@[simp] theorem setJob_orders (j : Nat) (r : Job) : (setJob j r s).orders = s.orders := rfl
@[simp] theorem setJob_events (j : Nat) (r : Job) : (setJob j r s).events = s.events := rfl
@[simp] theorem setJob_sup (j : Nat) (r : Job) : (setJob j r s).sup = s.sup := rfl

/-! ### setPage -/

@[simp] theorem setPage_pending (p : Nat) (r : Option Page) : (setPage p r s).pending = s.pending := rfl
@[simp] theorem setPage_power (p : Nat) (r : Option Page) : (setPage p r s).power = s.power := rfl
@[simp] theorem setPage_time (p : Nat) (r : Option Page) : (setPage p r s).time = s.time := rfl
@[simp] theorem setPage_mem (p : Nat) (r : Option Page) : (setPage p r s).mem = s.mem := rfl
@[simp] theorem setPage_fittedFrames (p : Nat) (r : Option Page) : (setPage p r s).fittedFrames = s.fittedFrames := rfl
@[simp] theorem setPage_lines (p : Nat) (r : Option Page) : (setPage p r s).lines = s.lines := rfl
@[simp] theorem setPage_keyDraws (p : Nat) (r : Option Page) : (setPage p r s).keyDraws = s.keyDraws := rfl
@[simp] theorem setPage_nonceDraws (p : Nat) (r : Option Page) : (setPage p r s).nonceDraws = s.nonceDraws := rfl
@[simp] theorem setPage_openReads (p : Nat) (r : Option Page) : (setPage p r s).openReads = s.openReads := rfl
@[simp] theorem setPage_filter (p : Nat) (r : Option Page) : (setPage p r s).filter = s.filter := rfl
@[simp] theorem setPage_port (p : Nat) (r : Option Page) : (setPage p r s).port = s.port := rfl
@[simp] theorem setPage_frames (p : Nat) (r : Option Page) : (setPage p r s).frames = s.frames := rfl
@[simp] theorem setPage_views (p : Nat) (r : Option Page) : (setPage p r s).views = s.views := rfl
@[simp] theorem setPage_jobs (p : Nat) (r : Option Page) : (setPage p r s).jobs = s.jobs := rfl
@[simp] theorem setPage_coverage (p : Nat) (r : Option Page) : (setPage p r s).coverage = s.coverage := rfl
@[simp] theorem setPage_meter (p : Nat) (r : Option Page) : (setPage p r s).meter = s.meter := rfl
@[simp] theorem setPage_store (p : Nat) (r : Option Page) : (setPage p r s).store = s.store := rfl
@[simp] theorem setPage_supply (p : Nat) (r : Option Page) : (setPage p r s).supply = s.supply := rfl
@[simp] theorem setPage_scrub (p : Nat) (r : Option Page) : (setPage p r s).scrub = s.scrub := rfl
@[simp] theorem setPage_orders (p : Nat) (r : Option Page) : (setPage p r s).orders = s.orders := rfl
@[simp] theorem setPage_events (p : Nat) (r : Option Page) : (setPage p r s).events = s.events := rfl
@[simp] theorem setPage_sup (p : Nat) (r : Option Page) : (setPage p r s).sup = s.sup := rfl

/-! ### setAccount -/

@[simp] theorem setAccount_pending (a : Nat) (r : Account) : (setAccount a r s).pending = s.pending := rfl
@[simp] theorem setAccount_power (a : Nat) (r : Account) : (setAccount a r s).power = s.power := rfl
@[simp] theorem setAccount_time (a : Nat) (r : Account) : (setAccount a r s).time = s.time := rfl
@[simp] theorem setAccount_mem (a : Nat) (r : Account) : (setAccount a r s).mem = s.mem := rfl
@[simp] theorem setAccount_fittedFrames (a : Nat) (r : Account) : (setAccount a r s).fittedFrames = s.fittedFrames := rfl
@[simp] theorem setAccount_lines (a : Nat) (r : Account) : (setAccount a r s).lines = s.lines := rfl
@[simp] theorem setAccount_keyDraws (a : Nat) (r : Account) : (setAccount a r s).keyDraws = s.keyDraws := rfl
@[simp] theorem setAccount_nonceDraws (a : Nat) (r : Account) : (setAccount a r s).nonceDraws = s.nonceDraws := rfl
@[simp] theorem setAccount_openReads (a : Nat) (r : Account) : (setAccount a r s).openReads = s.openReads := rfl
@[simp] theorem setAccount_filter (a : Nat) (r : Account) : (setAccount a r s).filter = s.filter := rfl
@[simp] theorem setAccount_port (a : Nat) (r : Account) : (setAccount a r s).port = s.port := rfl
@[simp] theorem setAccount_frames (a : Nat) (r : Account) : (setAccount a r s).frames = s.frames := rfl
@[simp] theorem setAccount_views (a : Nat) (r : Account) : (setAccount a r s).views = s.views := rfl
@[simp] theorem setAccount_jobs (a : Nat) (r : Account) : (setAccount a r s).jobs = s.jobs := rfl
@[simp] theorem setAccount_pages (a : Nat) (r : Account) : (setAccount a r s).pages = s.pages := rfl
@[simp] theorem setAccount_coverage (a : Nat) (r : Account) : (setAccount a r s).coverage = s.coverage := rfl
@[simp] theorem setAccount_store (a : Nat) (r : Account) : (setAccount a r s).store = s.store := rfl
@[simp] theorem setAccount_supply (a : Nat) (r : Account) : (setAccount a r s).supply = s.supply := rfl
@[simp] theorem setAccount_scrub (a : Nat) (r : Account) : (setAccount a r s).scrub = s.scrub := rfl
@[simp] theorem setAccount_orders (a : Nat) (r : Account) : (setAccount a r s).orders = s.orders := rfl
@[simp] theorem setAccount_events (a : Nat) (r : Account) : (setAccount a r s).events = s.events := rfl
@[simp] theorem setAccount_sup (a : Nat) (r : Account) : (setAccount a r s).sup = s.sup := rfl

/-! ### setSlot -/

@[simp] theorem setSlot_pending (n : Plane) (r : Slot) : (setSlot n r s).pending = s.pending := rfl
@[simp] theorem setSlot_power (n : Plane) (r : Slot) : (setSlot n r s).power = s.power := rfl
@[simp] theorem setSlot_time (n : Plane) (r : Slot) : (setSlot n r s).time = s.time := rfl
@[simp] theorem setSlot_mem (n : Plane) (r : Slot) : (setSlot n r s).mem = s.mem := rfl
@[simp] theorem setSlot_fittedFrames (n : Plane) (r : Slot) : (setSlot n r s).fittedFrames = s.fittedFrames := rfl
@[simp] theorem setSlot_lines (n : Plane) (r : Slot) : (setSlot n r s).lines = s.lines := rfl
@[simp] theorem setSlot_keyDraws (n : Plane) (r : Slot) : (setSlot n r s).keyDraws = s.keyDraws := rfl
@[simp] theorem setSlot_nonceDraws (n : Plane) (r : Slot) : (setSlot n r s).nonceDraws = s.nonceDraws := rfl
@[simp] theorem setSlot_openReads (n : Plane) (r : Slot) : (setSlot n r s).openReads = s.openReads := rfl
@[simp] theorem setSlot_filter (n : Plane) (r : Slot) : (setSlot n r s).filter = s.filter := rfl
@[simp] theorem setSlot_port (n : Plane) (r : Slot) : (setSlot n r s).port = s.port := rfl
@[simp] theorem setSlot_frames (n : Plane) (r : Slot) : (setSlot n r s).frames = s.frames := rfl
@[simp] theorem setSlot_views (n : Plane) (r : Slot) : (setSlot n r s).views = s.views := rfl
@[simp] theorem setSlot_jobs (n : Plane) (r : Slot) : (setSlot n r s).jobs = s.jobs := rfl
@[simp] theorem setSlot_pages (n : Plane) (r : Slot) : (setSlot n r s).pages = s.pages := rfl
@[simp] theorem setSlot_coverage (n : Plane) (r : Slot) : (setSlot n r s).coverage = s.coverage := rfl
@[simp] theorem setSlot_meter (n : Plane) (r : Slot) : (setSlot n r s).meter = s.meter := rfl
@[simp] theorem setSlot_store (n : Plane) (r : Slot) : (setSlot n r s).store = s.store := rfl
@[simp] theorem setSlot_scrub (n : Plane) (r : Slot) : (setSlot n r s).scrub = s.scrub := rfl
@[simp] theorem setSlot_orders (n : Plane) (r : Slot) : (setSlot n r s).orders = s.orders := rfl
@[simp] theorem setSlot_events (n : Plane) (r : Slot) : (setSlot n r s).events = s.events := rfl
@[simp] theorem setSlot_sup (n : Plane) (r : Slot) : (setSlot n r s).sup = s.sup := rfl

/-! ### placeAccess -/

@[simp] theorem placeAccess_pending (a : ControlAccess) : (placeAccess a s).pending = s.pending := rfl
@[simp] theorem placeAccess_power (a : ControlAccess) : (placeAccess a s).power = s.power := rfl
@[simp] theorem placeAccess_time (a : ControlAccess) : (placeAccess a s).time = s.time := rfl
@[simp] theorem placeAccess_mem (a : ControlAccess) : (placeAccess a s).mem = s.mem := rfl
@[simp] theorem placeAccess_fittedFrames (a : ControlAccess) : (placeAccess a s).fittedFrames = s.fittedFrames := rfl
@[simp] theorem placeAccess_lines (a : ControlAccess) : (placeAccess a s).lines = s.lines := rfl
@[simp] theorem placeAccess_keyDraws (a : ControlAccess) : (placeAccess a s).keyDraws = s.keyDraws := rfl
@[simp] theorem placeAccess_nonceDraws (a : ControlAccess) : (placeAccess a s).nonceDraws = s.nonceDraws := rfl
@[simp] theorem placeAccess_openReads (a : ControlAccess) : (placeAccess a s).openReads = s.openReads := rfl
@[simp] theorem placeAccess_filter (a : ControlAccess) : (placeAccess a s).filter = s.filter := rfl
@[simp] theorem placeAccess_frames (a : ControlAccess) : (placeAccess a s).frames = s.frames := rfl
@[simp] theorem placeAccess_views (a : ControlAccess) : (placeAccess a s).views = s.views := rfl
@[simp] theorem placeAccess_jobs (a : ControlAccess) : (placeAccess a s).jobs = s.jobs := rfl
@[simp] theorem placeAccess_pages (a : ControlAccess) : (placeAccess a s).pages = s.pages := rfl
@[simp] theorem placeAccess_coverage (a : ControlAccess) : (placeAccess a s).coverage = s.coverage := rfl
@[simp] theorem placeAccess_meter (a : ControlAccess) : (placeAccess a s).meter = s.meter := rfl
@[simp] theorem placeAccess_store (a : ControlAccess) : (placeAccess a s).store = s.store := rfl
@[simp] theorem placeAccess_supply (a : ControlAccess) : (placeAccess a s).supply = s.supply := rfl
@[simp] theorem placeAccess_scrub (a : ControlAccess) : (placeAccess a s).scrub = s.scrub := rfl
@[simp] theorem placeAccess_orders (a : ControlAccess) : (placeAccess a s).orders = s.orders := rfl
@[simp] theorem placeAccess_events (a : ControlAccess) : (placeAccess a s).events = s.events := rfl
@[simp] theorem placeAccess_sup (a : ControlAccess) : (placeAccess a s).sup = s.sup := rfl

/-! ### deferOrder -/

@[simp] theorem deferOrder_pending (i : Index) (o : DeferredObject) : (deferOrder i o s).pending = s.pending := rfl
@[simp] theorem deferOrder_power (i : Index) (o : DeferredObject) : (deferOrder i o s).power = s.power := rfl
@[simp] theorem deferOrder_time (i : Index) (o : DeferredObject) : (deferOrder i o s).time = s.time := rfl
@[simp] theorem deferOrder_mem (i : Index) (o : DeferredObject) : (deferOrder i o s).mem = s.mem := rfl
@[simp] theorem deferOrder_fittedFrames (i : Index) (o : DeferredObject) : (deferOrder i o s).fittedFrames = s.fittedFrames := rfl
@[simp] theorem deferOrder_lines (i : Index) (o : DeferredObject) : (deferOrder i o s).lines = s.lines := rfl
@[simp] theorem deferOrder_keyDraws (i : Index) (o : DeferredObject) : (deferOrder i o s).keyDraws = s.keyDraws := rfl
@[simp] theorem deferOrder_nonceDraws (i : Index) (o : DeferredObject) : (deferOrder i o s).nonceDraws = s.nonceDraws := rfl
@[simp] theorem deferOrder_openReads (i : Index) (o : DeferredObject) : (deferOrder i o s).openReads = s.openReads := rfl
@[simp] theorem deferOrder_filter (i : Index) (o : DeferredObject) : (deferOrder i o s).filter = s.filter := rfl
@[simp] theorem deferOrder_port (i : Index) (o : DeferredObject) : (deferOrder i o s).port = s.port := rfl
@[simp] theorem deferOrder_frames (i : Index) (o : DeferredObject) : (deferOrder i o s).frames = s.frames := rfl
@[simp] theorem deferOrder_views (i : Index) (o : DeferredObject) : (deferOrder i o s).views = s.views := rfl
@[simp] theorem deferOrder_jobs (i : Index) (o : DeferredObject) : (deferOrder i o s).jobs = s.jobs := rfl
@[simp] theorem deferOrder_pages (i : Index) (o : DeferredObject) : (deferOrder i o s).pages = s.pages := rfl
@[simp] theorem deferOrder_coverage (i : Index) (o : DeferredObject) : (deferOrder i o s).coverage = s.coverage := rfl
@[simp] theorem deferOrder_meter (i : Index) (o : DeferredObject) : (deferOrder i o s).meter = s.meter := rfl
@[simp] theorem deferOrder_store (i : Index) (o : DeferredObject) : (deferOrder i o s).store = s.store := rfl
@[simp] theorem deferOrder_supply (i : Index) (o : DeferredObject) : (deferOrder i o s).supply = s.supply := rfl
@[simp] theorem deferOrder_scrub (i : Index) (o : DeferredObject) : (deferOrder i o s).scrub = s.scrub := rfl
@[simp] theorem deferOrder_events (i : Index) (o : DeferredObject) : (deferOrder i o s).events = s.events := rfl
@[simp] theorem deferOrder_sup (i : Index) (o : DeferredObject) : (deferOrder i o s).sup = s.sup := rfl

/-! ### modifySup -/

@[simp] theorem modifySup_pending (f : Supervision → Supervision) : (modifySup f s).pending = s.pending := rfl
@[simp] theorem modifySup_power (f : Supervision → Supervision) : (modifySup f s).power = s.power := rfl
@[simp] theorem modifySup_time (f : Supervision → Supervision) : (modifySup f s).time = s.time := rfl
@[simp] theorem modifySup_mem (f : Supervision → Supervision) : (modifySup f s).mem = s.mem := rfl
@[simp] theorem modifySup_fittedFrames (f : Supervision → Supervision) : (modifySup f s).fittedFrames = s.fittedFrames := rfl
@[simp] theorem modifySup_lines (f : Supervision → Supervision) : (modifySup f s).lines = s.lines := rfl
@[simp] theorem modifySup_keyDraws (f : Supervision → Supervision) : (modifySup f s).keyDraws = s.keyDraws := rfl
@[simp] theorem modifySup_nonceDraws (f : Supervision → Supervision) : (modifySup f s).nonceDraws = s.nonceDraws := rfl
@[simp] theorem modifySup_openReads (f : Supervision → Supervision) : (modifySup f s).openReads = s.openReads := rfl
@[simp] theorem modifySup_filter (f : Supervision → Supervision) : (modifySup f s).filter = s.filter := rfl
@[simp] theorem modifySup_port (f : Supervision → Supervision) : (modifySup f s).port = s.port := rfl
@[simp] theorem modifySup_frames (f : Supervision → Supervision) : (modifySup f s).frames = s.frames := rfl
@[simp] theorem modifySup_views (f : Supervision → Supervision) : (modifySup f s).views = s.views := rfl
@[simp] theorem modifySup_jobs (f : Supervision → Supervision) : (modifySup f s).jobs = s.jobs := rfl
@[simp] theorem modifySup_pages (f : Supervision → Supervision) : (modifySup f s).pages = s.pages := rfl
@[simp] theorem modifySup_coverage (f : Supervision → Supervision) : (modifySup f s).coverage = s.coverage := rfl
@[simp] theorem modifySup_meter (f : Supervision → Supervision) : (modifySup f s).meter = s.meter := rfl
@[simp] theorem modifySup_store (f : Supervision → Supervision) : (modifySup f s).store = s.store := rfl
@[simp] theorem modifySup_supply (f : Supervision → Supervision) : (modifySup f s).supply = s.supply := rfl
@[simp] theorem modifySup_scrub (f : Supervision → Supervision) : (modifySup f s).scrub = s.scrub := rfl
@[simp] theorem modifySup_orders (f : Supervision → Supervision) : (modifySup f s).orders = s.orders := rfl
@[simp] theorem modifySup_events (f : Supervision → Supervision) : (modifySup f s).events = s.events := rfl

/-! ### controlWrite -/

@[simp] theorem controlWrite_pending (a : Nat) (bytes : List (Option Byte)) : (controlWrite a bytes s).pending = s.pending := rfl
@[simp] theorem controlWrite_power (a : Nat) (bytes : List (Option Byte)) : (controlWrite a bytes s).power = s.power := rfl
@[simp] theorem controlWrite_time (a : Nat) (bytes : List (Option Byte)) : (controlWrite a bytes s).time = s.time := rfl
@[simp] theorem controlWrite_fittedFrames (a : Nat) (bytes : List (Option Byte)) : (controlWrite a bytes s).fittedFrames = s.fittedFrames := rfl
@[simp] theorem controlWrite_lines (a : Nat) (bytes : List (Option Byte)) : (controlWrite a bytes s).lines = s.lines := rfl
@[simp] theorem controlWrite_keyDraws (a : Nat) (bytes : List (Option Byte)) : (controlWrite a bytes s).keyDraws = s.keyDraws := rfl
@[simp] theorem controlWrite_nonceDraws (a : Nat) (bytes : List (Option Byte)) : (controlWrite a bytes s).nonceDraws = s.nonceDraws := rfl
@[simp] theorem controlWrite_openReads (a : Nat) (bytes : List (Option Byte)) : (controlWrite a bytes s).openReads = s.openReads := rfl
@[simp] theorem controlWrite_filter (a : Nat) (bytes : List (Option Byte)) : (controlWrite a bytes s).filter = s.filter := rfl
@[simp] theorem controlWrite_port (a : Nat) (bytes : List (Option Byte)) : (controlWrite a bytes s).port = s.port := rfl
@[simp] theorem controlWrite_frames (a : Nat) (bytes : List (Option Byte)) : (controlWrite a bytes s).frames = s.frames := rfl
@[simp] theorem controlWrite_views (a : Nat) (bytes : List (Option Byte)) : (controlWrite a bytes s).views = s.views := rfl
@[simp] theorem controlWrite_jobs (a : Nat) (bytes : List (Option Byte)) : (controlWrite a bytes s).jobs = s.jobs := rfl
@[simp] theorem controlWrite_pages (a : Nat) (bytes : List (Option Byte)) : (controlWrite a bytes s).pages = s.pages := rfl
@[simp] theorem controlWrite_coverage (a : Nat) (bytes : List (Option Byte)) : (controlWrite a bytes s).coverage = s.coverage := rfl
@[simp] theorem controlWrite_meter (a : Nat) (bytes : List (Option Byte)) : (controlWrite a bytes s).meter = s.meter := rfl
@[simp] theorem controlWrite_store (a : Nat) (bytes : List (Option Byte)) : (controlWrite a bytes s).store = s.store := rfl
@[simp] theorem controlWrite_supply (a : Nat) (bytes : List (Option Byte)) : (controlWrite a bytes s).supply = s.supply := rfl
@[simp] theorem controlWrite_scrub (a : Nat) (bytes : List (Option Byte)) : (controlWrite a bytes s).scrub = s.scrub := rfl
@[simp] theorem controlWrite_orders (a : Nat) (bytes : List (Option Byte)) : (controlWrite a bytes s).orders = s.orders := rfl
@[simp] theorem controlWrite_events (a : Nat) (bytes : List (Option Byte)) : (controlWrite a bytes s).events = s.events := rfl
@[simp] theorem controlWrite_sup (a : Nat) (bytes : List (Option Byte)) : (controlWrite a bytes s).sup = s.sup := rfl

/-! ### freePort -/

@[simp] theorem freePort_pending : (freePort s).pending = s.pending := rfl
@[simp] theorem freePort_power : (freePort s).power = s.power := rfl
@[simp] theorem freePort_time : (freePort s).time = s.time := rfl
@[simp] theorem freePort_mem : (freePort s).mem = s.mem := rfl
@[simp] theorem freePort_fittedFrames : (freePort s).fittedFrames = s.fittedFrames := rfl
@[simp] theorem freePort_lines : (freePort s).lines = s.lines := rfl
@[simp] theorem freePort_keyDraws : (freePort s).keyDraws = s.keyDraws := rfl
@[simp] theorem freePort_nonceDraws : (freePort s).nonceDraws = s.nonceDraws := rfl
@[simp] theorem freePort_openReads : (freePort s).openReads = s.openReads := rfl
@[simp] theorem freePort_filter : (freePort s).filter = s.filter := rfl
@[simp] theorem freePort_frames : (freePort s).frames = s.frames := rfl
@[simp] theorem freePort_views : (freePort s).views = s.views := rfl
@[simp] theorem freePort_jobs : (freePort s).jobs = s.jobs := rfl
@[simp] theorem freePort_pages : (freePort s).pages = s.pages := rfl
@[simp] theorem freePort_coverage : (freePort s).coverage = s.coverage := rfl
@[simp] theorem freePort_meter : (freePort s).meter = s.meter := rfl
@[simp] theorem freePort_store : (freePort s).store = s.store := rfl
@[simp] theorem freePort_supply : (freePort s).supply = s.supply := rfl
@[simp] theorem freePort_scrub : (freePort s).scrub = s.scrub := rfl
@[simp] theorem freePort_orders : (freePort s).orders = s.orders := rfl
@[simp] theorem freePort_events : (freePort s).events = s.events := rfl
@[simp] theorem freePort_sup : (freePort s).sup = s.sup := rfl

/-! ### fetchDone -/

@[simp] theorem fetchDone_pending : (fetchDone s).pending = s.pending := rfl
@[simp] theorem fetchDone_power : (fetchDone s).power = s.power := rfl
@[simp] theorem fetchDone_time : (fetchDone s).time = s.time := rfl
@[simp] theorem fetchDone_mem : (fetchDone s).mem = s.mem := rfl
@[simp] theorem fetchDone_fittedFrames : (fetchDone s).fittedFrames = s.fittedFrames := rfl
@[simp] theorem fetchDone_lines : (fetchDone s).lines = s.lines := rfl
@[simp] theorem fetchDone_keyDraws : (fetchDone s).keyDraws = s.keyDraws := rfl
@[simp] theorem fetchDone_nonceDraws : (fetchDone s).nonceDraws = s.nonceDraws := rfl
@[simp] theorem fetchDone_openReads : (fetchDone s).openReads = s.openReads := rfl
@[simp] theorem fetchDone_filter : (fetchDone s).filter = s.filter := rfl
@[simp] theorem fetchDone_frames : (fetchDone s).frames = s.frames := rfl
@[simp] theorem fetchDone_views : (fetchDone s).views = s.views := rfl
@[simp] theorem fetchDone_jobs : (fetchDone s).jobs = s.jobs := rfl
@[simp] theorem fetchDone_pages : (fetchDone s).pages = s.pages := rfl
@[simp] theorem fetchDone_coverage : (fetchDone s).coverage = s.coverage := rfl
@[simp] theorem fetchDone_meter : (fetchDone s).meter = s.meter := rfl
@[simp] theorem fetchDone_store : (fetchDone s).store = s.store := rfl
@[simp] theorem fetchDone_supply : (fetchDone s).supply = s.supply := rfl
@[simp] theorem fetchDone_scrub : (fetchDone s).scrub = s.scrub := rfl
@[simp] theorem fetchDone_events : (fetchDone s).events = s.events := rfl
@[simp] theorem fetchDone_sup : (fetchDone s).sup = s.sup := rfl

/-! ### unreserve -/

@[simp] theorem unreserve_pending : (unreserve s).pending = s.pending := rfl
@[simp] theorem unreserve_power : (unreserve s).power = s.power := rfl
@[simp] theorem unreserve_time : (unreserve s).time = s.time := rfl
@[simp] theorem unreserve_mem : (unreserve s).mem = s.mem := rfl
@[simp] theorem unreserve_fittedFrames : (unreserve s).fittedFrames = s.fittedFrames := rfl
@[simp] theorem unreserve_lines : (unreserve s).lines = s.lines := rfl
@[simp] theorem unreserve_keyDraws : (unreserve s).keyDraws = s.keyDraws := rfl
@[simp] theorem unreserve_nonceDraws : (unreserve s).nonceDraws = s.nonceDraws := rfl
@[simp] theorem unreserve_openReads : (unreserve s).openReads = s.openReads := rfl
@[simp] theorem unreserve_filter : (unreserve s).filter = s.filter := rfl
@[simp] theorem unreserve_port : (unreserve s).port = s.port := rfl
@[simp] theorem unreserve_frames : (unreserve s).frames = s.frames := rfl
@[simp] theorem unreserve_views : (unreserve s).views = s.views := rfl
@[simp] theorem unreserve_jobs : (unreserve s).jobs = s.jobs := rfl
@[simp] theorem unreserve_pages : (unreserve s).pages = s.pages := rfl
@[simp] theorem unreserve_coverage : (unreserve s).coverage = s.coverage := rfl
@[simp] theorem unreserve_store : (unreserve s).store = s.store := rfl
@[simp] theorem unreserve_supply : (unreserve s).supply = s.supply := rfl
@[simp] theorem unreserve_scrub : (unreserve s).scrub = s.scrub := rfl
@[simp] theorem unreserve_orders : (unreserve s).orders = s.orders := rfl
@[simp] theorem unreserve_events : (unreserve s).events = s.events := rfl
@[simp] theorem unreserve_sup : (unreserve s).sup = s.sup := rfl

/-! ### appendEntry -/

@[simp] theorem appendEntry_pending (b : EntryBody) : (appendEntry b s).pending = s.pending := rfl
@[simp] theorem appendEntry_power (b : EntryBody) : (appendEntry b s).power = s.power := rfl
@[simp] theorem appendEntry_time (b : EntryBody) : (appendEntry b s).time = s.time := rfl
@[simp] theorem appendEntry_mem (b : EntryBody) : (appendEntry b s).mem = s.mem := rfl
@[simp] theorem appendEntry_fittedFrames (b : EntryBody) : (appendEntry b s).fittedFrames = s.fittedFrames := rfl
@[simp] theorem appendEntry_lines (b : EntryBody) : (appendEntry b s).lines = s.lines := rfl
@[simp] theorem appendEntry_keyDraws (b : EntryBody) : (appendEntry b s).keyDraws = s.keyDraws := rfl
@[simp] theorem appendEntry_nonceDraws (b : EntryBody) : (appendEntry b s).nonceDraws = s.nonceDraws := rfl
@[simp] theorem appendEntry_openReads (b : EntryBody) : (appendEntry b s).openReads = s.openReads := rfl
@[simp] theorem appendEntry_filter (b : EntryBody) : (appendEntry b s).filter = s.filter := rfl
@[simp] theorem appendEntry_port (b : EntryBody) : (appendEntry b s).port = s.port := rfl
@[simp] theorem appendEntry_frames (b : EntryBody) : (appendEntry b s).frames = s.frames := rfl
@[simp] theorem appendEntry_views (b : EntryBody) : (appendEntry b s).views = s.views := rfl
@[simp] theorem appendEntry_jobs (b : EntryBody) : (appendEntry b s).jobs = s.jobs := rfl
@[simp] theorem appendEntry_pages (b : EntryBody) : (appendEntry b s).pages = s.pages := rfl
@[simp] theorem appendEntry_coverage (b : EntryBody) : (appendEntry b s).coverage = s.coverage := rfl
@[simp] theorem appendEntry_meter (b : EntryBody) : (appendEntry b s).meter = s.meter := rfl
@[simp] theorem appendEntry_supply (b : EntryBody) : (appendEntry b s).supply = s.supply := rfl
@[simp] theorem appendEntry_scrub (b : EntryBody) : (appendEntry b s).scrub = s.scrub := rfl
@[simp] theorem appendEntry_orders (b : EntryBody) : (appendEntry b s).orders = s.orders := rfl
@[simp] theorem appendEntry_events (b : EntryBody) : (appendEntry b s).events = s.events := rfl
@[simp] theorem appendEntry_sup (b : EntryBody) : (appendEntry b s).sup = s.sup := rfl

/-! ### clearResidue -/

@[simp] theorem clearResidue_pending (n : Plane) : (clearResidue n s).pending = s.pending := rfl
@[simp] theorem clearResidue_power (n : Plane) : (clearResidue n s).power = s.power := rfl
@[simp] theorem clearResidue_time (n : Plane) : (clearResidue n s).time = s.time := rfl
@[simp] theorem clearResidue_mem (n : Plane) : (clearResidue n s).mem = s.mem := rfl
@[simp] theorem clearResidue_fittedFrames (n : Plane) : (clearResidue n s).fittedFrames = s.fittedFrames := rfl
@[simp] theorem clearResidue_lines (n : Plane) : (clearResidue n s).lines = s.lines := rfl
@[simp] theorem clearResidue_keyDraws (n : Plane) : (clearResidue n s).keyDraws = s.keyDraws := rfl
@[simp] theorem clearResidue_nonceDraws (n : Plane) : (clearResidue n s).nonceDraws = s.nonceDraws := rfl
@[simp] theorem clearResidue_openReads (n : Plane) : (clearResidue n s).openReads = s.openReads := rfl
@[simp] theorem clearResidue_filter (n : Plane) : (clearResidue n s).filter = s.filter := rfl
@[simp] theorem clearResidue_port (n : Plane) : (clearResidue n s).port = s.port := rfl
@[simp] theorem clearResidue_frames (n : Plane) : (clearResidue n s).frames = s.frames := rfl
@[simp] theorem clearResidue_views (n : Plane) : (clearResidue n s).views = s.views := rfl
@[simp] theorem clearResidue_jobs (n : Plane) : (clearResidue n s).jobs = s.jobs := rfl
@[simp] theorem clearResidue_pages (n : Plane) : (clearResidue n s).pages = s.pages := rfl
@[simp] theorem clearResidue_meter (n : Plane) : (clearResidue n s).meter = s.meter := rfl
@[simp] theorem clearResidue_store (n : Plane) : (clearResidue n s).store = s.store := rfl
@[simp] theorem clearResidue_supply (n : Plane) : (clearResidue n s).supply = s.supply := rfl
@[simp] theorem clearResidue_scrub (n : Plane) : (clearResidue n s).scrub = s.scrub := rfl
@[simp] theorem clearResidue_orders (n : Plane) : (clearResidue n s).orders = s.orders := rfl
@[simp] theorem clearResidue_events (n : Plane) : (clearResidue n s).events = s.events := rfl
@[simp] theorem clearResidue_sup (n : Plane) : (clearResidue n s).sup = s.sup := rfl

/-! ### dropFolded -/

@[simp] theorem dropFolded_pending : (dropFolded s).pending = s.pending := rfl
@[simp] theorem dropFolded_power : (dropFolded s).power = s.power := rfl
@[simp] theorem dropFolded_time : (dropFolded s).time = s.time := rfl
@[simp] theorem dropFolded_mem : (dropFolded s).mem = s.mem := rfl
@[simp] theorem dropFolded_fittedFrames : (dropFolded s).fittedFrames = s.fittedFrames := rfl
@[simp] theorem dropFolded_lines : (dropFolded s).lines = s.lines := rfl
@[simp] theorem dropFolded_keyDraws : (dropFolded s).keyDraws = s.keyDraws := rfl
@[simp] theorem dropFolded_nonceDraws : (dropFolded s).nonceDraws = s.nonceDraws := rfl
@[simp] theorem dropFolded_openReads : (dropFolded s).openReads = s.openReads := rfl
@[simp] theorem dropFolded_filter : (dropFolded s).filter = s.filter := rfl
@[simp] theorem dropFolded_port : (dropFolded s).port = s.port := rfl
@[simp] theorem dropFolded_frames : (dropFolded s).frames = s.frames := rfl
@[simp] theorem dropFolded_views : (dropFolded s).views = s.views := rfl
@[simp] theorem dropFolded_jobs : (dropFolded s).jobs = s.jobs := rfl
@[simp] theorem dropFolded_pages : (dropFolded s).pages = s.pages := rfl
@[simp] theorem dropFolded_coverage : (dropFolded s).coverage = s.coverage := rfl
@[simp] theorem dropFolded_meter : (dropFolded s).meter = s.meter := rfl
@[simp] theorem dropFolded_supply : (dropFolded s).supply = s.supply := rfl
@[simp] theorem dropFolded_scrub : (dropFolded s).scrub = s.scrub := rfl
@[simp] theorem dropFolded_orders : (dropFolded s).orders = s.orders := rfl
@[simp] theorem dropFolded_events : (dropFolded s).events = s.events := rfl
@[simp] theorem dropFolded_sup : (dropFolded s).sup = s.sup := rfl

/-! ### firstHeader -/

@[simp] theorem firstHeader_pending : (firstHeader s).pending = s.pending := rfl
@[simp] theorem firstHeader_power : (firstHeader s).power = s.power := rfl
@[simp] theorem firstHeader_time : (firstHeader s).time = s.time := rfl
@[simp] theorem firstHeader_mem : (firstHeader s).mem = s.mem := rfl
@[simp] theorem firstHeader_fittedFrames : (firstHeader s).fittedFrames = s.fittedFrames := rfl
@[simp] theorem firstHeader_lines : (firstHeader s).lines = s.lines := rfl
@[simp] theorem firstHeader_keyDraws : (firstHeader s).keyDraws = s.keyDraws := rfl
@[simp] theorem firstHeader_nonceDraws : (firstHeader s).nonceDraws = s.nonceDraws := rfl
@[simp] theorem firstHeader_openReads : (firstHeader s).openReads = s.openReads := rfl
@[simp] theorem firstHeader_filter : (firstHeader s).filter = s.filter := rfl
@[simp] theorem firstHeader_frames : (firstHeader s).frames = s.frames := rfl
@[simp] theorem firstHeader_views : (firstHeader s).views = s.views := rfl
@[simp] theorem firstHeader_jobs : (firstHeader s).jobs = s.jobs := rfl
@[simp] theorem firstHeader_pages : (firstHeader s).pages = s.pages := rfl
@[simp] theorem firstHeader_coverage : (firstHeader s).coverage = s.coverage := rfl
@[simp] theorem firstHeader_meter : (firstHeader s).meter = s.meter := rfl
@[simp] theorem firstHeader_store : (firstHeader s).store = s.store := rfl
@[simp] theorem firstHeader_supply : (firstHeader s).supply = s.supply := rfl
@[simp] theorem firstHeader_scrub : (firstHeader s).scrub = s.scrub := rfl
@[simp] theorem firstHeader_events : (firstHeader s).events = s.events := rfl
@[simp] theorem firstHeader_sup : (firstHeader s).sup = s.sup := rfl

/-! ### postEvent -/

@[simp] theorem postEvent_pending (e : Event) : (postEvent e s).pending = s.pending := by
  unfold postEvent; dsimp only; split <;> rfl
@[simp] theorem postEvent_power (e : Event) : (postEvent e s).power = s.power := by
  unfold postEvent; dsimp only; split <;> rfl
@[simp] theorem postEvent_time (e : Event) : (postEvent e s).time = s.time := by
  unfold postEvent; dsimp only; split <;> rfl
@[simp] theorem postEvent_mem (e : Event) : (postEvent e s).mem = s.mem := by
  unfold postEvent; dsimp only; split <;> rfl
@[simp] theorem postEvent_fittedFrames (e : Event) : (postEvent e s).fittedFrames = s.fittedFrames := by
  unfold postEvent; dsimp only; split <;> rfl
@[simp] theorem postEvent_lines (e : Event) : (postEvent e s).lines = s.lines := by
  unfold postEvent; dsimp only; split <;> rfl
@[simp] theorem postEvent_keyDraws (e : Event) : (postEvent e s).keyDraws = s.keyDraws := by
  unfold postEvent; dsimp only; split <;> rfl
@[simp] theorem postEvent_nonceDraws (e : Event) : (postEvent e s).nonceDraws = s.nonceDraws := by
  unfold postEvent; dsimp only; split <;> rfl
@[simp] theorem postEvent_openReads (e : Event) : (postEvent e s).openReads = s.openReads := by
  unfold postEvent; dsimp only; split <;> rfl
@[simp] theorem postEvent_filter (e : Event) : (postEvent e s).filter = s.filter := by
  unfold postEvent; dsimp only; split <;> rfl
@[simp] theorem postEvent_frames (e : Event) : (postEvent e s).frames = s.frames := by
  unfold postEvent; dsimp only; split <;> rfl
@[simp] theorem postEvent_views (e : Event) : (postEvent e s).views = s.views := by
  unfold postEvent; dsimp only; split <;> rfl
@[simp] theorem postEvent_jobs (e : Event) : (postEvent e s).jobs = s.jobs := by
  unfold postEvent; dsimp only; split <;> rfl
@[simp] theorem postEvent_pages (e : Event) : (postEvent e s).pages = s.pages := by
  unfold postEvent; dsimp only; split <;> rfl
@[simp] theorem postEvent_coverage (e : Event) : (postEvent e s).coverage = s.coverage := by
  unfold postEvent; dsimp only; split <;> rfl
@[simp] theorem postEvent_meter (e : Event) : (postEvent e s).meter = s.meter := by
  unfold postEvent; dsimp only; split <;> rfl
@[simp] theorem postEvent_store (e : Event) : (postEvent e s).store = s.store := by
  unfold postEvent; dsimp only; split <;> rfl
@[simp] theorem postEvent_supply (e : Event) : (postEvent e s).supply = s.supply := by
  unfold postEvent; dsimp only; split <;> rfl
@[simp] theorem postEvent_scrub (e : Event) : (postEvent e s).scrub = s.scrub := by
  unfold postEvent; dsimp only; split <;> rfl
@[simp] theorem postEvent_orders (e : Event) : (postEvent e s).orders = s.orders := by
  unfold postEvent; dsimp only; split <;> rfl
@[simp] theorem postEvent_sup (e : Event) : (postEvent e s).sup = s.sup := by
  unfold postEvent; dsimp only; split <;> rfl

/-! ### markDirty -/

@[simp] theorem markDirty_pending (b : Block) : (markDirty b s).pending = s.pending := by
  unfold markDirty; split <;> rfl
@[simp] theorem markDirty_power (b : Block) : (markDirty b s).power = s.power := by
  unfold markDirty; split <;> rfl
@[simp] theorem markDirty_time (b : Block) : (markDirty b s).time = s.time := by
  unfold markDirty; split <;> rfl
@[simp] theorem markDirty_mem (b : Block) : (markDirty b s).mem = s.mem := by
  unfold markDirty; split <;> rfl
@[simp] theorem markDirty_fittedFrames (b : Block) : (markDirty b s).fittedFrames = s.fittedFrames := by
  unfold markDirty; split <;> rfl
@[simp] theorem markDirty_lines (b : Block) : (markDirty b s).lines = s.lines := by
  unfold markDirty; split <;> rfl
@[simp] theorem markDirty_keyDraws (b : Block) : (markDirty b s).keyDraws = s.keyDraws := by
  unfold markDirty; split <;> rfl
@[simp] theorem markDirty_nonceDraws (b : Block) : (markDirty b s).nonceDraws = s.nonceDraws := by
  unfold markDirty; split <;> rfl
@[simp] theorem markDirty_openReads (b : Block) : (markDirty b s).openReads = s.openReads := by
  unfold markDirty; split <;> rfl
@[simp] theorem markDirty_filter (b : Block) : (markDirty b s).filter = s.filter := by
  unfold markDirty; split <;> rfl
@[simp] theorem markDirty_port (b : Block) : (markDirty b s).port = s.port := by
  unfold markDirty; split <;> rfl
@[simp] theorem markDirty_frames (b : Block) : (markDirty b s).frames = s.frames := by
  unfold markDirty; split <;> rfl
@[simp] theorem markDirty_views (b : Block) : (markDirty b s).views = s.views := by
  unfold markDirty; split <;> rfl
@[simp] theorem markDirty_jobs (b : Block) : (markDirty b s).jobs = s.jobs := by
  unfold markDirty; split <;> rfl
@[simp] theorem markDirty_pages (b : Block) : (markDirty b s).pages = s.pages := by
  unfold markDirty; split <;> rfl
@[simp] theorem markDirty_coverage (b : Block) : (markDirty b s).coverage = s.coverage := by
  unfold markDirty; split <;> rfl
@[simp] theorem markDirty_store (b : Block) : (markDirty b s).store = s.store := by
  unfold markDirty; split <;> rfl
@[simp] theorem markDirty_supply (b : Block) : (markDirty b s).supply = s.supply := by
  unfold markDirty; split <;> rfl
@[simp] theorem markDirty_scrub (b : Block) : (markDirty b s).scrub = s.scrub := by
  unfold markDirty; split <;> rfl
@[simp] theorem markDirty_orders (b : Block) : (markDirty b s).orders = s.orders := by
  unfold markDirty; split <;> rfl
@[simp] theorem markDirty_events (b : Block) : (markDirty b s).events = s.events := by
  unfold markDirty; split <;> rfl
@[simp] theorem markDirty_sup (b : Block) : (markDirty b s).sup = s.sup := by
  unfold markDirty; split <;> rfl

/-! ### portWrite -/

@[simp] theorem portWrite_pending (a : Nat) (bytes : List (Option Byte)) : (portWrite a bytes s).pending = s.pending := by
  unfold portWrite; split <;> rfl
@[simp] theorem portWrite_power (a : Nat) (bytes : List (Option Byte)) : (portWrite a bytes s).power = s.power := by
  unfold portWrite; split <;> rfl
@[simp] theorem portWrite_time (a : Nat) (bytes : List (Option Byte)) : (portWrite a bytes s).time = s.time := by
  unfold portWrite; split <;> rfl
@[simp] theorem portWrite_fittedFrames (a : Nat) (bytes : List (Option Byte)) : (portWrite a bytes s).fittedFrames = s.fittedFrames := by
  unfold portWrite; split <;> rfl
@[simp] theorem portWrite_lines (a : Nat) (bytes : List (Option Byte)) : (portWrite a bytes s).lines = s.lines := by
  unfold portWrite; split <;> rfl
@[simp] theorem portWrite_keyDraws (a : Nat) (bytes : List (Option Byte)) : (portWrite a bytes s).keyDraws = s.keyDraws := by
  unfold portWrite; split <;> rfl
@[simp] theorem portWrite_nonceDraws (a : Nat) (bytes : List (Option Byte)) : (portWrite a bytes s).nonceDraws = s.nonceDraws := by
  unfold portWrite; split <;> rfl
@[simp] theorem portWrite_openReads (a : Nat) (bytes : List (Option Byte)) : (portWrite a bytes s).openReads = s.openReads := by
  unfold portWrite; split <;> rfl
@[simp] theorem portWrite_filter (a : Nat) (bytes : List (Option Byte)) : (portWrite a bytes s).filter = s.filter := by
  unfold portWrite; split <;> rfl
@[simp] theorem portWrite_port (a : Nat) (bytes : List (Option Byte)) : (portWrite a bytes s).port = s.port := by
  unfold portWrite; split <;> rfl
@[simp] theorem portWrite_frames (a : Nat) (bytes : List (Option Byte)) : (portWrite a bytes s).frames = s.frames := by
  unfold portWrite; split <;> rfl
@[simp] theorem portWrite_views (a : Nat) (bytes : List (Option Byte)) : (portWrite a bytes s).views = s.views := by
  unfold portWrite; split <;> rfl
@[simp] theorem portWrite_jobs (a : Nat) (bytes : List (Option Byte)) : (portWrite a bytes s).jobs = s.jobs := by
  unfold portWrite; split <;> rfl
@[simp] theorem portWrite_pages (a : Nat) (bytes : List (Option Byte)) : (portWrite a bytes s).pages = s.pages := by
  unfold portWrite; split <;> rfl
@[simp] theorem portWrite_coverage (a : Nat) (bytes : List (Option Byte)) : (portWrite a bytes s).coverage = s.coverage := by
  unfold portWrite; split <;> rfl
@[simp] theorem portWrite_meter (a : Nat) (bytes : List (Option Byte)) : (portWrite a bytes s).meter = s.meter := by
  unfold portWrite; split <;> rfl
@[simp] theorem portWrite_store (a : Nat) (bytes : List (Option Byte)) : (portWrite a bytes s).store = s.store := by
  unfold portWrite; split <;> rfl
@[simp] theorem portWrite_supply (a : Nat) (bytes : List (Option Byte)) : (portWrite a bytes s).supply = s.supply := by
  unfold portWrite; split <;> rfl
@[simp] theorem portWrite_scrub (a : Nat) (bytes : List (Option Byte)) : (portWrite a bytes s).scrub = s.scrub := by
  unfold portWrite; split <;> rfl
@[simp] theorem portWrite_orders (a : Nat) (bytes : List (Option Byte)) : (portWrite a bytes s).orders = s.orders := by
  unfold portWrite; split <;> rfl
@[simp] theorem portWrite_events (a : Nat) (bytes : List (Option Byte)) : (portWrite a bytes s).events = s.events := by
  unfold portWrite; split <;> rfl
@[simp] theorem portWrite_sup (a : Nat) (bytes : List (Option Byte)) : (portWrite a bytes s).sup = s.sup := by
  unfold portWrite; split <;> rfl

/-! ### reachTime -/

@[simp] theorem reachTime_pending (r : Time) (ms : Nat) : (reachTime r ms s).pending = s.pending := by
  unfold reachTime; split <;> rfl
@[simp] theorem reachTime_power (r : Time) (ms : Nat) : (reachTime r ms s).power = s.power := by
  unfold reachTime; split <;> rfl
@[simp] theorem reachTime_mem (r : Time) (ms : Nat) : (reachTime r ms s).mem = s.mem := by
  unfold reachTime; split <;> rfl
@[simp] theorem reachTime_fittedFrames (r : Time) (ms : Nat) : (reachTime r ms s).fittedFrames = s.fittedFrames := by
  unfold reachTime; split <;> rfl
@[simp] theorem reachTime_lines (r : Time) (ms : Nat) : (reachTime r ms s).lines = s.lines := by
  unfold reachTime; split <;> rfl
@[simp] theorem reachTime_keyDraws (r : Time) (ms : Nat) : (reachTime r ms s).keyDraws = s.keyDraws := by
  unfold reachTime; split <;> rfl
@[simp] theorem reachTime_nonceDraws (r : Time) (ms : Nat) : (reachTime r ms s).nonceDraws = s.nonceDraws := by
  unfold reachTime; split <;> rfl
@[simp] theorem reachTime_openReads (r : Time) (ms : Nat) : (reachTime r ms s).openReads = s.openReads := by
  unfold reachTime; split <;> rfl
@[simp] theorem reachTime_filter (r : Time) (ms : Nat) : (reachTime r ms s).filter = s.filter := by
  unfold reachTime; split <;> rfl
@[simp] theorem reachTime_port (r : Time) (ms : Nat) : (reachTime r ms s).port = s.port := by
  unfold reachTime; split <;> rfl
@[simp] theorem reachTime_frames (r : Time) (ms : Nat) : (reachTime r ms s).frames = s.frames := by
  unfold reachTime; split <;> rfl
@[simp] theorem reachTime_views (r : Time) (ms : Nat) : (reachTime r ms s).views = s.views := by
  unfold reachTime; split <;> rfl
@[simp] theorem reachTime_jobs (r : Time) (ms : Nat) : (reachTime r ms s).jobs = s.jobs := by
  unfold reachTime; split <;> rfl
@[simp] theorem reachTime_pages (r : Time) (ms : Nat) : (reachTime r ms s).pages = s.pages := by
  unfold reachTime; split <;> rfl
@[simp] theorem reachTime_coverage (r : Time) (ms : Nat) : (reachTime r ms s).coverage = s.coverage := by
  unfold reachTime; split <;> rfl
@[simp] theorem reachTime_meter (r : Time) (ms : Nat) : (reachTime r ms s).meter = s.meter := by
  unfold reachTime; split <;> rfl
@[simp] theorem reachTime_store (r : Time) (ms : Nat) : (reachTime r ms s).store = s.store := by
  unfold reachTime; split <;> rfl
@[simp] theorem reachTime_supply (r : Time) (ms : Nat) : (reachTime r ms s).supply = s.supply := by
  unfold reachTime; split <;> rfl
@[simp] theorem reachTime_scrub (r : Time) (ms : Nat) : (reachTime r ms s).scrub = s.scrub := by
  unfold reachTime; split <;> rfl
@[simp] theorem reachTime_orders (r : Time) (ms : Nat) : (reachTime r ms s).orders = s.orders := by
  unfold reachTime; split <;> rfl
@[simp] theorem reachTime_events (r : Time) (ms : Nat) : (reachTime r ms s).events = s.events := by
  unfold reachTime; split <;> rfl
@[simp] theorem reachTime_sup (r : Time) (ms : Nat) : (reachTime r ms s).sup = s.sup := by
  unfold reachTime; split <;> rfl

/-! ### startWrite -/

@[simp] theorem startWrite_pending : (startWrite s).pending = s.pending := by
  unfold startWrite; split <;> rfl
@[simp] theorem startWrite_power : (startWrite s).power = s.power := by
  unfold startWrite; split <;> rfl
@[simp] theorem startWrite_time : (startWrite s).time = s.time := by
  unfold startWrite; split <;> rfl
@[simp] theorem startWrite_mem : (startWrite s).mem = s.mem := by
  unfold startWrite; split <;> rfl
@[simp] theorem startWrite_fittedFrames : (startWrite s).fittedFrames = s.fittedFrames := by
  unfold startWrite; split <;> rfl
@[simp] theorem startWrite_lines : (startWrite s).lines = s.lines := by
  unfold startWrite; split <;> rfl
@[simp] theorem startWrite_keyDraws : (startWrite s).keyDraws = s.keyDraws := by
  unfold startWrite; split <;> rfl
@[simp] theorem startWrite_nonceDraws : (startWrite s).nonceDraws = s.nonceDraws := by
  unfold startWrite; split <;> rfl
@[simp] theorem startWrite_openReads : (startWrite s).openReads = s.openReads := by
  unfold startWrite; split <;> rfl
@[simp] theorem startWrite_filter : (startWrite s).filter = s.filter := by
  unfold startWrite; split <;> rfl
@[simp] theorem startWrite_port : (startWrite s).port = s.port := by
  unfold startWrite; split <;> rfl
@[simp] theorem startWrite_frames : (startWrite s).frames = s.frames := by
  unfold startWrite; split <;> rfl
@[simp] theorem startWrite_views : (startWrite s).views = s.views := by
  unfold startWrite; split <;> rfl
@[simp] theorem startWrite_jobs : (startWrite s).jobs = s.jobs := by
  unfold startWrite; split <;> rfl
@[simp] theorem startWrite_pages : (startWrite s).pages = s.pages := by
  unfold startWrite; split <;> rfl
@[simp] theorem startWrite_coverage : (startWrite s).coverage = s.coverage := by
  unfold startWrite; split <;> rfl
@[simp] theorem startWrite_store : (startWrite s).store = s.store := by
  unfold startWrite; split <;> rfl
@[simp] theorem startWrite_supply : (startWrite s).supply = s.supply := by
  unfold startWrite; split <;> rfl
@[simp] theorem startWrite_scrub : (startWrite s).scrub = s.scrub := by
  unfold startWrite; split <;> rfl
@[simp] theorem startWrite_orders : (startWrite s).orders = s.orders := by
  unfold startWrite; split <;> rfl
@[simp] theorem startWrite_events : (startWrite s).events = s.events := by
  unfold startWrite; split <;> rfl
@[simp] theorem startWrite_sup : (startWrite s).sup = s.sup := by
  unfold startWrite; split <;> rfl

/-! ### placeHeader -/

@[simp] theorem placeHeader_pending : (placeHeader s).pending = s.pending := by
  unfold placeHeader; split <;> rfl
@[simp] theorem placeHeader_power : (placeHeader s).power = s.power := by
  unfold placeHeader; split <;> rfl
@[simp] theorem placeHeader_time : (placeHeader s).time = s.time := by
  unfold placeHeader; split <;> rfl
@[simp] theorem placeHeader_mem : (placeHeader s).mem = s.mem := by
  unfold placeHeader; split <;> rfl
@[simp] theorem placeHeader_fittedFrames : (placeHeader s).fittedFrames = s.fittedFrames := by
  unfold placeHeader; split <;> rfl
@[simp] theorem placeHeader_lines : (placeHeader s).lines = s.lines := by
  unfold placeHeader; split <;> rfl
@[simp] theorem placeHeader_keyDraws : (placeHeader s).keyDraws = s.keyDraws := by
  unfold placeHeader; split <;> rfl
@[simp] theorem placeHeader_nonceDraws : (placeHeader s).nonceDraws = s.nonceDraws := by
  unfold placeHeader; split <;> rfl
@[simp] theorem placeHeader_openReads : (placeHeader s).openReads = s.openReads := by
  unfold placeHeader; split <;> rfl
@[simp] theorem placeHeader_filter : (placeHeader s).filter = s.filter := by
  unfold placeHeader; split <;> rfl
@[simp] theorem placeHeader_frames : (placeHeader s).frames = s.frames := by
  unfold placeHeader; split <;> rfl
@[simp] theorem placeHeader_views : (placeHeader s).views = s.views := by
  unfold placeHeader; split <;> rfl
@[simp] theorem placeHeader_jobs : (placeHeader s).jobs = s.jobs := by
  unfold placeHeader; split <;> rfl
@[simp] theorem placeHeader_pages : (placeHeader s).pages = s.pages := by
  unfold placeHeader; split <;> rfl
@[simp] theorem placeHeader_coverage : (placeHeader s).coverage = s.coverage := by
  unfold placeHeader; split <;> rfl
@[simp] theorem placeHeader_meter : (placeHeader s).meter = s.meter := by
  unfold placeHeader; split <;> rfl
@[simp] theorem placeHeader_store : (placeHeader s).store = s.store := by
  unfold placeHeader; split <;> rfl
@[simp] theorem placeHeader_supply : (placeHeader s).supply = s.supply := by
  unfold placeHeader; split <;> rfl
@[simp] theorem placeHeader_scrub : (placeHeader s).scrub = s.scrub := by
  unfold placeHeader; split <;> rfl
@[simp] theorem placeHeader_events : (placeHeader s).events = s.events := by
  unfold placeHeader; split <;> rfl
@[simp] theorem placeHeader_sup : (placeHeader s).sup = s.sup := by
  unfold placeHeader; split <;> rfl

/-! ### tick -/

@[simp] theorem tick_pending : (tick s).pending = s.pending := by
  unfold tick; split <;> rfl
@[simp] theorem tick_power : (tick s).power = s.power := by
  unfold tick; split <;> rfl
@[simp] theorem tick_mem : (tick s).mem = s.mem := by
  unfold tick; split <;> rfl
@[simp] theorem tick_fittedFrames : (tick s).fittedFrames = s.fittedFrames := by
  unfold tick; split <;> rfl
@[simp] theorem tick_lines : (tick s).lines = s.lines := by
  unfold tick; split <;> rfl
@[simp] theorem tick_keyDraws : (tick s).keyDraws = s.keyDraws := by
  unfold tick; split <;> rfl
@[simp] theorem tick_nonceDraws : (tick s).nonceDraws = s.nonceDraws := by
  unfold tick; split <;> rfl
@[simp] theorem tick_openReads : (tick s).openReads = s.openReads := by
  unfold tick; split <;> rfl
@[simp] theorem tick_filter : (tick s).filter = s.filter := by
  unfold tick; split <;> rfl
@[simp] theorem tick_port : (tick s).port = s.port := by
  unfold tick; split <;> rfl
@[simp] theorem tick_frames : (tick s).frames = s.frames := by
  unfold tick; split <;> rfl
@[simp] theorem tick_views : (tick s).views = s.views := by
  unfold tick; split <;> rfl
@[simp] theorem tick_jobs : (tick s).jobs = s.jobs := by
  unfold tick; split <;> rfl
@[simp] theorem tick_pages : (tick s).pages = s.pages := by
  unfold tick; split <;> rfl
@[simp] theorem tick_coverage : (tick s).coverage = s.coverage := by
  unfold tick; split <;> rfl
@[simp] theorem tick_meter : (tick s).meter = s.meter := by
  unfold tick; split <;> rfl
@[simp] theorem tick_store : (tick s).store = s.store := by
  unfold tick; split <;> rfl
@[simp] theorem tick_supply : (tick s).supply = s.supply := by
  unfold tick; split <;> rfl
@[simp] theorem tick_scrub : (tick s).scrub = s.scrub := by
  unfold tick; split <;> rfl
@[simp] theorem tick_orders : (tick s).orders = s.orders := by
  unfold tick; split <;> rfl
@[simp] theorem tick_events : (tick s).events = s.events := by
  unfold tick; split <;> rfl
@[simp] theorem tick_sup : (tick s).sup = s.sup := by
  unfold tick; split <;> rfl

/-! ### Parts of the records that an operation changes -/

@[simp] theorem setFrame_size (f : Nat) (e : FrameEntry) : (setFrame f e s).frames.size = s.frames.size := rfl
@[simp] theorem updateFrames_size (g : Nat → FrameEntry → FrameEntry) :
    (updateFrames g s).frames.size = s.frames.size := rfl
@[simp] theorem setAccount_reservations (a : Nat) (r : Account) :
    (setAccount a r s).meter.reservations = s.meter.reservations := rfl
@[simp] theorem setAccount_tariff (a : Nat) (r : Account) : (setAccount a r s).meter.tariff = s.meter.tariff := rfl
@[simp] theorem setAccount_totals (a : Nat) (r : Account) : (setAccount a r s).meter.totals = s.meter.totals := rfl
@[simp] theorem setSlot_seen (n : Plane) (r : Slot) : (setSlot n r s).supply.seen = s.supply.seen := rfl
@[simp] theorem setSlot_settings (n : Plane) (r : Slot) : (setSlot n r s).supply.settings = s.supply.settings := rfl
@[simp] theorem setSlot_models (n : Plane) (r : Slot) : (setSlot n r s).supply.models = s.supply.models := rfl
@[simp] theorem setSlot_presence (n : Plane) (r : Slot) : (setSlot n r s).supply.presence = s.supply.presence := rfl
@[simp] theorem setSlot_doorClosed (n : Plane) (r : Slot) : (setSlot n r s).supply.doorClosed = s.supply.doorClosed := rfl
@[simp] theorem placeAccess_grant (a : ControlAccess) : (placeAccess a s).port.grant = s.port.grant := rfl
@[simp] theorem placeAccess_guardCount (a : ControlAccess) : (placeAccess a s).port.guardCount = s.port.guardCount := rfl
@[simp] theorem placeAccess_control (a : ControlAccess) : (placeAccess a s).port.control = s.port.control ++ [a] := rfl
@[simp] theorem freePort_control : (freePort s).port.control = s.port.control := rfl
@[simp] theorem freePort_guardCount : (freePort s).port.guardCount = s.port.guardCount := rfl
@[simp] theorem fetchDone_take : (fetchDone s).orders.take = s.orders.take := rfl
@[simp] theorem fetchDone_deferred : (fetchDone s).orders.deferred = s.orders.deferred := rfl
@[simp] theorem fetchDone_control : (fetchDone s).port.control = s.port.control := rfl
@[simp] theorem deferOrder_take (i : Index) (o : DeferredObject) : (deferOrder i o s).orders.take = s.orders.take := rfl
@[simp] theorem appendEntry_counts (b : EntryBody) : (appendEntry b s).store.counts = s.store.counts := rfl
@[simp] theorem appendEntry_settings (b : EntryBody) : (appendEntry b s).store.settings = s.store.settings := rfl

end Sys2Proof.Machine
end

