-- ==== Sys2Proof/Laws/Ops.lean ====
section
/-! SUPPORT. What each shared operation can do, said once: tables, bytes, page memory, records, events, answers, takes. -/

namespace Sys2Proof.Machine

/-! ## Quads -/

@[simp] theorem Quad.get_set_self {α : Type} (q : Quad α) (i : Plane) (a : α) : (q.set i a).get i = a := by
  match i with
  | 0 => rfl
  | 1 => rfl
  | 2 => rfl
  | 3 => rfl

theorem Quad.get_set_ne {α : Type} (q : Quad α) {i j : Plane} (a : α) (h : i ≠ j) : (q.set i a).get j = q.get j := by
  match i, j with
  | 0, 0 | 1, 1 | 2, 2 | 3, 3 => exact absurd rfl h
  | 0, 1 | 0, 2 | 0, 3 | 1, 0 | 1, 2 | 1, 3 | 2, 0 | 2, 1 | 2, 3 | 3, 0 | 3, 1 | 3, 2 => rfl

theorem Quad.get_set {α : Type} (q : Quad α) (i j : Plane) (a : α) :
    (q.set i a).get j = if i = j then a else q.get j := by
  split
  · subst_vars; simp
  · exact q.get_set_ne a ‹_›

@[simp] theorem Quad.get_all {α : Type} (a : α) (i : Plane) : (Quad.all a).get i = a := by
  match i with
  | 0 | 1 | 2 | 3 => rfl

@[simp] theorem Quad.get_imap {α β : Type} (q : Quad α) (f : Plane → α → β) (i : Plane) :
    (q.imap f).get i = f i (q.get i) := by
  match i with
  | 0 | 1 | 2 | 3 => rfl

/-! ## Tables -/

theorem Table.get_filter_ne {α : Type} (d : α) (t : Table α) {k j : Nat} (h : k ≠ j) :
    Table.get d (Table.erase t k) j = Table.get d t j := by
  unfold Table.erase
  induction t with
  | nil => rfl
  | cons e t ih =>
    obtain ⟨i, v⟩ := e
    by_cases hi : i = k
    · subst hi; simp [Table.get, h, ih]
    · simp [hi, Table.get, ih]

theorem Table.get_erase_self {α : Type} (d : α) (t : Table α) (k : Nat) : Table.get d (Table.erase t k) k = d := by
  unfold Table.erase
  induction t with
  | nil => rfl
  | cons e t ih =>
    obtain ⟨i, v⟩ := e
    by_cases hi : i = k
    · subst hi; simp [ih]
    · simp [hi, Table.get, ih]

theorem Table.get_insert {α : Type} (d : α) (t : Table α) (k j : Nat) (v : α) (hk : ∀ e ∈ t, e.1 ≠ k) :
    Table.get d (Table.insert k v t) j = if k = j then v else Table.get d t j := by
  induction t with
  | nil => simp [Table.insert, Table.get]
  | cons e t ih =>
    obtain ⟨i, w⟩ := e
    have hi : i ≠ k := hk (i, w) (by simp)
    have ih := ih fun e he => hk e (by simp [he])
    unfold Table.insert
    split
    · simp [Table.get]
    · simp only [Table.get, ih]
      by_cases hj : i = j
      · subst hj; simp [Ne.symm hi]
      · simp [hj]

/-- Reading a table after a write: the written value at the written number, every other number as before. -/
theorem Table.get_set {α : Type} [DecidableEq α] (d : α) (t : Table α) (k j : Nat) (v : α) :
    Table.get d (Table.set d t k v) j = if k = j then v else Table.get d t j := by
  unfold Table.set
  split
  · subst_vars
    split
    · subst_vars; exact get_erase_self ..
    · exact get_filter_ne _ _ ‹_›
  · rw [get_insert]
    · split
      · rfl
      · exact get_filter_ne _ _ ‹_›
    · intro e he
      simp only [Table.erase, List.mem_filter, bne_iff_ne] at he
      exact he.2

/-- The canonical form, said of the list: numbers strictly rising and no default. -/
theorem Table.wf_iff {α : Type} [DecidableEq α] (d : α) (t : Table α) :
    Table.wf d t = true ↔ t.Pairwise (fun a b => a.1 < b.1) ∧ ∀ e ∈ t, e.2 ≠ d := by
  induction t with
  | nil => simp [Table.wf]
  | cons e t ih =>
    obtain ⟨k, v⟩ := e
    cases t with
    | nil => simp [Table.wf]
    | cons e' t' =>
      obtain ⟨j, w⟩ := e'
      rw [Table.wf, Bool.and_eq_true, ih]
      simp only [List.pairwise_cons, List.mem_cons, forall_eq_or_imp, decide_eq_true_eq, Bool.and_eq_true]
      constructor
      · rintro ⟨⟨hkj, hv⟩, ⟨hp, hq⟩, hw, hr⟩
        exact ⟨⟨⟨hkj, fun a ha => Nat.lt_trans hkj (hp a ha)⟩, hp, hq⟩, hv, hw, hr⟩
      · rintro ⟨⟨⟨hkj, -⟩, hp, hq⟩, hv, hw, hr⟩
        exact ⟨⟨hkj, hv⟩, ⟨hp, hq⟩, hw, hr⟩

theorem Table.mem_insert {α : Type} {k : Nat} {v : α} {t : Table α} {e : Nat × α} :
    e ∈ Table.insert k v t ↔ e = (k, v) ∨ e ∈ t := by
  induction t with
  | nil => simp [Table.insert]
  | cons x t ih =>
    obtain ⟨j, w⟩ := x
    unfold Table.insert
    split
    · simp
    · simp only [List.mem_cons, ih]; tauto

theorem Table.pairwise_insert {α : Type} {k : Nat} {v : α} {t : Table α} (hp : t.Pairwise fun a b => a.1 < b.1)
    (hk : ∀ e ∈ t, e.1 ≠ k) : (Table.insert k v t).Pairwise fun a b => a.1 < b.1 := by
  induction t with
  | nil => simp [Table.insert]
  | cons x t ih =>
    obtain ⟨j, w⟩ := x
    have hj : j ≠ k := hk (j, w) (by simp)
    have hp' := List.pairwise_cons.mp hp
    unfold Table.insert
    split
    · rename_i hlt
      refine List.pairwise_cons.mpr ⟨?_, hp⟩
      intro e he
      rcases List.mem_cons.mp he with rfl | he
      · exact hlt
      · exact Nat.lt_trans hlt (hp'.1 e he)
    · refine List.pairwise_cons.mpr ⟨?_, ih hp'.2 fun e he => hk e (by simp [he])⟩
      intro e he
      rcases Table.mem_insert.mp he with rfl | he
      · simp only; omega
      · exact hp'.1 e he

/-- A write keeps a table canonical. -/
theorem Table.wf_set {α : Type} [DecidableEq α] {d : α} {t : Table α} (h : Table.wf d t = true) (k : Nat) (v : α) :
    Table.wf d (Table.set d t k v) = true := by
  rw [Table.wf_iff] at h ⊢
  have he : (Table.erase t k).Pairwise (fun a b => a.1 < b.1) ∧ ∀ e ∈ Table.erase t k, e.2 ≠ d :=
    ⟨h.1.filter _, fun e he => h.2 e (List.mem_of_mem_filter he)⟩
  unfold Table.set
  split
  · exact he
  · refine ⟨Table.pairwise_insert he.1 ?_, ?_⟩
    · intro e hm
      simp only [Table.erase, List.mem_filter, bne_iff_ne] at hm
      exact hm.2
    · intro e hm
      rcases Table.mem_insert.mp hm with rfl | hm
      · assumption
      · exact he.2 e hm

/-- An update of every record keeps a table canonical. -/
theorem Table.wf_update {α : Type} [DecidableEq α] {d : α} {t : Table α} (h : Table.wf d t = true) (f : Nat → α → α) :
    Table.wf d (Table.update d f t) = true := by
  rw [Table.wf_iff] at h ⊢
  unfold Table.update
  refine ⟨List.Pairwise.filter _ (List.pairwise_map.mpr (by simpa using h.1)), ?_⟩
  intro e he
  simpa using (List.mem_filter.mp he).2

/-- A table listed from a function is canonical. -/
theorem Table.wf_ofFn {α : Type} [DecidableEq α] (d : α) (n : Nat) (f : Nat → α) : Table.wf d (Table.ofFn d n f) = true := by
  rw [Table.wf_iff]
  unfold Table.ofFn
  refine ⟨List.Pairwise.filter _ (List.pairwise_map.mpr (by simpa using List.pairwise_lt_range)), ?_⟩
  intro e he
  simpa using (List.mem_filter.mp he).2

theorem Table.get_of_pairwise {α : Type} (d : α) {t : Table α} (hp : t.Pairwise fun a b => a.1 < b.1) {k : Nat} {v : α}
    (h : (k, v) ∈ t) : Table.get d t k = v := by
  induction t with
  | nil => simp at h
  | cons x t ih =>
    obtain ⟨j, w⟩ := x
    have hp' := List.pairwise_cons.mp hp
    rcases List.mem_cons.mp h with h | h
    · cases h; simp [Table.get]
    · have := hp'.1 _ h
      simp only at this
      simp [Table.get, Nat.ne_of_lt this, ih hp'.2 h]

theorem Table.get_of_not_mem {α : Type} (d : α) {t : Table α} {k : Nat} (h : ∀ e ∈ t, e.1 ≠ k) : Table.get d t k = d := by
  induction t with
  | nil => rfl
  | cons x t ih =>
    obtain ⟨j, w⟩ := x
    have := h (j, w) (by simp)
    simp only at this
    simp [Table.get, this, ih fun e he => h e (by simp [he])]

/-- Reading an updated table: each record is changed by the function. -/
theorem Table.get_update {α : Type} [DecidableEq α] {d : α} {t : Table α} (h : Table.wf d t = true) (f : Nat → α → α)
    (hd : ∀ k, f k d = d) (k : Nat) : Table.get d (Table.update d f t) k = f k (Table.get d t k) := by
  have hw := (Table.wf_iff d t).mp h
  have hu := (Table.wf_iff d _).mp (Table.wf_update h f)
  by_cases hk : ∃ v, (k, v) ∈ t
  · obtain ⟨v, hv⟩ := hk
    rw [Table.get_of_pairwise d hw.1 hv]
    by_cases hf : f k v = d
    · rw [hf]
      apply Table.get_of_not_mem
      rintro ⟨j, w⟩ he rfl
      simp only [Table.update, List.mem_filter, List.mem_map, decide_eq_true_eq] at he
      obtain ⟨⟨e, hem, heq⟩, hne⟩ := he
      obtain ⟨i, u⟩ := e
      simp only [Prod.mk.injEq] at heq
      obtain ⟨rfl, rfl⟩ := heq
      rw [← Table.get_of_pairwise d hw.1 hem, Table.get_of_pairwise d hw.1 hv] at hne
      exact hne hf
    · apply Table.get_of_pairwise d hu.1
      simp only [Table.update, List.mem_filter, List.mem_map, decide_eq_true_eq]
      exact ⟨⟨(k, v), hv, rfl⟩, hf⟩
  · rw [Table.get_of_not_mem d (t := t) (fun e he hek => hk ⟨e.2, by rw [← hek]; exact he⟩), hd]
    apply Table.get_of_not_mem
    intro e he hek
    simp only [Table.update, List.mem_filter, List.mem_map] at he
    obtain ⟨⟨e', he', rfl⟩, -⟩ := he
    exact hk ⟨e'.2, by rw [← hek]; exact he'⟩

/-- Reading a table listed from a function. -/
theorem Table.get_ofFn {α : Type} [DecidableEq α] (d : α) (n : Nat) (f : Nat → α) (k : Nat) :
    Table.get d (Table.ofFn d n f) k = if k < n then f k else d := by
  have hw := (Table.wf_iff d _).mp (Table.wf_ofFn d n f)
  by_cases h : k < n ∧ f k ≠ d
  · rw [if_pos h.1]
    apply Table.get_of_pairwise d hw.1
    simp only [Table.ofFn, List.mem_filter, List.mem_map, List.mem_range, decide_eq_true_eq]
    exact ⟨⟨k, h.1, rfl⟩, h.2⟩
  · rw [Table.get_of_not_mem]
    · split
      · by_contra hne
        exact h ⟨‹_›, fun e => hne e.symm⟩
      · rfl
    · rintro e he rfl
      simp only [Table.ofFn, List.mem_filter, List.mem_map, List.mem_range, decide_eq_true_eq] at he
      obtain ⟨⟨i, hi, rfl⟩, hne⟩ := he
      exact h ⟨hi, hne⟩

/-! ## Bytes -/

@[simp] theorem leBytes_length (n v : Nat) : (leBytes n v).length = n := by
  induction n generalizing v with
  | zero => rfl
  | succ n ih => simp [leBytes, ih]

@[simp] theorem beBytes_length (n v : Nat) : (beBytes n v).length = n := by simp [beBytes]

@[simp] theorem padTo_length (n : Nat) (bs : List Byte) : (padTo n bs).length = n := by
  simp [padTo]

/-- The bytes of a number spell it modulo their range. -/
@[simp] theorem fromLe_leBytes (n v : Nat) : fromLe (leBytes n v) = v % 256 ^ n := by
  induction n generalizing v with
  | zero => simp [leBytes, fromLe, Nat.mod_one]
  | succ n ih =>
    have h8 : (2 : Nat) ^ 8 = 256 := by norm_num
    rw [leBytes, fromLe, ih, BitVec.toNat_ofNat, h8, Nat.pow_succ, Nat.mul_comm (256 ^ n) 256, Nat.mod_mul]

@[simp] theorem fromBe_beBytes (n v : Nat) : fromBe (beBytes n v) = v % 256 ^ n := by
  simp [fromBe, beBytes]

/-- Bytes are spelled again by the number that they spell. -/
theorem leBytes_fromLe (bs : List Byte) : leBytes bs.length (fromLe bs) = bs := by
  induction bs with
  | nil => rfl
  | cons b t ih =>
    have hb : b.toNat < 256 := b.isLt
    have h1 : (b.toNat + 256 * fromLe t) / 256 = fromLe t := by omega
    have h2 : BitVec.ofNat 8 (b.toNat + 256 * fromLe t) = b := by
      apply BitVec.eq_of_toNat_eq
      rw [BitVec.toNat_ofNat]
      omega
    simp only [List.length_cons, leBytes, fromLe, h1, h2, ih]

/-! ## Page memory -/

/-- Storing the enabled bytes from an address on, read back. -/
theorem get_writeCells (m : List Host.Cell) (a : Nat) (bytes : List (Option Byte)) (x : Nat) :
    Table.get unlistedByte (writeCells m a bytes) x =
      if a ≤ x ∧ x < a + bytes.length then ((bytes.getD (x - a) none).getD (Table.get unlistedByte m x))
      else Table.get unlistedByte m x := by
  induction bytes generalizing m a with
  | nil => simp [writeCells]
  | cons b t ih =>
    cases b with
    | none =>
      simp only [writeCells, ih, List.length_cons]
      by_cases hx : x = a
      · subst hx; simp
      · by_cases h : a + 1 ≤ x ∧ x < a + 1 + t.length
        · have h' : a ≤ x ∧ x < a + (t.length + 1) := by omega
          obtain ⟨n, hn⟩ : ∃ n, x - a = n + 1 := ⟨x - a - 1, by omega⟩
          have hn' : x - (a + 1) = n := by omega
          simp [h, h', hn, hn']
        · have h' : ¬(a ≤ x ∧ x < a + (t.length + 1)) := by omega
          rw [if_neg h, if_neg h']
    | some b =>
      simp only [writeCells, ih, List.length_cons, Table.get_set]
      by_cases hx : x = a
      · subst hx; simp
      · have hx' : ¬ a = x := fun e => hx e.symm
        by_cases h : a + 1 ≤ x ∧ x < a + 1 + t.length
        · have h' : a ≤ x ∧ x < a + (t.length + 1) := by omega
          obtain ⟨n, hn⟩ : ∃ n, x - a = n + 1 := ⟨x - a - 1, by omega⟩
          have hn' : x - (a + 1) = n := by omega
          simp [h, h', hn, hn', hx']
        · have h' : ¬(a ≤ x ∧ x < a + (t.length + 1)) := by omega
          rw [if_neg h, if_neg h', if_neg hx']

/-- Storing bytes keeps page memory canonical. -/
theorem wf_writeCells {m : List Host.Cell} (h : Memory.wf m = true) (a : Nat) (bytes : List (Option Byte)) :
    Memory.wf (writeCells m a bytes) = true := by
  induction bytes generalizing m a with
  | nil => exact h
  | cons b t ih =>
    cases b with
    | none => exact ih h _
    | some b => exact ih (Table.wf_set h a b) _

/-- A write of the Order Unit keeps page memory canonical. -/
theorem wf_controlWrite {s : State} (h : Memory.wf s.mem = true) (a : Nat) (bytes : List (Option Byte)) :
    Memory.wf (controlWrite a bytes s).mem = true := wf_writeCells h a bytes

/-- A write of the Memory Port keeps page memory canonical. -/
theorem wf_portWrite {s : State} (h : Memory.wf s.mem = true) (a : Nat) (bytes : List (Option Byte)) :
    Memory.wf (portWrite a bytes s).mem = true := by
  unfold portWrite
  split
  · exact wf_writeCells h a bytes
  · exact h

/-- What a write of the Order Unit leaves at an address. -/
theorem readByte_controlWrite (s : State) (a : Nat) (bytes : List (Option Byte)) (x : Nat) :
    readByte (controlWrite a bytes s) x =
      if a ≤ x ∧ x < a + bytes.length then (bytes.getD (x - a) none).getD (readByte s x) else readByte s x :=
  get_writeCells s.mem a bytes x

/-! ## Records -/

theorem frameOf_setFrame (s : State) (f g : Nat) (e : FrameEntry) :
    frameOf (setFrame f e s) g = if f = g then e else frameOf s g := Table.get_set ..

theorem jobOf_setJob (s : State) (j k : Nat) (r : Job) : jobOf (setJob j r s) k = if j = k then r else jobOf s k :=
  Table.get_set ..

theorem pageOf_setPage (s : State) (p q : Nat) (r : Option Page) : pageOf (setPage p r s) q = if p = q then r else pageOf s q :=
  Table.get_set ..

theorem accountOf_setAccount (s : State) (a b : Nat) (r : Account) :
    accountOf (setAccount a r s) b = if a = b then r else accountOf s b := Table.get_set ..

theorem slotOf_setSlot (s : State) (n m : Plane) (r : Slot) : slotOf (setSlot n r s) m = if n = m then r else slotOf s m :=
  Quad.get_set ..

/-- What an update of every frame leaves in an entry. -/
theorem frameOf_updateFrames {s : State} (h : Table.wf FrameEntry.free s.frames.entries = true)
    (g : Nat → FrameEntry → FrameEntry) (hg : ∀ f, g f FrameEntry.free = FrameEntry.free) (f : Nat) :
    frameOf (updateFrames g s) f = g f (frameOf s f) := Table.get_update h g hg f

/-! ## Events, answers, takes -/

/-- Posting an event: lost, written as OVERRUN, or written as itself. -/
theorem postEvent_cases (e : Event) (s : State) :
    (256 ≤ occupancy s ∧ postEvent e s = { s with events := { s.events with nextSeq := s.events.nextSeq + 1 } }) ∨
    (occupancy s < 256 ∧ ∃ shown, shown = (if occupancy s = 255 then Event.overrun e.kind e.isAlarm else e) ∧
      postEvent e s = placeAccess (.event ⟨s.events.produce, s.events.nextSeq, s.time, shown⟩)
        { s with events := { s.events with nextSeq := s.events.nextSeq + 1, produce := s.events.produce + 1 } }) := by
  unfold postEvent
  by_cases h : occupancy s ≥ 256
  · exact .inl ⟨h, by simp [h]⟩
  · exact .inr ⟨by omega, _, rfl, by simp [h]⟩

/-- Final answers placed one after another stand at the control queue's tail in that order. -/
theorem foldl_placeAnswer (f : Deferred → Answer) (l : List Deferred) (s : State) :
    l.foldl (fun t d => placeAnswer d.index (f d) t) s =
      { s with port := { s.port with control := s.port.control ++ l.map fun d => .answer d.index (f d) } } := by
  induction l generalizing s with
  | nil => simp
  | cons d l ih => rw [List.foldl_cons, ih]; simp [placeAnswer, placeAccess]

/-- Deferred orders that are answered: their answers wait in the order of the list, the list keeps the others, and nothing else changes. -/
theorem answerDeferred_eq (p : Deferred → Bool) (f : Deferred → Answer) (s : State) :
    answerDeferred p f s =
      { s with
        port := { s.port with control := s.port.control ++ (s.orders.deferred.filter p).map fun d => .answer d.index (f d) }
        orders := { s.orders with deferred := s.orders.deferred.filter fun d => !p d } } := by
  simp [answerDeferred, foldl_placeAnswer]

/-- CLOSE JOB orders that are due are answered: their answers wait in the order of their take, they leave the list, and nothing else changes. -/
theorem answerCloses_eq (j : Nat) (code : Code) (s : State) :
    answerCloses j code s =
      { s with
        port := { s.port with control := s.port.control ++ (closesDue j s).map fun d => .answer d.index (.plain code 0) }
        orders := { s.orders with deferred := s.orders.deferred.diff (closesDue j s) } } := by
  simp [answerCloses, foldl_placeAnswer]

/-- A command that answers with a next state either did not occur or is a take of `f`, closed. -/
theorem taken_cases {f : State → Option State} {s t : State} (h : taken f s = .next t) :
    t = s ∨ (s.power = .on ∧ ∃ u, f s = some u ∧ t = closeTake u) := by
  unfold taken at h
  split at h
  · split at h
    · cases h; exact .inr ⟨‹_›, _, ‹_›, rfl⟩
    · cases h; exact .inl rfl
  · cases h; exact .inl rfl

/-- A take of `f` that occurs. -/
theorem taken_some {f : State → Option State} {s u : State} (hp : s.power = .on) (h : f s = some u) :
    taken f s = .next (closeTake u) := by
  simp [taken, hp, h]

/-- The take of an order that has been fetched. -/
theorem takeOrder_some {kind : Nat} {accepts : DeviceState → Bool} {act : List Nat → State → State × Answer} {s : State}
    {o : OrderSlot} (hf : fetchedOrder s = some o) (hk : o.kind = kind) :
    takeOrder kind accepts act s = some (answerAndAdvance (checked (commonChecks accepts o s) (fetchDone s) (act o.params))) := by
  simp [takeOrder, hf, hk]

/-- The take of an order: an order of the kind has been fetched, and it is answered. -/
theorem takeOrder_cases {kind : Nat} {accepts : DeviceState → Bool} {act : List Nat → State → State × Answer} {s t : State}
    (h : takeOrder kind accepts act s = some t) :
    ∃ o, fetchedOrder s = some o ∧ o.kind = kind ∧
      t = answerAndAdvance (checked (commonChecks accepts o s) (fetchDone s) (act o.params)) := by
  unfold takeOrder at h
  split at h
  · cases h
  · split at h
    · cases h; exact ⟨_, ‹_›, ‹_›, rfl⟩
    · cases h

/-- An order that a check refuses changes nothing; one that passes them all is carried out. -/
theorem checked_cases (checks : List (Bool × Answer)) (s : State) (act : State → State × Answer) :
    (∃ a, firstRefusal checks = some a ∧ checked checks s act = (s, a)) ∨
    (firstRefusal checks = none ∧ checked checks s act = act s) := by
  unfold checked
  split
  · exact .inl ⟨_, ‹_›, rfl⟩
  · exact .inr ⟨‹_›, rfl⟩

/-- No check refuses exactly when every check's condition is false. -/
theorem firstRefusal_none {checks : List (Bool × Answer)} : firstRefusal checks = none ↔ ∀ c ∈ checks, c.1 = false := by
  simp [firstRefusal]

/-- A fetched order that passes the common checks and its own answers with its act, and the take index advances. -/
theorem fetched_of_grant {s : State} {i : Index} (h : s.port.grant = some (.control (.fetch i))) :
    fetchedOrder s = some (decodeOrder (readBytes s (orderAddress i) 64)) := by
  simp [fetchedOrder, h]

/-! ## Supply frames -/

/-- Every byte as `linkChar` writes it has the right parity (R182). -/
theorem parityGood_linkChar (b : Byte) : parityGood (linkChar b) = true := by
  revert b
  decide +kernel

/-- A frame alone on the link, of the length of its kind, is read by its payload (R124, R182). -/
theorem decodeFrame_encodeFrame (kind : Byte) (payload : List Byte) (hl : payload.length < 256)
    (hk : (frameLength kind).any (· != payload.length) = false) :
    decodeFrame (encodeFrame kind payload) = decodePayload kind payload := by
  have hdata : ∀ bs : List Byte, (bs.map linkChar).map (·.data) = bs := by
    intro bs
    simp [linkChar, Function.comp_def]
  have hpar : ∀ bs : List Byte, (bs.map linkChar).all parityGood = true := by
    intro bs
    simp [List.all_map, Function.comp_def, parityGood_linkChar]
  have hlen : (BitVec.ofNat 8 payload.length).toNat = payload.length := by
    simp [Nat.mod_eq_of_lt hl]
  set body := kind :: BitVec.ofNat 8 payload.length :: payload with hbody
  have hb : body.length = payload.length + 2 := by simp [hbody]
  have hc : (beBytes 2 (crc16 body).toNat).length = 2 := by simp
  have hcrc : payloadNumber (body ++ beBytes 2 (crc16 body).toNat) (2 + payload.length) 2 = (crc16 body).toNat := by
    unfold payloadNumber
    rw [List.drop_left' (by omega), List.take_of_length_le (by omega), fromBe_beBytes]
    exact Nat.mod_eq_of_lt (by have := (crc16 body).isLt; omega)
  show decodeFrame ((startMarker :: body ++ beBytes 2 (crc16 body).toNat).map linkChar) = _
  simp only [List.cons_append, List.map_cons]
  rw [decodeFrame, if_pos (by simp [linkChar]), parityGood_linkChar]
  unfold decodeBody
  simp only [hdata]
  have h1 : ((body ++ beBytes 2 (crc16 body).toNat).getD 1 0).toNat = payload.length := by simp [hbody, hlen]
  have h0 : (body ++ beBytes 2 (crc16 body).toNat).getD 0 0 = kind := by simp [hbody]
  have hn : (body ++ beBytes 2 (crc16 body).toNat).length = payload.length + 4 := by simp [hb]
  have ht : (((body ++ beBytes 2 (crc16 body).toNat).map linkChar).take (payload.length + 4)).all parityGood = true := by
    rw [List.take_of_length_le (by simp [hb])]
    exact hpar _
  have hbt : (body ++ beBytes 2 (crc16 body).toNat).take (2 + payload.length) = body := List.take_left' (by omega)
  have hp : ((body ++ beBytes 2 (crc16 body).toNat).drop 2).take payload.length = payload := by
    simp [hbody]
  rw [h1, h0, hn, ht, hbt, hp, hcrc, hk]
  simp

end Sys2Proof.Machine
end

