-- ==== Sys2Proof/Laws/PerInstr.lean ====
section
/-! SUPPORT. Per-command statements about the commands as syntax. `Operands`: a well-formed command's operands lie in the ranges of R19 and R57. -/

namespace Sys2Proof.Laws

/-- A well-formed command is one whose transfer, if it carries one, starts on a line and has 1 to 8 lines (R19), and whose page slot, if it
carries one, is 0 to 31 (R57). -/
def Operands.Statement (i : Instr) : Prop :=
  i.wf = true →
    (∀ t, i = .transferAccept t → t.addr.toNat % 64 = 0 ∧ 1 ≤ t.access.lineCount ∧ t.access.lineCount ≤ 8) ∧
      ∀ p, i = .stallTimerExpiry p → p < 32

theorem Operands.powerOn (cut : ResetCut) : Operands.Statement (.powerOn cut) := fun _ => ⟨fun _ h => (nomatch h), fun _ h => (nomatch h)⟩
theorem Operands.warmReset (cut : ResetCut) : Operands.Statement (.warmReset cut) := fun _ => ⟨fun _ h => (nomatch h), fun _ h => (nomatch h)⟩
theorem Operands.transferAccept (t : Transfer) : Operands.Statement (.transferAccept t) := by
  intro h
  simp only [Instr.wf, Transfer.wf, Bool.and_eq_true, beq_iff_eq, decide_eq_true_eq] at h
  refine ⟨fun u hu => ?_, fun p hp => (nomatch hp)⟩
  cases hu
  exact ⟨h.1.1.1, h.1.1.2, h.1.2⟩
theorem Operands.memoryGrant : Operands.Statement .memoryGrant := fun _ => ⟨fun _ h => (nomatch h), fun _ h => (nomatch h)⟩
theorem Operands.linkAccessPerformed : Operands.Statement .linkAccessPerformed := fun _ => ⟨fun _ h => (nomatch h), fun _ h => (nomatch h)⟩
theorem Operands.scrubLinePerformed : Operands.Statement .scrubLinePerformed := fun _ => ⟨fun _ h => (nomatch h), fun _ h => (nomatch h)⟩
theorem Operands.orderFetch : Operands.Statement .orderFetch := fun _ => ⟨fun _ h => (nomatch h), fun _ h => (nomatch h)⟩
theorem Operands.unknownOrder : Operands.Statement .unknownOrder := fun _ => ⟨fun _ h => (nomatch h), fun _ h => (nomatch h)⟩
theorem Operands.bindFrames : Operands.Statement .bindFrames := fun _ => ⟨fun _ h => (nomatch h), fun _ h => (nomatch h)⟩
theorem Operands.releaseFrames : Operands.Statement .releaseFrames := fun _ => ⟨fun _ h => (nomatch h), fun _ h => (nomatch h)⟩
theorem Operands.setView : Operands.Statement .setView := fun _ => ⟨fun _ h => (nomatch h), fun _ h => (nomatch h)⟩
theorem Operands.openJob : Operands.Statement .openJob := fun _ => ⟨fun _ h => (nomatch h), fun _ h => (nomatch h)⟩
theorem Operands.closeJob : Operands.Statement .closeJob := fun _ => ⟨fun _ h => (nomatch h), fun _ h => (nomatch h)⟩
theorem Operands.purgeJob : Operands.Statement .purgeJob := fun _ => ⟨fun _ h => (nomatch h), fun _ h => (nomatch h)⟩
theorem Operands.definePage : Operands.Statement .definePage := fun _ => ⟨fun _ h => (nomatch h), fun _ h => (nomatch h)⟩
theorem Operands.ticketPage : Operands.Statement .ticketPage := fun _ => ⟨fun _ h => (nomatch h), fun _ h => (nomatch h)⟩
theorem Operands.unticketPage : Operands.Statement .unticketPage := fun _ => ⟨fun _ h => (nomatch h), fun _ h => (nomatch h)⟩
theorem Operands.dropPage : Operands.Statement .dropPage := fun _ => ⟨fun _ h => (nomatch h), fun _ h => (nomatch h)⟩
theorem Operands.setWeights : Operands.Statement .setWeights := fun _ => ⟨fun _ h => (nomatch h), fun _ h => (nomatch h)⟩
theorem Operands.setColourThreshold : Operands.Statement .setColourThreshold := fun _ => ⟨fun _ h => (nomatch h), fun _ h => (nomatch h)⟩
theorem Operands.setAccount : Operands.Statement .setAccount := fun _ => ⟨fun _ h => (nomatch h), fun _ h => (nomatch h)⟩
theorem Operands.setTariff : Operands.Statement .setTariff := fun _ => ⟨fun _ h => (nomatch h), fun _ h => (nomatch h)⟩
theorem Operands.rollPeriod : Operands.Statement .rollPeriod := fun _ => ⟨fun _ h => (nomatch h), fun _ h => (nomatch h)⟩
theorem Operands.creditAccount : Operands.Statement .creditAccount := fun _ => ⟨fun _ h => (nomatch h), fun _ h => (nomatch h)⟩
theorem Operands.readAccount : Operands.Statement .readAccount := fun _ => ⟨fun _ h => (nomatch h), fun _ h => (nomatch h)⟩
theorem Operands.probeSlot : Operands.Statement .probeSlot := fun _ => ⟨fun _ h => (nomatch h), fun _ h => (nomatch h)⟩
theorem Operands.readSlot : Operands.Statement .readSlot := fun _ => ⟨fun _ h => (nomatch h), fun _ h => (nomatch h)⟩
theorem Operands.setSupply : Operands.Statement .setSupply := fun _ => ⟨fun _ h => (nomatch h), fun _ h => (nomatch h)⟩
theorem Operands.setAttention : Operands.Statement .setAttention := fun _ => ⟨fun _ h => (nomatch h), fun _ h => (nomatch h)⟩
theorem Operands.start : Operands.Statement .start := fun _ => ⟨fun _ h => (nomatch h), fun _ h => (nomatch h)⟩
theorem Operands.startService : Operands.Statement .startService := fun _ => ⟨fun _ h => (nomatch h), fun _ h => (nomatch h)⟩
theorem Operands.endService : Operands.Statement .endService := fun _ => ⟨fun _ h => (nomatch h), fun _ h => (nomatch h)⟩
theorem Operands.keepalive : Operands.Statement .keepalive := fun _ => ⟨fun _ h => (nomatch h), fun _ h => (nomatch h)⟩
theorem Operands.recover : Operands.Statement .recover := fun _ => ⟨fun _ h => (nomatch h), fun _ h => (nomatch h)⟩
theorem Operands.eventWritePerformed : Operands.Statement .eventWritePerformed := fun _ => ⟨fun _ h => (nomatch h), fun _ h => (nomatch h)⟩
theorem Operands.headerWritePerformed : Operands.Statement .headerWritePerformed := fun _ => ⟨fun _ h => (nomatch h), fun _ h => (nomatch h)⟩
theorem Operands.stallTimerExpiry (page : Nat) : Operands.Statement (.stallTimerExpiry page) := by
  intro h
  refine ⟨fun t ht => (nomatch ht), fun p hp => ?_⟩
  cases hp
  simpa [Instr.wf] using h
theorem Operands.provisioningTimerExpiry : Operands.Statement .provisioningTimerExpiry := fun _ => ⟨fun _ h => (nomatch h), fun _ h => (nomatch h)⟩
theorem Operands.ctlrstPulseEnd : Operands.Statement .ctlrstPulseEnd := fun _ => ⟨fun _ h => (nomatch h), fun _ h => (nomatch h)⟩
theorem Operands.keepaliveExpiry : Operands.Statement .keepaliveExpiry := fun _ => ⟨fun _ h => (nomatch h), fun _ h => (nomatch h)⟩
theorem Operands.pfwChange (asserted : Bool) : Operands.Statement (.pfwChange asserted) := fun _ => ⟨fun _ h => (nomatch h), fun _ h => (nomatch h)⟩
theorem Operands.lineRawChange (line : Line) (level : Bool) : Operands.Statement (.lineRawChange line level) := fun _ => ⟨fun _ h => (nomatch h), fun _ h => (nomatch h)⟩
theorem Operands.lineSettleExpiry (line : Line) : Operands.Statement (.lineSettleExpiry line) := fun _ => ⟨fun _ h => (nomatch h), fun _ h => (nomatch h)⟩
theorem Operands.probeDelayExpiry (slot : Plane) : Operands.Statement (.probeDelayExpiry slot) := fun _ => ⟨fun _ h => (nomatch h), fun _ h => (nomatch h)⟩
theorem Operands.reprobeTimerExpiry (slot : Plane) : Operands.Statement (.reprobeTimerExpiry slot) := fun _ => ⟨fun _ h => (nomatch h), fun _ h => (nomatch h)⟩
theorem Operands.supplyFrameSent (slot : Plane) : Operands.Statement (.supplyFrameSent slot) := fun _ => ⟨fun _ h => (nomatch h), fun _ h => (nomatch h)⟩
theorem Operands.supplyFrameReceived (slot : Plane) (chars : List LinkChar) : Operands.Statement (.supplyFrameReceived slot chars) := fun _ => ⟨fun _ h => (nomatch h), fun _ h => (nomatch h)⟩
theorem Operands.answerWindowExpiry (slot : Plane) : Operands.Statement (.answerWindowExpiry slot) := fun _ => ⟨fun _ h => (nomatch h), fun _ h => (nomatch h)⟩
theorem Operands.storeWriteDone (readsBack : Bool) : Operands.Statement (.storeWriteDone readsBack) := fun _ => ⟨fun _ h => (nomatch h), fun _ h => (nomatch h)⟩
theorem Operands.resetnRelease : Operands.Statement .resetnRelease := fun _ => ⟨fun _ h => (nomatch h), fun _ h => (nomatch h)⟩
theorem Operands.powerLoss (cut : ResetCut) : Operands.Statement (.powerLoss cut) := fun _ => ⟨fun _ h => (nomatch h), fun _ h => (nomatch h)⟩

end Sys2Proof.Laws
end

