-- ==== Sys2Proof/Tests/Slice0.lean ====
section
/-! SUPPORT. Small tests of the model, each about one step or one operation, and for every statement with hypotheses a witness: a concrete state and
operands that meet them. Expected values are worked by hand from the spec's rules; the rule stands beside each. -/

namespace Sys2Proof.Tests

open Sys2Proof Sys2Proof.Machine

set_option Elab.async false

/-! ## Small states -/

/-- The cells of bytes that stand from an address on. -/
def cellsAt : Nat → List Byte → List Host.Cell
  | _, [] => []
  | a, b :: t => if b = 0 then cellsAt (a + 1) t else (a, b) :: cellsAt (a + 1) t

/-- A state with an order fetched at its take index. -/
def withOrder (kind : Nat) (ps : List Nat) (s : State) : State :=
  { s with
    mem := cellsAt (orderAddress s.orders.take) (encodeOrder ⟨kind, orderLength kind, orderTurn s.orders.take, ps⟩)
    port := { s.port with grant := some (.control (.fetch s.orders.take)), control := [] }
    orders := { s.orders with fetching := true, heldPost := s.orders.take + 1 } }

/-- The order is ready to be taken, as a test. -/
def ready (kind : Nat) (ps : List Nat) (s : State) : Bool :=
  decide (s.power = .on) && decide (fetchedOrder s = some ⟨kind, orderLength kind, orderTurn s.orders.take, ps⟩)

theorem ready_of {kind : Nat} {ps : List Nat} {s : State} (h : ready kind ps s = true) : OrderReady kind ps s := by
  simp only [ready, Bool.and_eq_true, decide_eq_true_eq] at h
  exact ⟨h.1, h.2⟩

/-- The state that a command answers with. -/
def after (c : Instr) (s : State) : State :=
  match exec c s with
  | .next t => t
  | .fault _ => s
  | .refused _ => s

/-- The code and detail of the first answer placed. -/
def answerIn (s : State) : Option (Code × Nat) :=
  s.port.control.findSome? fun a =>
    match a with
    | .answer _ r => some (r.code, r.detail)
    | _ => none

/-- The answers that wait to be written, in their order. -/
def answersIn (s : State) : List (Nat × Code) :=
  s.port.control.filterMap fun a =>
    match a with
    | .answer i r => some (i.toNat, r.code)
    | _ => none

/-- The data of the first answer placed. -/
def dataIn (s : State) : Option AnswerData :=
  s.port.control.findSome? fun a =>
    match a with
    | .answer _ r => r.data
    | _ => none

/-- The events that wait to be written, in their order. -/
def eventsIn (s : State) : List Event :=
  s.port.control.filterMap fun a =>
    match a with
    | .event r => some r.event
    | _ => none

/-- The answer to an order with these parameters on a state; none if the order is not ready. -/
def answerTo (kind : Nat) (c : Instr) (base : State) (ps : List Nat) : Option (Code × Nat) :=
  let s := withOrder kind ps base
  if ready kind ps s then answerIn (after c s) else none

/-- The answers to an order on a list of states and parameters. -/
def answers (kind : Nat) (c : Instr) (cases : List (State × List Nat)) : List (Option (Code × Nat)) :=
  cases.map fun e => answerTo kind c e.1 e.2

/-- RUN with a memory size of 64, account 17 ACTIVE with a limit of 100, job 2 ACTIVE, PRIVATE, at generation 5, with frames 8 and 9, and every slot
UNKNOWN behind a closed door. -/
def running : State :=
  { State.reset with
    sup := { State.reset.sup with device := .run, cold := false, provTimer := none, keepalive := some 0 }
    frames := { entries := [(0, ⟨.control, false⟩), (8, ⟨.bound ⟨2, 0, none⟩, false⟩), (9, ⟨.bound ⟨2, 1, none⟩, true⟩)], size := some 64 }
    jobs := [(2, ⟨.active ⟨17, .priv, true⟩, 5, .loaded ⟨0⟩, 2, 0, 0⟩)]
    keyDraws := 1
    lines := ⟨Quad.all true, true, false⟩
    supply := { State.reset.supply with
      slots := Quad.all { Slot.absentFresh with state := .unknown }, presence := Quad.all true, doorClosed := true }
    meter := { State.reset.meter with accounts := [(17, ⟨⟨.active, 100⟩, Counts.zero, 0, 0⟩)] } }

/-- The state in a device state. -/
def inState (d : DeviceState) (s : State) : State := { s with sup := { s.sup with device := d } }

/-- A MONO page of 256 pixels, 64 bytes, at the start of frame 8. -/
def page : Page :=
  { state := .staged, job := 2, generation := 5, number := 7, sizeClass := 0, colour := .mono, pixels := 256,
    starts := ⟨8388608, 0, 0, 0⟩, highWater := Quad.all 0, gapPosted := false, sums := Quad.all 0 }

/-- `running` with that page in slot 3, in a page state, under an account that holds what the page state says. -/
def paged (st : PageState) : State :=
  { running with
    frames := { entries := [(0, ⟨.control, false⟩), (8, ⟨.bound ⟨2, 0, some 3⟩, false⟩), (9, ⟨.bound ⟨2, 1, none⟩, true⟩)], size := some 64 }
    pages := [(3, some { page with state := st })]
    meter := { running.meter with
      accounts := [(17, ⟨⟨.active, 100⟩, Counts.zero,
        match st with
        | .printing c _ => c.provisional
        | _ => 0,
        match st with
        | .ticketed c => c.provisional
        | _ => 0⟩)]
      reservations :=
        match st with
        | .ticketed _ => 1
        | .printing _ _ => 1
        | _ => 0 } }

/-- The capture of the default tariff of size class 0 for a MONO page (R100). -/
def capture : Capture := ⟨1, 4, 1⟩

/-- `paged` with its page in print and its job CLOSING on order 9. -/
def closing : State :=
  { paged (.printing capture 0) with
    jobs := [(2, ⟨.closing ⟨17, .priv, true⟩ 9, 5, .loaded ⟨0⟩, 2, 0, 0⟩)]
    orders := { running.orders with deferred := [⟨9, .closeJob 2⟩] } }

/-- A scrub line being performed: frame 8 at a line, with frame 9 behind it or not. -/
def scrubbing (line : Nat) (live more : Bool) : State :=
  { running with
    mem := [(8388608 + 64 * line + 63, 7), (8388608 + 64 * line + 64, 8)]
    frames := { entries := [(0, ⟨.control, false⟩), (8, ⟨.scrubbing, false⟩)] ++ (if more then [(9, ⟨.retired, false⟩)] else []), size := some 64 }
    jobs := []
    scrub := ⟨if more then [8, 9] else [8], some line, false, 3, 2⟩
    port := { grant := some (.scrub 8 line live), guardCount := 0, control := [] } }

/-- A state with eight deferred orders. -/
def crowded (s : State) : State :=
  { s with orders := { s.orders with deferred := (List.range 8).map fun i => ⟨BitVec.ofNat 16 (i + 1), .start⟩ } }

/-- A state with an account in use. -/
def withAccount (state : AccountState) (limit : Nat) (s : State) : State :=
  { s with meter := { s.meter with accounts := [(17, ⟨⟨state, limit⟩, ⟨50, 0, 50, 0, 0⟩, 0, 0⟩)] } }

/-- A state whose journal has a number of reservations. -/
def withReservations (n : Nat) (s : State) : State := { s with meter := { s.meter with reservations := n } }

/-- A state with one slot record. -/
def withSlot (n : Plane) (r : Slot) (s : State) : State := setSlot n r s

/-! ## Orders: what each check answers, at the bounds of its range -/

/-- BIND FRAMES (R14). Also a witness of BindFramesOrder, clause by clause. -/
theorem witness_bindFrames :
    answers 1 .bindFrames ([[2, 5, 10, 2, 2], [16, 5, 10, 1, 2], [2, 5, 10, 0, 2], [2, 5, 10, 4097, 2], [2, 5, 0, 1, 2], [2, 5, 64, 1, 2],
        [2, 5, 63, 2, 2], [2, 5, 63, 1, 4095], [2, 4, 10, 1, 2], [3, 0, 10, 1, 2], [2, 5, 7, 2, 2], [2, 5, 10, 2, 4095],
        [2, 5, 10, 1, 1]].map (running, ·)) =
      [some (.done, 0), some (.range, 1), some (.range, 4), some (.range, 4), some (.range, 3), some (.range, 3), some (.range, 4),
        some (.done, 0), some (.stale, 2), some (.state, 1), some (.state, 3), some (.overlap, 5), some (.overlap, 5)] := by
  decide +kernel

/-- RELEASE FRAMES (R16). Also a witness of ReleaseFramesOrder. -/
theorem witness_releaseFrames :
    answers 2 .releaseFrames (([[2, 5, 8, 2], [16, 5, 8, 2], [2, 5, 8, 0], [2, 5, 8, 4097], [2, 5, 4095, 2], [2, 6, 8, 2], [3, 0, 8, 1],
        [2, 5, 8, 3]].map (running, ·)) ++ [(paged .staged, [2, 5, 8, 1]), (paged .staged, [2, 5, 9, 1])]) =
      [some (.done, 0), some (.range, 1), some (.range, 4), some (.range, 4), some (.range, 4), some (.stale, 2), some (.state, 1),
        some (.state, 3), some (.busy, 3), some (.done, 0)] := by
  decide +kernel

/-- Both frames released under a PRIVATE job join an empty scrub queue, the first SCRUBBING (R17, R145, R146). -/
theorem test_releaseFrames_retires :
    (let t := after .releaseFrames (withOrder 2 [2, 5, 8, 2] running)
     (t.scrub.queue, t.scrub.progress, (frameOf t 8).state, frameOf t 9, (jobOf t 2).bound)) =
      ([8, 9], some 0, .scrubbing, ⟨.retired, false⟩, 0) := by
  decide +kernel

/-- SET VIEW (R9, R10). Also a witness of SetViewOrder. -/
theorem witness_setView :
    answers 3 .setView ([[5, 0, 0], [4, 8, 0], [4, 7, 5], [1, 1, 1], [3, 1, 0], [1, 2, 4], [0, 0, 3], [4, 7, 3], [3, 5, 3], [1, 2, 3],
        [1, 1, 3], [3, 1, 2]].map (running, ·)) =
      [some (.range, 1), some (.range, 2), some (.range, 3), some (.range, 3), some (.range, 3), some (.range, 3), some (.pinned, 2),
        some (.pinned, 2), some (.pinned, 2), some (.pinned, 2), some (.done, 0), some (.done, 0)] := by
  decide +kernel

/-- OPEN JOB (R43). Also a witness of OpenJobOrder. -/
theorem witness_openJob :
    answers 4 .openJob ([[17, 1, 1], [256, 1, 0], [17, 2, 0], [17, 0, 2], [16, 0, 0], [255, 1, 1]].map (running, ·) ++
        [(inState .service running, [17, 1, 0]), (inState .service running, [17, 0, 1]),
         ({ running with jobs := (List.range 16).map fun j => (j, ⟨.active ⟨17, .shared, false⟩, 1, .empty, 0, 0, 0⟩) }, [17, 0, 0])]) =
      [some (.done, 0), some (.range, 1), some (.range, 2), some (.range, 3), some (.account, 1), some (.account, 1), some (.mode, 2),
        some (.done, 0), some (.busy, 0)] := by
  decide +kernel

/-- The lowest slot whose key slot is EMPTY is opened, past one whose key drains, with the next generation and a key that no other slot holds
(R44, R45). -/
theorem test_openJob_opens :
    (let t := after .openJob (withOrder 4 [17, 1, 0] { running with jobs := (0, ⟨.free, 65535, .draining ⟨7⟩, 0, 0, 0⟩) :: running.jobs })
     (jobOf t 0 |>.state, jobOf t 1, t.keyDraws)) =
      (.free, ⟨.active ⟨17, .priv, true⟩, 1, .loaded ⟨1⟩, 0, 0, 0⟩, 2) := by
  decide +kernel

/-- CLOSE JOB (R47, R48). Also a witness of CloseJobOrder. -/
theorem witness_closeJob :
    answers 5 .closeJob ([[16, 5], [2, 4], [3, 0], [2, 5]].map (running, ·) ++
        [(paged (.printing capture 0), [2, 5]), (crowded (paged (.printing capture 0)), [2, 5]), (crowded (paged .staged), [2, 5])]) =
      [some (.range, 1), some (.stale, 2), some (.state, 1), some (.done, 0), some (.pending, 0), some (.busy, 0), some (.done, 0)] := by
  decide +kernel

/-- PURGE JOB (R51). With `canonical_running`, a witness of PurgeJobOrder. -/
theorem witness_purgeJob :
    answers 6 .purgeJob ([[16, 5], [2, 4], [3, 0], [2, 5]].map (running, ·) ++ [(paged (.printing capture 0), [2, 5])]) =
      [some (.range, 1), some (.stale, 2), some (.state, 1), some (.done, 0), some (.done, 0)] := by
  decide +kernel

/-- A purged page in print is settled ABORTED at its provisional charge; its job is FREE, its key erased (R51, R53, R54, R79). -/
theorem test_purgeJob_charges :
    (let t := after .purgeJob (withOrder 6 [2, 5] (paged (.printing capture 0)))
     ((pageOf t 3).isNone, (accountOf t 17).counts.settled, (accountOf t 17).inflight, (jobOf t 2).key, t.store.journal, t.scrub.queue)) =
      (true, 1, 0, .empty, [⟨1, .settle 17 0 .mono 1 .aborted⟩], [8, 9]) := by
  decide +kernel

/-- PURGE JOB of a CLOSING job: its page's settlement and JOB_RELEASED with frames and tallies, the deferred close DONE, its own answer last (R51, R55). -/
theorem test_purgeJob_answers :
    (let t := after .purgeJob (withOrder 6 [2, 5] closing)
     ((eventsIn t).map Event.kind, (eventsIn t).getLast?, answersIn t, t.orders.deferred, t.orders.take, (accountOf t 17).counts.monoPages)) =
      ([2, 6], some (.jobReleased 2 5 17 .purge 2 0 0 1), [(9, .done), (0, .done)], [], 1, 1) := by
  decide +kernel

/-- DEFINE PAGE (R59). Also a witness of DefinePageOrder, plane checks included. -/
theorem witness_definePage :
    answers 7 .definePage ([[2, 5, 7, 0, 0, 256, 8388608, 0, 0, 0], [2, 5, 7, 3, 1, 256, 8388608, 8388672, 8388736, 8388800],
        [16, 5, 7, 0, 0, 256, 8388608, 0, 0, 0], [2, 5, 7, 4, 0, 256, 8388608, 0, 0, 0], [2, 5, 7, 0, 2, 256, 8388608, 0, 0, 0],
        [2, 5, 7, 0, 0, 0, 8388608, 0, 0, 0], [2, 5, 7, 0, 0, 268435457, 8388608, 0, 0, 0], [2, 5, 7, 0, 0, 256, 67108864, 0, 0, 0],
        [2, 5, 7, 0, 1, 256, 8388608, 8388672, 67108801, 8388800], [2, 4, 7, 0, 0, 256, 8388608, 0, 0, 0],
        [3, 0, 7, 0, 0, 256, 8388608, 0, 0, 0], [2, 5, 7, 0, 0, 256, 10485760, 0, 0, 0],
        [2, 5, 7, 0, 1, 256, 8388608, 8388672, 8388736, 10485697], [2, 5, 7, 0, 1, 256, 8388608, 8388671, 8388736, 8388800]].map (running, ·) ++
        [(paged .staged, [2, 5, 7, 0, 0, 256, 8388608, 0, 0, 0]),
         ({ running with pages := (List.range 32).map fun i => (i, some page) }, [2, 5, 7, 0, 0, 256, 8388608, 0, 0, 0])]) =
      [some (.done, 0), some (.done, 0), some (.range, 1), some (.range, 4), some (.range, 5), some (.range, 6), some (.range, 6),
        some (.range, 7), some (.range, 9), some (.stale, 2), some (.state, 1), some (.overlap, 7), some (.overlap, 10),
        some (.overlap, 8), some (.overlap, 7), some (.busy, 0)] := by
  decide +kernel

/-- TICKET PAGE (R62, R63). Also a witness of TicketPageOrder. -/
theorem witness_ticketPage :
    answers 8 .ticketPage ([[2, 5, 3], [16, 5, 3], [2, 5, 32], [2, 4, 3], [3, 0, 3], [2, 5, 4]].map (paged .staged, ·) ++
        [(paged (.ticketed capture), [2, 5, 3]), (paged (.withheld .mode 0), [2, 5, 3]),
         (withAccount .suspended 100 (paged .staged), [2, 5, 3]), (withAccount .active 50 (paged .staged), [2, 5, 3]),
         (withAccount .active 51 (paged .staged), [2, 5, 3]), (withSlot 0 Slot.absentFresh (paged .staged), [2, 5, 3]),
         (withReservations 64 (paged .staged), [2, 5, 3]), (withReservations 63 (paged .staged), [2, 5, 3])]) =
      [some (.done, 0), some (.range, 1), some (.range, 3), some (.stale, 2), some (.state, 1), some (.state, 3), some (.state, 3),
        some (.late, 3), some (.account, 0), some (.allowance, 0), some (.done, 0), some (.supply, 0), some (.meter, 0), some (.done, 0)] := by
  decide +kernel

/-- UNTICKET PAGE (R62, R64). Also a witness of UnticketAndDropPageOrders. -/
theorem witness_unticketPage :
    answers 9 .unticketPage ([[2, 5, 3], [16, 5, 3], [2, 5, 32], [2, 4, 3], [3, 0, 3], [2, 5, 4]].map (paged (.ticketed capture), ·) ++
        [(paged .staged, [2, 5, 3]), (paged (.printing capture 0), [2, 5, 3])]) =
      [some (.done, 0), some (.range, 1), some (.range, 3), some (.stale, 2), some (.state, 1), some (.state, 3), some (.state, 3),
        some (.late, 3)] := by
  decide +kernel

/-- DROP PAGE (R62, R65). Also a witness of UnticketAndDropPageOrders. -/
theorem witness_dropPage :
    answers 10 .dropPage [(paged .staged, [2, 5, 3]), (paged (.ticketed capture), [2, 5, 3]), (paged (.printing capture 0), [2, 5, 3])] =
      [some (.done, 0), some (.done, 0), some (.busy, 3)] := by
  decide +kernel

/-- SET WEIGHTS and SET COLOUR THRESHOLD (R93, R94). Also a witness of CoverageOrders. -/
theorem witness_coverageOrders :
    (answers 11 .setWeights ([[3, 65535, 255], [0, 0, 0], [4, 1, 1], [0, 65536, 0], [0, 1, 256]].map (running, ·)),
     answers 12 .setColourThreshold ([[65535], [65536], [0]].map (running, ·))) =
      ([some (.done, 0), some (.done, 0), some (.range, 1), some (.range, 2), some (.range, 3)],
       [some (.done, 0), some (.range, 1), some (.done, 0)]) := by
  decide +kernel

/-- SET ACCOUNT and SET TARIFF (R100, R102). Also a witness of SetAccountAndTariffOrders. -/
theorem witness_setAccountAndTariff :
    (answers 13 .setAccount ([[255, 2, 16777215], [256, 1, 0], [17, 3, 0], [17, 1, 16777216]].map (running, ·)),
     answers 14 .setTariff ([[3, 255, 255], [4, 1, 1], [0, 0, 1], [0, 1, 0], [0, 5, 4], [0, 5, 5]].map (running, ·))) =
      ([some (.done, 0), some (.range, 1), some (.range, 2), some (.range, 3)],
       [some (.done, 0), some (.range, 1), some (.range, 2), some (.range, 3), some (.range, 3), some (.done, 0)]) := by
  decide +kernel

/-- CREDIT ACCOUNT and ROLL PERIOD (R103, R104). Also a witness of CreditAndRollOrders. -/
theorem witness_creditAndRoll :
    (answers 16 .creditAccount ([[17, 16777215], [256, 1], [17, 0], [17, 16777216]].map (running, ·) ++ [(withReservations 64 running, [17, 1])]),
     answers 15 .rollPeriod [(running, []), (withReservations 63 running, []), (withReservations 64 running, [])],
     Table.wf Account.blank running.meter.accounts) =
      ([some (.done, 0), some (.range, 1), some (.range, 2), some (.range, 2), some (.meter, 0)],
       [some (.done, 0), some (.done, 0), some (.meter, 0)], true) := by
  decide +kernel

/-- A credit beyond settled credits what is settled, and leaves inflight and held (R103). -/
theorem test_creditAccount_floor :
    (let t := after .creditAccount (withOrder 16 [17, 60] (withAccount .active 100 running))
     ((accountOf t 17).counts.settled, (accountOf t 17).counts.lifetimeClicks, t.store.journal)) = (0, 50, [⟨1, .credit 17 50⟩]) := by
  decide +kernel

/-- READ ACCOUNT and READ SLOT (R105, R141). Also a witness of ReadOrders. -/
theorem witness_reads :
    (answers 17 .readAccount ([[255, 2], [17, 0], [17, 1], [256, 0], [17, 3]].map (running, ·)),
     answers 19 .readSlot ([[3], [4]].map (running, ·))) =
      ([some (.done, 0), some (.done, 0), some (.done, 0), some (.range, 1), some (.range, 2)], [some (.done, 0), some (.range, 1)]) := by
  decide +kernel

/-- PROBE SLOT and SET SUPPLY (R140, R142). Also a witness of ProbeSlotAndSetSupplyOrders. -/
theorem witness_probeAndSetSupply :
    (answers 18 .probeSlot [(running, [3]), (running, [4]), (withSlot 0 Slot.absentFresh running, [0]),
       ({ running with supply := { running.supply with doorClosed := false } }, [0]), (crowded running, [0])],
     answers 20 .setSupply ([[4096, 1000], [1, 0], [0, 0], [4097, 0], [64, 1001]].map (running, ·))) =
      ([some (.pending, 0), some (.range, 1), some (.state, 1), some (.state, 1), some (.busy, 0)],
       [some (.done, 0), some (.done, 0), some (.range, 1), some (.range, 1), some (.range, 2)]) := by
  decide +kernel

/-- SET ATTENTION (R167). Also a witness of SetAttentionOrder. -/
theorem witness_setAttention :
    answers 21 .setAttention ([[0], [1], [2], [3], [4], [5]].map (running, ·)) =
      [some (.done, 0), some (.done, 0), some (.done, 0), some (.done, 0), some (.done, 0), some (.range, 1)] := by
  decide +kernel

/-- START (R170). Also a witness of DeviceStateOrders. -/
theorem witness_start :
    answers 22 .start ([[64, 100, 1], [4096, 10000, 60], [63, 100, 1], [4097, 100, 1], [64, 99, 1], [64, 10100, 1], [64, 150, 1], [64, 100, 0],
        [64, 100, 61]].map (inState .provision running, ·) ++
        [({ State.reset with meter := { State.reset.meter with foldReported := false } }, [64, 100, 1]),
         (crowded { State.reset with meter := { State.reset.meter with foldReported := false } }, [64, 100, 1]),
         ({ State.reset with sup := { State.reset.sup with startWaiting := some 0 } }, [64, 100, 1])]) =
      [some (.done, 0), some (.done, 0), some (.range, 1), some (.range, 1), some (.range, 2), some (.range, 2), some (.range, 2),
        some (.range, 3), some (.range, 3), some (.pending, 0), some (.busy, 0), some (.state, 0)] := by
  decide +kernel

/-- START SERVICE, END SERVICE and RECOVER (R171, R172, R175). Also a witness of DeviceStateOrders. -/
theorem witness_deviceStates :
    (answers 23 .startService [(State.reset, []), (inState .provision running, [])],
     answers 24 .endService [(inState .service running, [])], answers 26 .recover [(inState .lockdown running, [])]) =
      ([some (.done, 0), some (.state, 0)], [some (.done, 0)], [some (.done, 0)]) := by
  decide +kernel

/-- `running` a number of milliseconds after the keepalive reference. -/
def runningAt (ms : Nat) : State := { running with time := BitVec.ofNat 32 ms }

/-- KEEPALIVE (R171, R173): early below 500 of 1000 ms, in time from there to 1000. Also a witness of SupervisionTimersAndKeepalive. -/
theorem witness_keepalive :
    answers 25 .keepalive [(runningAt 0, []), (runningAt 499, []), (runningAt 500, []), (runningAt 1000, []), (runningAt 1001, []),
        (inState .service running, [])] =
      [some (.state, 0), some (.state, 0), some (.done, 0), some (.done, 0), some (.mode, 0), some (.done, 0)] := by
  decide +kernel

/-- `running` with jobs 1 and 2 CLOSING on orders 7 and 9, that of slot 1 taken first or last, and a PROBE SLOT taken between them. -/
def twoClosing (rising : Bool) (d : DeviceState) : State :=
  { inState d running with
    port := { running.port with control := [] }
    jobs := [(1, ⟨.closing ⟨17, .shared, false⟩ (if rising then 7 else 9), 3, .empty, 0, 0, 0⟩),
      (2, ⟨.closing ⟨17, .priv, true⟩ (if rising then 9 else 7), 5, .loaded ⟨0⟩, 2, 0, 0⟩)]
    orders := { running.orders with
      take := 12
      deferred := [⟨7, .closeJob (if rising then 1 else 2)⟩, ⟨8, .probeSlot 0⟩, ⟨9, .closeJob (if rising then 2 else 1)⟩] } }

/-- What waits to be written, in its order: an event as 100 and its kind, an answer as its ring index. -/
def queueIn (s : State) : List Nat :=
  s.port.control.filterMap fun a =>
    match a with
    | .event r => some (100 + r.event.kind)
    | .answer i _ => some i.toNat
    | _ => none

/-- END SERVICE and LOCKDOWN answer each job slot's deferred close before they purge the next slot (R51, R56, R172, R174); one whose slot comes before that of
a close taken earlier waits for it (R159, log entry 39). LOCKDOWN answers the others then, and STATE_CHANGE comes last. Witnesses of DeviceStateOrders and
SupervisionTimersAndKeepalive. -/
theorem witness_deferredCloses :
    (let ended := fun (rising : Bool) => after .endService (withOrder 24 [] (twoClosing rising .service))
     let lock := fun (rising : Bool) => enterLockdown .keepaliveEarly (twoClosing rising .run)
     ([ended true, ended false, lock true, lock false].map queueIn, (ended true).orders.deferred.map (·.index.toNat),
       (lock false).orders.deferred.length, answersIn (lock false), (eventsIn (lock true)).getLast?)) =
      ([[106, 7, 106, 9, 111, 12], [106, 106, 7, 9, 111, 12], [106, 7, 106, 9, 8, 111], [106, 106, 7, 9, 8, 111]], [8], 0,
        [(7, .aborted), (9, .aborted), (8, .aborted)], some (.stateChange .run .lockdown .keepaliveEarly false)) := by
  decide +kernel

/-- `twoClosing` meets the premises of DeviceStateOrders and SupervisionTimersAndKeepalive. -/
theorem canonical_twoClosing :
    Canonical (withOrder 24 [] (twoClosing false .service)) ∧ Bounded (withOrder 24 [] (twoClosing false .service)) ∧
    OrderReady 24 [] (withOrder 24 [] (twoClosing false .service)) ∧ Canonical (twoClosing true .run) ∧ Bounded (twoClosing true .run) := by
  refine ⟨⟨?_, ?_, ?_, ?_, ?_, ?_, ?_⟩, ⟨?_, ?_, ?_⟩, ready_of ?_, ⟨?_, ?_, ?_, ?_, ?_, ?_, ?_⟩, ⟨?_, ?_, ?_⟩⟩ <;>
    first
    | decide +kernel
    | simp [twoClosing, withOrder]

/-- A new memory size on a state with frames 8 and 9 in the scrub queue, frame 9 at its head or behind, and frame 20 noted. -/
def resized (size : Nat) (turned : Bool) : State :=
  let s := scrubbing 5 true true
  setMemorySize size { s with
    frames := { s.frames with entries :=
      [(0, ⟨.control, false⟩), (8, ⟨if turned then .retired else .scrubbing, false⟩), (9, ⟨if turned then .scrubbing else .retired, false⟩),
        (20, ⟨.opened, true⟩)] }
    scrub := { s.scrub with queue := if turned then [9, 8] else [8, 9] } }

/-- A new memory size: a frame behind the head leaves, the head leaves and the next starts, and the last leaves with SCRUB_IDLE (R3, R150, log entry
23). The clauses of DeviceStateOrders on the memory size. -/
theorem witness_memorySize :
    ([resized 9 false, resized 9 true, resized 8 false].map fun t => (t.scrub, t.port.grant, eventsIn t)) =
      [(⟨[8], some 5, false, 3, 3⟩, some (.scrub 8 5 true), []), (⟨[8], some 0, true, 3, 3⟩, some (.scrub 8 5 false), []),
        (⟨[], none, false, 0, 0⟩, some (.scrub 8 5 false), [.scrubIdle 3 4 9 .removed])] ∧
    ([resized 9 false, resized 9 true, resized 8 false].map fun t => [frameOf t 8, frameOf t 9, frameOf t 20]) =
      [[⟨.scrubbing, false⟩, ⟨.opened, false⟩, ⟨.opened, false⟩], [⟨.scrubbing, false⟩, ⟨.opened, false⟩, ⟨.opened, false⟩],
        [⟨.opened, false⟩, ⟨.opened, false⟩, ⟨.opened, false⟩]] := by
  decide +kernel

/-- The common checks before any other (R157): a length, a turn, a device state that is wrong, and a kind that does not exist. A witness of
OrderFetchAndCommonChecks. -/
theorem witness_commonChecks :
    (let bad := fun (o : OrderSlot) (d : DeviceState) (c : Instr) =>
       answerIn (after c { withOrder 1 [] (inState d running) with mem := cellsAt 4096 (encodeOrder o) })
     [bad ⟨6, 2, 0, [2, 5]⟩ .run .purgeJob, bad ⟨6, 3, 1, [2, 5]⟩ .run .purgeJob, bad ⟨6, 3, 0, [2, 5]⟩ .provision .purgeJob,
       bad ⟨26, 0, 0, []⟩ .run .recover, bad ⟨0, 0, 0, []⟩ .run .unknownOrder, bad ⟨27, 0, 0, []⟩ .run .unknownOrder,
       bad ⟨27, 0, 0, []⟩ .run .recover]) =
      [some (.format, 2), some (.format, 3), some (.mode, 0), some (.mode, 0), some (.format, 1), some (.format, 1), none] := by
  decide +kernel

/-! ## The step and the queue -/

/-- The state that a step answers with. -/
def stepped (s : State) : State :=
  match step s with
  | .next t => t
  | .fault _ => s
  | .refused _ => s

/-- A step takes the front command and leaves the rest; an empty queue is a millisecond of a running part, and nothing without power. A witness of
StepTakesFrontCommand. -/
theorem test_step :
    (let t := stepped { running with pending := [.pfwChange true, .memoryGrant] }
     (t.pending, t.sup.pfw)) = ([.memoryGrant], true) ∧
    stepped running = { running with time := 1 } ∧ stepped { running with power := .off } = { running with power := .off } := by
  decide +kernel

/-- A part in reset or without power takes nothing but its resets and the board's levels. A witness of EveryCommandAnswers. -/
theorem test_unpowered :
    (let s := { running with power := .held }
     let off := { running with power := .off }
     (decide (after .memoryGrant s = s), decide (after (.lineRawChange .door false) s = { s with lines := ⟨Quad.all true, false, false⟩ }),
       decide (after (.pfwChange true) off = { off with lines := ⟨Quad.all true, true, true⟩ }),
       (after .resetnRelease s).power, (after .resetnRelease off).power, (after (.powerOn ⟨false, 0⟩) off).power)) =
      (true, true, true, .on, .off, .on) := by
  decide +kernel

/-- The end of a take drops an entry that every block has taken, reports fold complete and lets a waiting START enter RUN; a failed store keeps its
journal (R110, R111, R117, R170). A witness of CloseTakeFrame, clause by clause. -/
theorem test_closeTake :
    (let s := { State.reset with
       sup := { State.reset.sup with startWaiting := some 0 }
       meter := { State.reset.meter with foldReported := false, write := some (.block .tariff, 1) }
       store := { State.reset.store with journal := [⟨1, .credit 17 0⟩], counts := [(17, ⟨Counts.zero, 1⟩)], lastSeq := 1 } }
     let failed := { s with meter := { s.meter with failed := true } }
     ((closeTake s).sup.device, (closeTake s).store.journal, decide ((closeTake s).meter.write = s.meter.write),
       (closeTake failed).store.journal.length, (closeTake failed).sup.device)) =
      (.run, [], true, 1, .provision) := by
  decide +kernel

/-- The next write: the fold and the oldest dirty block take turns, an empty journal leaves the block, and a write in progress stays (R109, R112). A
witness of CloseTakeFrame. -/
theorem test_closeTake_nextWrite :
    (let e : Entry := ⟨2, .credit 17 1⟩
     let s := { running with
       store := { running.store with journal := [e], lastSeq := 2 }
       meter := { running.meter with dirty := [.tariff, .coverage] } }
     let afterFold := { s with meter := { s.meter with lastWasFold := true } }
     [s, afterFold, { s with store := running.store }, { s with meter := { s.meter with dirty := [], lastWasFold := true } },
       { afterFold with meter := { afterFold.meter with write := some (.block .coverage, 2) } }, running].map
         fun t => (closeTake t).meter.write) =
      [some (.fold ⟨2, .credit 17 1⟩ (some 17) false, 1), some (.block .tariff, 1), some (.block .tariff, 1),
        some (.fold ⟨2, .credit 17 1⟩ (some 17) false, 1), some (.block .coverage, 2), none] := by
  decide +kernel

/-- A header write is placed behind what waits when a word differs, and not when none does or when one waits already (R152, log entry 13). A witness of
CloseTakeFrame. -/
theorem test_closeTake_header :
    (let s := { running with port := { running.port with control := [.fetch 0] } }
     let t := closeTake s
     (t.port.control.map (·.isHeader), (closeTake t).port.control.length,
       (closeTake { t with port := { t.port with control := [] } }).port.control.length,
       (closeTake { s with port := { s.port with control := [.header false HeaderWords.powerOn] } }).port.control.length)) =
      ([false, true], 2, 0, 1) := by
  decide +kernel

/-! ## Ill-formed commands -/

/-- R19, R57: an address that is no multiple of 64, no line, nine lines, a write of half a line, a page slot of 32. Each check of `Instr.wf` refuses
its own. -/
theorem test_wellFormed :
    [Instr.transferAccept ⟨.scan, 64, .read 1⟩, .transferAccept ⟨.scan, 0, .read 8⟩, .transferAccept ⟨.scan, 65, .read 1⟩,
      .transferAccept ⟨.scan, 64, .read 0⟩, .transferAccept ⟨.scan, 64, .read 9⟩,
      .transferAccept ⟨.scan, 64, .write (List.replicate 96 none)⟩, .stallTimerExpiry 31, .stallTimerExpiry 32].map Instr.wf =
      [true, true, false, false, false, false, true, false] := by
  decide +kernel

/-- An ill-formed transfer is not taken (log entry 1). -/
theorem test_illFormed_transfer : after (.transferAccept ⟨.scan, 65, .read 1⟩) running = running := by
  decide +kernel

/-! ## Layouts -/

/-- Every order kind of R180 with its parameters at 0xFF.. and at 0, with turn 1: what the CPU writes is what the part reads. -/
theorem test_orderSlots :
    ((List.range 26).all fun i =>
      let widths := (orderWidths (i + 1)).getD []
      let top : OrderSlot := ⟨i + 1, 255, 1, widths.map fun w => 256 ^ w - 1⟩
      let low : OrderSlot := ⟨i + 1, 0, 0, widths.map fun _ => 0⟩
      decide (decodeOrder (encodeOrder top) = top) && decide (decodeOrder (encodeOrder low) = low)) = true := by
  decide +kernel

/-- The hypotheses of OrderSlotRoundTrip, every parameter of SET ACCOUNT at its greatest value. -/
theorem witness_orderSlot :
    orderWidths 13 = some [2, 1, 4] ∧ List.Forall₂ (fun w v => v < 256 ^ w) [2, 1, 4] [65535, 255, 4294967295] := by
  refine ⟨rfl, ?_⟩
  repeat constructor

/-- TICKET PAGE for job 2, generation 0x0105, page slot 3, on an even pass of the ring, byte by byte from 11.3. -/
theorem test_orderBytes :
    decodeOrder ([8, 0, 4, 0, 0xAA, 0xBB, 0xCC, 0xDD, 2, 0x05, 0x01, 3] ++ List.replicate 52 0) = ⟨8, 4, 0, [2, 261, 3]⟩ := by
  decide +kernel

/-- The CRC of R182 over the nine ASCII digits 1 to 9, whose value for this polynomial, start and bit order is well known. -/
theorem test_crc16 : crc16 [0x31, 0x32, 0x33, 0x34, 0x35, 0x36, 0x37, 0x38, 0x39] = 0x29B1 := by
  decide +kernel

/-- An IDENT of the longest fields, a TALLY and a DECLINE behind a stray byte (R182). The hypotheses of SupplyFrameRoundTrip. -/
theorem witness_supplyFrames :
    (∀ c ∈ [linkChar 0x55], c.data ≠ startMarker) ∧
    decodeFrame (linkChar 0x55 :: encodeFrame 0x02 (beBytes 6 0x0102030405FF ++ beBytes 2 0x0607 ++ beBytes 3 0xFFFFFF ++ beBytes 3 0xFFFFFF ++ [1] ++
      beBytes 8 0x08090A0B0C0D0E0F)) = .ident 0x0102030405FF 0x0607 0xFFFFFF 0xFFFFFF 1 0x08090A0B0C0D0E0F ∧
    decodeFrame (encodeFrame 0x04 (beBytes 6 5 ++ beBytes 3 7 ++ beBytes 8 9)) = .tally 5 7 9 ∧
    decodeFrame (encodeFrame 0x05 [3]) = .decline 3 := by
  decide +kernel

/-- A turned parity bit of the marker and of the last CRC byte, a wrong CRC, and a DECLINE of two bytes (R124, R182). The hypotheses of
FaultyFrameDetected. -/
theorem witness_faultyFrames :
    (let good := encodeFrame 0x05 [3]
     let turned := fun (i : Nat) => good.modify i fun c => { c with parity := !c.parity }
     [decodeFrame (turned 0), decodeFrame (turned 5), decodeFrame (([startMarker, 0x05, 1, 3, 0, 0] : List Byte).map linkChar),
       decodeFrame (encodeFrame 0x05 [3, 3]), decodeFrame (good.take 5)]) = [.faulty, .faulty, .faulty, .faulty, .incomplete] ∧
    (0 : BitVec 16) ≠ crc16 [0x05, 1, 3] ∧ frameLength 0x05 = some 1 := by
  decide +kernel

/-- Eight lines from the last line of the address space on go on at address 0; eight lines that end with a frame are one part (R21). Witnesses of
PartsCoverTransfer. -/
theorem witness_parts :
    (let top : Transfer := ⟨.net, 0xFFFFFFC0, .read 8⟩
     let last : Transfer := ⟨.net, 0x000FFE00, .read 8⟩
     (top.wf, last.wf, Transfer.parts top, Transfer.parts last)) =
      (true, true, [⟨.net, 4294967232, .read 1⟩, ⟨.net, 0, .read 7⟩], [⟨.net, 1048064, .read 8⟩]) := by
  decide +kernel

/-! ## The transfer path -/

/-- The transfer is of one part and can be taken, as a test. -/
def single (t : Transfer) (p : Part) (s : State) : Bool :=
  decide (s.power = .on) && decide (s.filter.service = none) && t.wf && decide (Transfer.parts t = [p])

theorem single_of {t : Transfer} {p : Part} {s : State} (h : single t p s = true) : SinglePart t p s := by
  simp only [single, Bool.and_eq_true, decide_eq_true_eq] at h
  exact ⟨h.1.1.1, h.1.1.2, h.1.2, h.2⟩

/-- The part in service has its grant and a check holds of it and of its access, as a test. -/
def performing (s : State) (check : Service → LinkAccess → Bool) : Bool :=
  decide (s.power = .on) && decide (s.port.grant = some .link) &&
    match s.filter.service with
    | some v =>
      match v.phase with
      | .performing a => check v a
      | .asking _ => false
    | none => false

theorem performing_of {s : State} {check : Service → LinkAccess → Bool} (h : performing s check = true) :
    ∃ v a, performs s v a ∧ check v a = true := by
  simp only [performing, Bool.and_eq_true, decide_eq_true_eq] at h
  obtain ⟨⟨h1, h2⟩, h3⟩ := h
  split at h3
  · rename_i v hv
    split at h3
    · rename_i a ha
      exact ⟨v, a, ⟨h1, h2, hv, ha⟩, h3⟩
    · exact absurd h3 (by simp)
  · exact absurd h3 (by simp)

/-- A transfer is accepted and its first access granted. -/
def served (t : Transfer) (s : State) : State := after .memoryGrant (after (.transferAccept t) s)

/-- One line of a write whose first `n` bytes are enabled and hold a value. -/
def lineWrite (n : Nat) (b : Byte) : Access := .write (List.replicate n (some b) ++ List.replicate (64 - n) none)

/-- A state with its job SHARED. -/
def sharedJob (s : State) : State := { s with jobs := [(2, ⟨.active ⟨17, .shared, false⟩, 5, .empty, 2, 0, 0⟩)] }

/-- The class, view, key, page and breach of a part's record. -/
def sketch (s : State) (src : Source) (f : Nat) (a : Access) : Option FrameClass × Option View × Option Key × Option Nat × Bool :=
  let r := formRecord s ⟨src, f * 1048576, a⟩
  (r.cls, r.view, r.key, r.page, r.breach)

/-- Records by R5, R9, R11 and R22: out of range, the last frame in range, a PRIVATE frame for seven sources, a SHARED one, frame 0, and a PRINT
read of a frame with no page. The clauses of RecordAtTake. -/
theorem test_records :
    [sketch running .scan 64 (.read 1), sketch running .scan 63 (.read 1), sketch running .cpu 8 (.read 1), sketch running .scan 8 (.read 1),
      sketch running .store 8 (.read 1), sketch running .print 8 (.read 1), sketch (paged .staged) .print 8 (.read 1),
      sketch running .print 8 (lineWrite 64 1), sketch (sharedJob running) .cpu 8 (.read 1), sketch (sharedJob running) .print 8 (.read 1),
      sketch running .net 0 (.read 1)] =
      [(none, none, none, none, true), (some .opened, some .pass, none, none, false), (some .priv, some .blank, none, none, true),
        (some .priv, some .plain, some ⟨0⟩, none, false), (some .priv, some .cipher, none, none, false),
        (some .priv, some .metered, some ⟨0⟩, none, true), (some .priv, some .metered, some ⟨0⟩, some 3, false),
        (some .priv, some .metered, some ⟨0⟩, none, true), (some .shared, some .pass, none, none, false),
        (some .shared, some .metered, none, none, true), (some .control, some .blank, none, none, true)] := by
  decide +kernel

/-- The hypotheses of FilledTransferAnswered: the first frame out of range, the last in range, and a guarded class. -/
theorem witness_filled :
    (SinglePart ⟨.scan, 0x04000000, .read 1⟩ ⟨.scan, 67108864, .read 1⟩ running ∧ frameLimit running ≤ 64) ∧
    (SinglePart ⟨.spare, 0x03F00000, .read 1⟩ ⟨.spare, 66060288, .read 1⟩ running ∧ 63 < frameLimit running ∧
      running.views.look (classOf running (frameOf running 63)) .spare = .blank) ∧
    SinglePart ⟨.cpu, 0x00800000, lineWrite 64 1⟩ ⟨.cpu, 8388608, lineWrite 64 1⟩ running ∧
      running.views.look (classOf running (frameOf running 8)) .cpu = .blank :=
  ⟨⟨single_of (by decide +kernel), by decide +kernel⟩, ⟨single_of (by decide +kernel), by decide +kernel, by decide +kernel⟩,
    single_of (by decide +kernel), by decide +kernel⟩

/-- Filled transfers are answered at once; a breach is posted once for a frame (R4, R12, R20, R26). -/
theorem test_filled :
    ([(Source.scan, 64, Access.read 1), (.spare, 63, .read 1), (.cpu, 8, lineWrite 64 1), (.cpu, 9, .read 1)].map fun e =>
      let t := after (.transferAccept ⟨e.1, BitVec.ofNat 32 (e.2.1 * 1048576), e.2.2⟩) running
      (t.filter.answer, (frameOf t e.2.1).noted, t.events.nextSeq, decide (t.mem = running.mem))) =
      [(some (.data (List.replicate 64 0)), true, 1, true), (some (.data (List.replicate 64 0)), false, 0, true),
        (some .completion, true, 1, true), (some (.data (List.replicate 64 0)), true, 0, true)] := by
  decide +kernel

/-- What a transfer asks for, as a number: 0 nothing, 1 a read, 2 an inserted read, 100 and the enabled bytes for a write. -/
def askedFor (t : Transfer) (s : State) : Nat :=
  match (after (.transferAccept t) s).filter.service with
  | some v =>
    match v.phase with
    | .asking .read => 1
    | .asking .mergeRead => 2
    | .asking (.write bs) => 100 + (bs.filter (·.isSome)).length
    | .performing _ => 3
  | none => 0

/-- PASS, PLAIN, CIPHER and METERED reads, a METERED read of no page, PASS, CIPHER and PLAIN writes, the control header's part-owned words, and a
write with no enable (R25, R28 to R32). Each clause of TransferAsksForGrant. -/
theorem witness_asks :
    ([(Source.cpu, 63, Access.read 8), (.scan, 8, .read 1), (.store, 8, .read 1), (.print, 8, .read 1), (.print, 9, .read 1),
      (.scan, 63, lineWrite 1 7), (.cpu, 0, lineWrite 64 7), (.store, 8, lineWrite 63 7), (.scan, 8, lineWrite 63 7), (.scan, 8, lineWrite 64 7),
      (.scan, 8, lineWrite 0 7)].map fun e =>
      let t : Transfer := ⟨e.1, BitVec.ofNat 32 (e.2.1 * 1048576), e.2.2⟩
      (single t ⟨e.1, e.2.1 * 1048576, e.2.2⟩ (paged .staged), askedFor t (paged .staged))) =
      [(true, 1), (true, 1), (true, 1), (true, 1), (true, 0), (true, 101), (true, 152), (true, 163), (true, 2), (true, 164), (true, 0)] := by
  decide +kernel

/-- A METERED write, a METERED read of the line behind the page, writes with no enable under PASS and CIPHER, and a CPU write of part-owned header bytes
alone all end at their take; so does a blanked lower part, whose fill stands before the upper part that asks (R13, R21, R25, R31). Each in
TransferAsksForGrant. -/
theorem witness_endsAtTake :
    ([(⟨.print, 0x00800000, lineWrite 64 7⟩ : Transfer), ⟨.print, 0x00800040, .read 1⟩, ⟨.scan, 0x03F00000, lineWrite 0 7⟩,
        ⟨.store, 0x00800000, lineWrite 0 7⟩, ⟨.cpu, 0, .write ([none, none, some 1, some 2] ++ List.replicate 60 none)⟩].map fun t =>
      (t.wf, askedFor t (paged .staged), (after (.transferAccept t) (paged .staged)).filter.answer.isSome)) = List.replicate 5 (true, 0, true) ∧
    ([(⟨.cpu, 0x009FFFC0, .read 2⟩ : Transfer), ⟨.scan, 0x009FFFC0, .read 2⟩].map fun t =>
      ((after (.transferAccept t) (paged .staged)).filter.service.map fun v => (v.part.addr, v.rest.length, v.data.length))) =
      [some (10485760, 0, 64), some (10485696, 1, 0)] := by
  decide +kernel

/-- A CPU write of the control header leaves new shadows and hands both indices over with the part (R34). -/
theorem test_snoop :
    (let t := after (.transferAccept ⟨.cpu, 0, lineWrite 64 7⟩) running
     (t.filter.postShadow, t.filter.consumeShadow, t.filter.service.bind (·.post), t.filter.service.bind (·.consume))) =
      (0x0707, 0x0707, some 0x0707, some 0x0707) := by
  decide +kernel

/-- The default View Table is lawful (R9, R10). -/
theorem views_lawful {s : State} (h : s.views = ViewTable.default) : ViewsLawful s := by
  intro c src
  rw [h]
  cases c <;> cases src <;> decide

/-- The hypotheses of PrivateFrameHiddenFromCpuAndNet, for the CPU and for NET, a read and a write. -/
theorem witness_privateHidden :
    ViewsLawful running ∧ running.power = .on ∧ running.filter.service = none ∧
    ∀ t ∈ [(⟨.cpu, 0x00800000, .read 8⟩ : Transfer), ⟨.net, 0x009FFFC0, lineWrite 64 7⟩],
      t.wf = true ∧ (t.source = .cpu ∨ t.source = .net) ∧
      ∀ p ∈ Transfer.parts t, p.frame ≠ 0 ∧ p.frame < frameLimit running ∧ classOf running (frameOf running p.frame) = .priv :=
  ⟨views_lawful rfl, by decide +kernel⟩

/-! ## The arbiter -/

/-- `running` with a PASS read that asks, a guard count, a control queue or none, and a scrub queue of frame 9 offered or not. -/
def waiting (link control scrub : Bool) (count : Nat) : State :=
  let s := if link then after (.transferAccept ⟨.scan, 0x03F00000, .read 1⟩) running else running
  { s with
    port := { grant := none, guardCount := count, control := if control then [.fetch 0] else [] }
    scrub := { s.scrub with queue := [9], progress := some 5, offered := scrub } }

/-- Which client holds the port after a grant, and the guard count. -/
def grantedTo (s : State) : Nat × Nat :=
  let t := after .memoryGrant s
  (match t.port.grant with
   | none => 0
   | some .link => 1
   | some (.control _) => 2
   | some (.scrub f l live) => if f = 9 ∧ l = 5 ∧ live then 3 else 4,
   t.port.guardCount)

/-- R37 clause by clause: below the guard count, at it, and with one client or none waiting. With `asks_waiting`, witnesses of
MemoryGrantArbitrates. -/
theorem test_arbiter :
    [waiting true true true 15, waiting true false true 0, waiting true false false 15, waiting true true true 16, waiting true false true 16,
      waiting true false false 16, waiting false true true 3, waiting false false true 3, waiting false false false 3].map grantedTo =
      [(1, 16), (1, 1), (1, 0), (2, 0), (3, 0), (1, 0), (2, 0), (3, 0), (0, 3)] := by
  decide +kernel

/-- A PASS read asks in `waiting`. -/
theorem asks_waiting : ∃ v, asks (waiting true true true 15) v .read ∧ (waiting true true true 15).power = .on := by
  exact ⟨_, ⟨rfl, rfl⟩, rfl⟩

/-- An answer write with data, over an order slot of 0xEE: the kind to the cookie are kept, the area is filled with 0 up to the marks, and the turn is that of
the ring index (R158, R180). Clause of MemoryGrantArbitrates. -/
theorem test_answerData :
    (let ans := { running with
       mem := cellsAt 4224 (List.replicate 64 0xEE)
       port := { running.port with control := [.answer 66 ⟨.done, 0, some ⟨[5, 6, 7], 3⟩⟩] } }
     readBytes (after .memoryGrant ans) 4224 64) =
      List.replicate 8 0xEE ++ [5, 6, 7] ++ List.replicate 44 0 ++ [3, 0, 0, 1] ++ List.replicate 5 0 := by
  decide +kernel

/-- The scrub line of the head frame that the part in service addresses is held back (R37), and an answer write is performed within its grant
(log entry 12). -/
theorem test_arbiter_held :
    (let s := after (.transferAccept ⟨.scan, 0x00900000, .read 1⟩) running
     let held := { s with port := { s.port with guardCount := 16, control := [] }, scrub := { s.scrub with queue := [9], progress := some 5, offered := true } }
     let ans := { running with port := { running.port with control := [.answer 65 (.plain .busy 3)] } }
     (grantedTo held, readBytes (after .memoryGrant ans) 4216 4, (after .memoryGrant ans).port.grant)) = ((1, 16), [8, 3, 1, 0], none) := by
  decide +kernel

/-! ## Accesses performed -/

/-- `running` with the byte 7 in frame 63, and a read of it that has its grant. -/
def reading : State := served ⟨.scan, 0x03F00000, .read 1⟩ { running with mem := [(66060291, 7)] }

/-- A transfer over the boundary of frames 62 and 63. -/
def crossing : State := served ⟨.scan, 0x03EFFFC0, .read 2⟩ running

/-- A PLAIN read over the boundary of frames 8 and 9, and a PASS write of three lines over that of frames 62 and 63. -/
def crossingPlain : State := served ⟨.scan, 0x008FFFC0, .read 2⟩ running

@[inherit_doc crossingPlain]
def crossingWrite : State := served ⟨.scan, 0x03EFFFC0, .write (List.replicate 64 (some 3) ++ List.replicate 128 (some 4))⟩ running

/-- The hypotheses of LinkReadPerformed: PASS, PLAIN, and under both a part with an upper part behind it. -/
theorem witness_linkRead :
    (∃ v a, performs reading v a ∧ (decide (a = .read) && v.post.isNone && v.consume.isNone && !v.part.isWrite && v.rest.isEmpty &&
      decide (v.record.view = some .pass) && fitted reading v.part.addr) = true) ∧
    (∃ v a, performs (served ⟨.scan, 0x00800000, .read 1⟩ running) v a ∧
      (decide (a = .read) && v.post.isNone && v.consume.isNone && v.rest.isEmpty && decide (v.record.view = some .plain)) = true) ∧
    (∃ v a, performs crossing v a ∧
      (decide (a = .read) && decide (v.rest = [⟨.scan, 66060288, .read 1⟩]) && decide (v.record.view = some .pass)) = true) ∧
    ∃ v a, performs crossingPlain v a ∧ (decide (a = .read) && v.post.isNone && v.consume.isNone && !v.part.isWrite &&
      decide (v.rest = [⟨.scan, 9437184, .read 1⟩]) && decide (v.record.view = some .plain)) = true :=
  ⟨performing_of (by decide +kernel), performing_of (by decide +kernel), performing_of (by decide +kernel), performing_of (by decide +kernel)⟩

/-- The stored line reaches the link, and the upper part of a crossing transfer asks next (R20, R21, R28, R38). -/
theorem test_linkRead :
    (let t := after .linkAccessPerformed reading
     let u := after .linkAccessPerformed crossing
     (t.filter.answer, t.port.grant, t.filter.service.isNone, u.filter.answer, u.filter.service.map fun v => (v.part.addr, v.data.length))) =
      (some (.data ([0, 0, 0, 7] ++ List.replicate 60 0)), none, true, none, some (66060288, 64)) := by
  decide +kernel

/-- `running` with bytes in frame 63, and a PASS write of its first three bytes that has its grant. -/
def writing : State :=
  served ⟨.scan, 0x03F00000, .write ([some 9, some 0, none] ++ List.replicate 61 none)⟩ { running with mem := [(66060289, 5), (66060290, 6)] }

/-- The hypotheses of LinkWritePerformed: a PASS write, one with an upper part behind it, and the inserted read of a partial PLAIN write. -/
theorem witness_linkWrite :
    (∃ v a, performs writing v a ∧ (decide (a = .write ([some 9, some 0, none] ++ List.replicate 61 none)) && v.rest.isEmpty && v.post.isNone &&
      v.consume.isNone && v.part.isWrite) = true) ∧
    (∃ v a, performs crossingWrite v a ∧ (decide (a = .write (List.replicate 64 (some 3))) && decide (v.rest.length = 1) && v.post.isNone &&
      v.consume.isNone && v.part.isWrite) = true) ∧
    ∃ v a, performs (served ⟨.scan, 0x00800000, lineWrite 63 7⟩ running) v a ∧ decide (a = .mergeRead) = true :=
  ⟨performing_of (by decide +kernel), performing_of (by decide +kernel), performing_of (by decide +kernel)⟩

/-- The lower part's bytes stand in memory, no answer leaves, and the upper part asks for its own (R20, R21, R25). -/
theorem test_linkWrite_split :
    (let t := after .linkAccessPerformed crossingWrite
     let asked := t.filter.service.map fun v =>
       match v.phase with
       | .asking (.write bs) => (v.part.addr, bs.length)
       | _ => (0, 0)
     ((t.mem.length, readByte t 66060287, readByte t 66060288), (t.filter.answer, t.port.grant, asked))) =
      ((64, 3, 0), (none, none, some (66060288, 128))) := by
  decide +kernel

/-- The enabled bytes stand in memory, a zero leaves the list, the byte with no enable is kept (R25), and the completion leaves; the inserted read of a
PLAIN write is followed by a write of the whole line in the same grant (R30). -/
theorem test_linkWrite :
    (let t := after .linkAccessPerformed writing
     let u := after .linkAccessPerformed (served ⟨.scan, 0x00800000, lineWrite 63 7⟩ running)
     (t.mem, t.filter.answer, t.port.grant, u.port.grant, u.filter.service.map fun v =>
       match v.phase with
       | .performing (.write bs) => (bs.filter (·.isSome)).length
       | _ => 0)) =
      ([(66060288, 9), (66060290, 6)], some .completion, none, some .link, some 64) := by
  decide +kernel

/-- The hypotheses of PlainWriteKeepsUnenabledBytes: a key, and a write of a partial and of an empty line. -/
theorem witness_plainWrite :
    (formRecord running ⟨.scan, 8388608, .read 1⟩).key = some ⟨0⟩ ∧
    (let p : Part := ⟨.scan, 8388608, .write (List.replicate 1 (some 7) ++ List.replicate 127 none)⟩
     p.access.lineCount = 2 ∧ p.bytes.length = 64 * p.access.lineCount ∧ lineEmpty (lineOf p.bytes 0) = false ∧ lineEmpty (lineOf p.bytes 1) = true) := by
  decide +kernel

/-- `running` with 200 orders taken, one of them still in the ring, and a CPU write of the post or of the consume index performed next. -/
def posting (fetching : Bool) (offset : Nat) (value : BitVec 16) : State :=
  let s := { running with
    orders := { running.orders with take := 200, heldPost := 201, fetching := fetching }
    events := { running.events with produce := 10, written := 9, consume := 4 } }
  let line : List (Option Byte) := (List.range 64).map fun i =>
    if i = offset then some (value.setWidth 8) else if i = offset + 1 then some ((value >>> 8).setWidth 8) else none
  { served ⟨.cpu, 0, .write line⟩ s with port := { (served ⟨.cpu, 0, .write line⟩ s).port with control := [] } }

/-- The hypotheses of SnoopedIndicesTaken, for each index. -/
theorem witness_snooped :
    (∃ v a, performs (posting false 0 264) v a ∧ (v.rest.isEmpty && v.part.isWrite && v.record.key.isNone && decide (v.post = some 264) &&
      v.consume.isNone) = true) ∧
    ∃ v a, performs (posting false 6 9) v a ∧ (v.rest.isEmpty && v.part.isWrite && v.record.key.isNone && decide (v.consume = some 9) &&
      v.post.isNone) = true :=
  ⟨performing_of (by decide +kernel), performing_of (by decide +kernel)⟩

/-- 64 orders outstanding are taken and 65 are not; with an order being fetched its own index is no post value; a consume value at the written
produce index is taken and one past it is not (R155, R162). -/
theorem test_snooped :
    ([(posting false 0 264), (posting false 0 265), (posting false 0 200), (posting true 0 200)].map fun s =>
      let t := after .linkAccessPerformed s
      (t.orders.heldPost, t.events.nextSeq)) = [(264, 0), (201, 1), (200, 0), (201, 1)] ∧
    ([(posting false 6 9), (posting false 6 10)].map fun s =>
      let t := after .linkAccessPerformed s
      (t.events.consume, t.events.nextSeq, t.events.attn)) = [(9, 0, false), (4, 1, false)] := by
  decide +kernel

/-- `posting` with both indices in one write, under an ATTN mode, with an alarm at index 6 of the records 4 to 8. -/
def postingBoth (mode : AttnMode) (consume : Nat) : State :=
  let s := { running with
    orders := { running.orders with take := 200, heldPost := 201 }
    events := { running.events with
      produce := 10, written := 9, consume := 4, lastAlarm := some 6, mode := mode, latch := decide (mode = .first), attn := true } }
  let line : List (Option Byte) :=
    [some 8, some 1, none, none, none, none, some (BitVec.ofNat 8 consume), some 0] ++ List.replicate 56 none
  served ⟨.cpu, 0, .write line⟩ s

/-- Both indices are taken from one write, the post index first; consuming up to the alarm keeps it and past it clears it, and FIRST loses its latch and
is armed where no record is left (R35, R162, R165, R166). Witnesses of SnoopedIndicesTaken. -/
theorem test_snooped_both :
    ([(.alarmOnly, 6), (.alarmOnly, 7), (.first, 8), (.first, 9), (.batch, 5)].map fun e =>
      let t := after .linkAccessPerformed (postingBoth e.1 e.2)
      (t.orders.heldPost, t.events.consume, t.events.lastAlarm, t.events.latch, t.events.armed, t.events.attn)) =
      [(264, 6, some 6, false, false, true), (264, 7, none, false, false, false), (264, 8, none, false, false, false),
        (264, 9, none, false, true, false), (264, 5, some 6, false, false, true)] ∧
    ∃ v a, performs (postingBoth .first 9) v a ∧ (decide (v.post = some 264) && decide (v.consume = some 9)) = true :=
  ⟨by decide +kernel, performing_of (by decide +kernel)⟩

/-- R147 to R150 at the last line and the one before it, with and without a frame behind, and for a line whose frame START removed. The clauses of
ScrubLinePerformed. -/
theorem witness_scrubLine :
    ([scrubbing 16382 true true, scrubbing 16383 true true, scrubbing 16383 true false, scrubbing 16383 false true].map fun s =>
      let t := after .scrubLinePerformed s
      (t.mem.length, t.scrub.queue, t.scrub.progress, t.scrub.offered, t.scrub.scrubbed)) =
      [(1, [8, 9], some 16383, true, 3), (1, [9], some 0, true, 4), (1, [], none, false, 0), (1, [8, 9], some 16383, false, 3)] ∧
    (let t := after .scrubLinePerformed (scrubbing 16383 true false)
     ((frameOf t 8).state, t.events.nextSeq)) = (.opened, 1) := by
  decide +kernel

/-! ## Pages in print -/

/-- The page of 5.8: an A4 COLOUR page in print with its sums and its capture of the default tariff. -/
def a4Page : Page :=
  { page with
    state := .printing ⟨1, 4, 4⟩ 0, colour := .colour, pixels := 34799360, highWater := Quad.all 8699840, sums := ⟨3131942, 41000, 12500, 0⟩ }

/-- A PRINTING MONO page of 1022 pixels, 256 bytes, of a SHARED job, with a high-water, and a PRINT read of one of its four lines that has its grant. -/
def printing (h line : Nat) : State :=
  let s := paged (.printing capture 0)
  let s := { sharedJob s with
    time := 12
    pages := [(3, some { page with state := .printing capture 0, pixels := 1022, highWater := ⟨h, 0, 0, 0⟩ })]
    mem := [(8388608, 0xE4), (8388608 + 255, 0xFF)] }
  served ⟨.print, BitVec.ofNat 32 (8388608 + 64 * line), .read 1⟩ s

/-- The hypotheses of PrintReadServed but for the high-water, which each clause bounds: the clauses are read by `test_printRead`. -/
theorem witness_printRead :
    ∀ e ∈ [(64, 0), (63, 0), (200, 3), (63, 1)],
      ∃ v a, performs (printing e.1 e.2) v a ∧ (decide (a = .read) && v.rest.isEmpty && v.post.isNone && v.consume.isNone && !v.part.isWrite &&
        v.record.key.isNone && decide (v.record.view = some .metered) && decide (v.record.cls = some .shared) && decide (v.record.page = some 3) &&
        decide (v.record.job = some 2) && decide (v.record.generation = some 5) && (pageOf (printing e.1 e.2) 3).any (·.isPrinting)) = true := by
  intro e he
  apply performing_of
  revert e
  decide +kernel

/-- A re-read, a straddle from byte 0 (levels 3, 2, 1 and 0 of 0xE4), the last line (two of the last byte's four pixels are the page's), and a
gap (R70 to R75, R83). -/
theorem test_printRead :
    ([(64, 0), (0, 0), (200, 3), (63, 1)].map fun e =>
      let t := after .linkAccessPerformed (printing e.1 e.2)
      ((pageOf t 3).map fun p => (p.highWater.q0, p.sums.q0, p.gapPosted), t.events.nextSeq,
        match t.filter.answer with
        | some (.data b) => b.take 1
        | _ => [])) =
      [(some (64, 0, false), 0, [0xE4]), (some (64, 6, false), 0, [0xE4]), (none, 1, [0]), (some (63, 0, true), 1, [0])] ∧
    (after .linkAccessPerformed (printing 200 3)).store.journal = [⟨1, .settle 17 0 .mono 1 .printed⟩] ∧ countedSum 1022 255 [0xFF] = 6 := by
  decide +kernel

/-- Slot 3 with another page, of a SHARED or a PRIVATE job, and a PRINT read of lines from the start of frame 8 that has its grant. -/
def printingPage (q : Page) (priv : Bool) (lines : Nat) : State :=
  let s := { paged (.printing capture 0) with time := 12, pages := [(3, some q)], mem := [(8388608, 0xE4), (8388657, 0xFF), (8388658, 0xFF)] }
  served ⟨.print, 0x00800000, .read lines⟩ (if priv then s else sharedJob s)

/-- A COLOUR page of 512 pixels with its planes behind one another in frame 8. -/
def colourPage : Page := { a4Page with pixels := 512, starts := ⟨8388608, 8388736, 8388864, 8388992⟩, highWater := Quad.all 0, sums := Quad.all 0 }

/-- A COLOUR page read across K and into C, a PRIVATE page, a WITHHELD page, and a page of 200 pixels whose extent ends within the line, which is
complete (R32, R70, R74, R75): high-waters, K's sum, the data at offsets 0, 49 and 50. Witnesses of PrintReadServed. -/
theorem test_printRead_pages :
    ([(colourPage, false, 3), ({ page with state := .printing capture 0, pixels := 512 }, true, 1),
      ({ page with state := .withheld .supply 0, pixels := 512 }, false, 1), ({ page with state := .printing capture 0, pixels := 200 }, false, 1)].map
        fun e =>
      let t := after .linkAccessPerformed (printingPage e.1 e.2.1 e.2.2)
      ((pageOf t 3).map fun p => (p.highWater, if e.2.1 then 0 else p.sums.q0), t.events.nextSeq,
        match t.filter.answer with
        | some (.data b) => if e.2.1 then [] else [b.getD 0 0, b.getD 49 0, b.getD 50 0]
        | _ => [])) =
      [(some (⟨128, 64, 0, 0⟩, 30), 0, [0xE4, 0xFF, 0xFF]), (some (⟨64, 0, 0, 0⟩, 0), 0, []), (some (⟨64, 0, 0, 0⟩, 0), 0, [0, 0, 0]),
        (none, 1, [0xE4, 0xFF, 0])] := by
  decide +kernel

/-- The hypotheses of PrintReadServed for a COLOUR and for a PRIVATE page, and for a page that is no longer there when the read is performed: every byte
is fill (R32). -/
theorem witness_printRead_pages :
    (∀ e ∈ [(false, FrameClass.shared), (true, .priv)],
      ∃ v a, performs (printingPage colourPage e.1 3) v a ∧ (decide (a = .read) && decide (v.record.view = some .metered) &&
        decide (v.record.cls = some e.2) && decide (v.record.page = some 3)) = true) ∧
    (let gone := after .linkAccessPerformed { printingPage colourPage false 1 with pages := [] }
     (gone.filter.answer, gone.pages, gone.events.nextSeq)) = (some (.data (List.replicate 64 0)), [], 0) := by
  refine ⟨?_, by decide +kernel⟩
  intro e he
  apply performing_of
  revert e
  decide +kernel

/-- A first print read of the STAGED or TICKETED page of 1022 pixels that has its grant. -/
def admitting (st : PageState) : State :=
  let s := paged st
  served ⟨.print, 0x00800000, .read 1⟩ { s with pages := [(3, some { page with state := st, pixels := 1022 })] }

/-- The hypotheses of AdmissionIsGuarded: the page is not in print before the access and PRINTING after it. -/
theorem witness_admission :
    ([.staged, .ticketed capture].map fun st =>
      ((pageOf (admitting st) 3).map (·.isPrinting), (pageOf (after .linkAccessPerformed (admitting st)) 3).map (·.isPrinting))) =
      [(some false, some true), (some false, some true)] := by
  decide +kernel

/-- A first print read admits its page and is served as data in the same step (R67, R71). A witness of PrintReadServed. -/
theorem test_firstRead :
    (let t := after .linkAccessPerformed (admitting .staged)
     ((pageOf t 3).map fun p => (p.isPrinting, p.highWater.q0), (accountOf t 17).inflight, t.meter.reservations)) = (some (true, 64), 1, 1) := by
  decide +kernel

/-- The outcome of an admission: the page's state, and the account's held and inflight clicks with the reservations. -/
def admitted (p : PageState) (f : State → State) : Option PageState × Nat × Nat × Nat :=
  let s := takeAdmission 3 { page with state := p } (f (paged p))
  ((pageOf s 3).map (·.state), (accountOf s 17).held, (accountOf s 17).inflight, s.meter.reservations)

/-- R67 to R69: each withholding reason, in their order, and both admissions. Both clauses of AdmissionOutcome. -/
theorem test_admission :
    [admitted .staged (inState .provision), admitted .staged (fun s => { s with sup := { s.sup with pfw := true } }),
      admitted .staged (fun s => { s with jobs := [(2, ⟨.closing ⟨17, .priv, true⟩ 9, 5, .loaded ⟨0⟩, 2, 0, 0⟩)] }),
      admitted .staged (withSlot 0 { Slot.absentFresh with state := .exhausted }), admitted .staged (withAccount .suspended 100),
      admitted .staged (withAccount .active 50), admitted .staged (withReservations 64), admitted .staged id,
      admitted (.ticketed capture) (inState .lockdown), admitted (.ticketed capture) (withReservations 64), admitted (.ticketed capture) id] =
      [(some (.withheld .mode 0), 0, 0, 0), (some (.withheld .power 0), 0, 0, 0), (some (.withheld .job 0), 0, 0, 0),
        (some (.withheld .supply 0), 0, 0, 0), (some (.withheld .account 0), 0, 0, 0), (some (.withheld .allowance 0), 0, 0, 0),
        (some (.withheld .meter 0), 0, 0, 64), (some (.printing capture 0), 0, 1, 1), (some (.withheld .mode 0), 0, 0, 0),
        (some (.printing capture 0), 0, 1, 64), (some (.printing capture 0), 0, 1, 1)] := by
  decide +kernel

/-- The state of 5.8 before the settlement, its slots without cartridges. -/
def a4State : State :=
  { running with
    pages := [(3, some a4Page)]
    coverage := { running.coverage with residues := ⟨3000000000, 0, 0, 0⟩ }
    supply := { running.supply with slots := ⟨{ Slot.absentFresh with state := .verified, pending := 200 },
      { Slot.absentFresh with state := .verified, pending := 40 }, { Slot.absentFresh with state := .verified, pending := 40 },
      { Slot.absentFresh with state := .verified, pending := 40 }⟩ }
    meter := { running.meter with accounts := [(17, ⟨⟨.active, 100⟩, Counts.zero, 4, 0⟩)], reservations := 1 } }

/-- The worked case of 5.8: permille, pending and residues after. Witness of SettlementFigures. -/
theorem test_settlement_toner :
    (let t := settlePage 3 .printed a4State
     (permille a4Page, t.supply.slots.q0.pending, t.supply.slots.q1.pending, t.supply.slots.q3.pending, t.coverage.residues)) =
      (⟨29, 0, 0, 0⟩, 214, 42, 42, ⟨3247053418, 677935000, 206687500, 0⟩) ∧
    colourCount 34799360 33 = 157706 := by
  decide +kernel

/-- The worked case of 5.8: it measures MONO and charges 1 click of the 4 held in flight. -/
theorem test_settlement_charge :
    (let t := settlePage 3 .printed a4State
     ((accountOf t 17).counts.settled, (accountOf t 17).inflight, t.meter.reservations, t.store.journal)) =
      (1, 0, 0, [⟨1, .settle 17 0 .mono 1 .printed⟩]) ∧ pageOf a4State 3 = some a4Page := by
  decide +kernel

/-- The page counts and totals of 5.8 and its PAGE_SETTLED, and a WITHHELD page's, which charges nothing (R78, R81, R86, R101). Clauses of
SettlementFigures. -/
theorem test_settlement_reports :
    (let t := settlePage 3 .printed a4State
     let w := settlePage 3 .printed (paged (.withheld .supply 0))
     (((accountOf t 17).counts.monoPages, (accountOf t 17).counts.colourPages, t.meter.totals.pages.q0, t.meter.totals.clicks),
       (eventsIn t).getLast?, (eventsIn w).getLast?, decide (w.meter = (paged (.withheld .supply 0)).meter), (frameOf w 8).state)) =
      ((1, 0, ⟨1, 0⟩, 1), some (.pageSettled 3 2 17 .printed 7 .mono 1 ⟨29, 0, 0, 0⟩ ⟨14, 2, 2, 2⟩),
       some (.pageSettled 3 2 17 .withheld 7 .mono 0 (Quad.all 0) (Quad.all 0)), true, .bound ⟨2, 0, none⟩) := by
  decide +kernel

/-- A run of the page of 5.8 twice in plane K: 24 whole units and two overheads of 2, by R89. Witness of TonerRunIsExact. -/
theorem witness_tonerRun :
    tonerRun 0 ⟨3000000000, 0, 0, 0⟩ [(CoverageSettings.default, a4Page), (CoverageSettings.default, a4Page)] =
      (28, ⟨(3000000000 + 2 * 51786660970) % 4294967296, 2 * 677935000, 2 * 206687500, 0⟩) ∧
    (∀ e ∈ [(CoverageSettings.default, a4Page)], (0 : Plane) ∈ planesOf e.2.colour) := by
  decide +kernel

/-- A stalled page of a CLOSING job releases it at 30 seconds (R50, R76); a page that is not in print has no stall timer. The clauses of
StallTimerExpires. -/
theorem witness_stall :
    (let t := after (.stallTimerExpiry 3) closing
     (t.time, (jobOf t 2).isFree, t.store.journal, answerIn t)) = (30000, true, [⟨1, .settle 17 0 .mono 1 .stalled⟩], some (.done, 0)) ∧
    (let t := after (.stallTimerExpiry 3) { paged (.printing capture 0) with time := 40000 }
     (t.time, (jobOf t 2).isActive, (pageOf t 3).isNone)) = (40000, true, true) := by
  decide +kernel

/-- The stall timer of a page that is not in print (R76, log entry 1). -/
theorem test_stall_none : after (.stallTimerExpiry 3) (paged .staged) = paged .staged := by
  decide +kernel

/-! ## Supply -/

/-- A slot's state code, exchange code, attempt and frames on the link, and whether its window, re-probe timer and retry waiting stand. -/
def slotView (t : State) (n : Plane) : List Nat :=
  let r := slotOf t n
  let attempt := match r.exchange with
    | .none => 0
    | .ident a _ => a
    | .debit a _ _ _ => a
  [r.state.code, r.exchange.code, attempt, r.sending.length, r.window.isSome.toNat, r.reprobe.isSome.toNat, r.retryWaiting.toNat]

/-- A cartridge of 4096 units of which 10 are dispensed. -/
def cartridge : Cartridge := ⟨5, 0x1234, 4096, 10, 0⟩

/-- Slot 0 in an attempt of an IDENT exchange under nonce 77, its answer window begun at 0. -/
def probing (attempt : Nat) : Slot :=
  { Slot.absentFresh with state := .probing, exchange := .ident attempt 77, window := some 0, cartridge := some cartridge, pending := 64 }

/-- Slot 0 in an attempt of a DEBIT exchange of 64 units under nonce 77. -/
def debiting (attempt : Nat) : Slot :=
  { Slot.absentFresh with
    state := .verified, exchange := .debit attempt 77 74 false, window := some 0, cartridge := some cartridge, pending := 64 }

/-- `running` with a slot record in slot 0, and a model key table of one entry for slot 0. -/
def supplied (r : Slot) : State :=
  let s := withSlot 0 r running
  { s with supply := { s.supply with models := [⟨0x1234, 0, ⟨1⟩, 4096⟩] } }

/-- The probe delay and the re-probe timer, due and not yet due, on a slot that may and that may not be probed, and stopped (R123, R127, R128). The
clauses of SlotTimersExpire. -/
theorem witness_slotTimers :
    (let unknown : Slot := { Slot.absentFresh with state := .unknown, probeDelay := some 0 }
     let suspect : Slot := { Slot.absentFresh with state := .suspect, reprobe := some 0 }
     [after (.probeDelayExpiry 0) (withSlot 0 unknown running), after (.reprobeTimerExpiry 0) (withSlot 0 suspect running),
       after (.probeDelayExpiry 0) (withSlot 0 { unknown with state := .suspect } running),
       after (.probeDelayExpiry 0) { withSlot 0 unknown running with time := 700 }, after (.reprobeTimerExpiry 0) running].map fun t =>
      (t.time.toNat, slotView t 0)) =
      [(500, [2, 1, 1, 1, 0, 0, 0]), (2000, [2, 1, 1, 1, 0, 0, 0]), (500, [4, 0, 0, 0, 0, 0, 0]), (700, [2, 1, 1, 1, 0, 0, 0]),
        (0, [1, 0, 0, 0, 0, 0, 0])] := by
  decide +kernel

/-- The last byte of a live and of an abandoned frame, and the end of a window in attempts 1 and 3 of both exchanges (R124 to R128, R138). The
clauses of AttemptsOnTheLink. -/
theorem witness_attempts :
    (let sending := fun (live : Bool) => withSlot 0 { probing 1 with window := none, sending := [⟨[], live⟩] } running
     [after (.supplyFrameSent 0) (sending true), after (.supplyFrameSent 0) (sending false), after (.supplyFrameSent 0) running,
       after (.answerWindowExpiry 0) (supplied (probing 1)), after (.answerWindowExpiry 0) (supplied (probing 3)),
       after (.answerWindowExpiry 0) (supplied (debiting 2)), after (.answerWindowExpiry 0) (supplied (debiting 3))].map (slotView · 0)) =
      [[2, 1, 1, 0, 1, 0, 0], [2, 1, 1, 0, 0, 0, 0], [1, 0, 0, 0, 0, 0, 0], [2, 1, 2, 1, 0, 0, 0], [4, 0, 0, 0, 0, 1, 0], [3, 2, 3, 1, 0, 0, 0],
        [3, 0, 0, 0, 0, 0, 1]] := by
  decide +kernel

/-- Received: no complete frame, a faulty one, a TALLY to an ASK and a DECLINE fail the attempt or leave the window (R124). Clauses of
SupplyFrameReceived. -/
theorem witness_frameReceived :
    (let s := supplied (probing 1)
     let gets := fun (chars : List LinkChar) (s : State) =>
       let t := after (.supplyFrameReceived 0 chars) s
       ((slotView t 0).getD 2 0, (slotOf t 0).window.isSome, (slotOf t 0).lastDecline)
     [gets [linkChar 0x7E] s, gets ((encodeFrame 0x05 [3]).modify 2 fun c => { c with parity := !c.parity }) s,
       gets (encodeFrame 0x04 (List.replicate 17 0)) s, gets (encodeFrame 0x05 [3]) { s with time := 20 },
       gets (encodeFrame 0x05 [3]) { s with time := 21 }]) =
      [(1, true, none), (2, false, none), (2, false, none), (2, false, some 3), (1, true, none)] := by
  decide +kernel

/-- A state in which a PROBE SLOT waits on slot 0, and a START. -/
def waitedOn (s : State) : State := { s with orders := { s.orders with deferred := [⟨4, .probeSlot 0⟩, ⟨5, .start⟩] } }

/-- A frame of a kind that no cartridge sends, an IDENT to a DEBIT, and after the third failure the waiting PROBE SLOT: answered SUSPECT after an IDENT,
begun after a DEBIT (R124, R138, R140). Clauses of SupplyFrameReceived and AttemptsOnTheLink. -/
theorem witness_wrongKinds :
    slotView (after (.supplyFrameReceived 0 (encodeFrame 0x01 (List.replicate 8 0))) (supplied (probing 1))) 0 = [2, 1, 2, 1, 0, 0, 0] ∧
    slotView (after (.supplyFrameReceived 0 (encodeFrame 0x02 (List.replicate 23 0))) (supplied (debiting 1))) 0 = [3, 2, 2, 1, 0, 0, 0] ∧
    (let t := after (.answerWindowExpiry 0) (waitedOn (supplied (probing 3)))
     (answersIn t, (dataIn t).map fun d => (d.items.take 3, d.marks), t.orders.deferred)) =
      ([(4, .done)], some ([4, 0, 5], 2), [⟨5, .start⟩]) ∧
    slotView (after (.answerWindowExpiry 0) (waitedOn (supplied (debiting 3)))) 0 = [2, 1, 1, 1, 0, 0, 1] := by
  decide +kernel

/-- An IDENT of serial 5, model 0x1234 and capacity 4096, whatever its dispensed count and tag. -/
theorem identChars_read (dispensed : BitVec 24) (tag : BitVec 64) :
    decodeFrame (encodeFrame 0x02 ([0, 0, 0, 0, 0, 5, 0x12, 0x34, 0, 0x10, 0] ++ beBytes 3 dispensed.toNat ++ [0] ++ beBytes 8 tag.toNat)) =
      .ident 5 0x1234 4096 dispensed.toNat 0 tag := by
  rw [decodeFrame_encodeFrame _ _ (by simp) (by simp [frameLength])]
  have h1 := dispensed.isLt
  have h2 := tag.isLt
  simp [decodePayload, payloadNumber, Nat.mod_eq_of_lt h1]
  simp [beBytes, leBytes, fromBe, fromLe]
  apply BitVec.eq_of_toNat_eq
  rw [BitVec.toNat_ofNat]
  omega

/-- A TALLY of serial 5, whatever its dispensed count and its tag. -/
theorem tallyChars_read (dispensed : Byte) (tag : BitVec 64) :
    decodeFrame (encodeFrame 0x04 ([0, 0, 0, 0, 0, 5, 0, 0, dispensed] ++ beBytes 8 tag.toNat)) = .tally 5 dispensed.toNat tag := by
  rw [decodeFrame_encodeFrame _ _ (by simp) (by simp [frameLength])]
  have h2 := tag.isLt
  simp [decodePayload, payloadNumber]
  simp [beBytes, leBytes, fromBe, fromLe]
  apply BitVec.eq_of_toNat_eq
  rw [BitVec.toNat_ofNat]
  omega

/-- The tag of an IDENT of the cartridge with a dispensed count under nonce 77. -/
def identTag (dispensed : Nat) : BitVec 64 := Config.tagFunction ⟨1⟩ ⟨0x02, 77, 5, 0x1234, 4096, dispensed⟩

/-- The IDENT hypotheses of SupplyFrameReceived: a verification at the ceiling and at the floor, a rejection for each of model, plane, tag, capacity and
rollback, and the characters that bring the answer. -/
theorem witness_ident :
    verificationFinding (supplied (probing 1)) 0 77 5 0x1234 4096 10 (identTag 10) = none ∧
    verificationFinding (withSlot 0 (probing 1) running) 0 77 5 0x1234 4096 10 (identTag 10) = some .model ∧
    verificationFinding (supplied (probing 1)) 1 77 5 0x1234 4096 10 (identTag 10) = some .plane ∧
    verificationFinding (supplied (probing 1)) 0 77 5 0x1234 4096 10 (identTag 10 + 1) = some .tag ∧
    verificationFinding (supplied (probing 1)) 0 77 5 0x1234 4097 10 (Config.tagFunction ⟨1⟩ ⟨0x02, 77, 5, 0x1234, 4097, 10⟩) = some .capacity ∧
    verificationFinding (supplied (probing 1)) 0 77 5 0x1234 4096 9 (identTag 9) = some .rollback ∧
    (∃ chars, decodeFrame chars = .ident 5 0x1234 4096 10 0 (identTag 10)) ∧
    probeWaits 0 (supplied (probing 1)) = false := by
  have table : (supplied (probing 1)).supply.models = [⟨0x1234, 0, ⟨1⟩, 4096⟩] := rfl
  have seen : (supplied (probing 1)).supply.seen = [] := rfl
  have own : (slotOf (supplied (probing 1)) 0).cartridge = some cartridge := rfl
  refine ⟨?_, ?_, ?_, ?_, ?_, ?_, ⟨_, identChars_read 10 (identTag 10)⟩, by decide +kernel⟩
  · simp [verificationFinding, table, seen, own, cartridge, identTag]
  · simp [verificationFinding, show (withSlot 0 (probing 1) running).supply.models = [] from rfl]
  · simp [verificationFinding, table]
  · simp [verificationFinding, table, identTag]
  · simp [verificationFinding, table]
  · simp [verificationFinding, table, seen, own, cartridge, identTag]

/-- The tag of a TALLY of a number of units under nonce 77. -/
def tallyTag (dispensed : Nat) : BitVec 64 := Config.tagFunction ⟨1⟩ ⟨0x04, 77, 5, 0x1234, 4096, dispensed⟩

/-- The hypotheses of TallyConfirmsDebit: a window that runs, the exchange, the cartridge, and a TALLY with the right tag of the target and, for the COUNT
clause, of one unit more. -/
theorem witness_tally :
    (let s := supplied (debiting 1)
     s.power = .on ∧ (slotOf s 0).window = some 0 ∧ span s.time 0 ≤ 20 ∧ (slotOf s 0).exchange = .debit 1 77 74 false ∧
       (slotOf s 0).cartridge = some cartridge ∧ (slotOf s 0).state = .verified ∧ modelEntry s 0x1234 = some ⟨0x1234, 0, ⟨1⟩, 4096⟩) ∧
    (∃ chars, decodeFrame chars = .tally 5 74 (tallyTag 74)) ∧ ∃ chars, decodeFrame chars = .tally 5 75 (tallyTag 75) := by
  exact ⟨by decide +kernel, ⟨_, tallyChars_read 74 (tallyTag 74)⟩, _, tallyChars_read 75 (tallyTag 75)⟩

/-- A TALLY of another serial rejects for TAG, whatever its tag, ends the exchange and answers a waiting PROBE SLOT (R137, R140). The TAG clause of
TallyConfirmsDebit. -/
theorem test_tally_tag :
    (let s := { supplied (debiting 1) with orders := { running.orders with deferred := [⟨4, .probeSlot 0⟩] } }
     let t := after (.supplyFrameReceived 0 (encodeFrame 0x04 ([0, 0, 0, 0, 0, 6, 0, 0, 74] ++ List.replicate 8 0))) s
     ((slotOf t 0).state.code, (slotOf t 0).state.reason.map (·.code), (slotOf t 0).exchange.code, (eventsIn t).map Event.isAlarm, answersIn t)) =
      (5, some 2, 0, [true], [(4, .done)]) := by
  decide +kernel

/-- A verified cartridge with a pending debit that a smaller quantum starts: SET SUPPLY begins the DEBIT (R136, R142). A clause of
ProbeSlotAndSetSupplyOrders. -/
theorem witness_setSupply_debit :
    ([39, 38].map fun pending =>
      slotView (after .setSupply (withOrder 20 [39, 100]
        (supplied { Slot.absentFresh with state := .verified, cartridge := some cartridge, pending := pending }))) 0) =
      [[3, 2, 1, 1, 0, 0, 0], [3, 0, 0, 0, 0, 0, 0]] := by
  decide +kernel

/-- READ SLOT in a DEBIT exchange with a DECLINE kept, of a REJECTED slot, and of one with pending but no cartridge (R141, R180): state, reason, the
bytes from pending on, and the marks. Witnesses of ReadOrders. -/
theorem test_readSlot :
    ([{ debiting 2 with lastDecline := some 3 }, { debiting 2 with exchange := .none, state := .rejected .count },
      { Slot.absentFresh with state := .unknown, pending := 7 }].map fun r =>
        (dataIn (after .readSlot (withOrder 19 [0] (supplied r)))).map fun d => (d.items.take 2, d.items.drop 17, d.marks)) =
      [some ([3, 0], [64, 0, 0xB6, 0x0F, 0, 0xCC, 0, 0, 0, 0, 0, 3, 2, 2, 31], 14),
        some ([5, 5], [64, 0, 0xB6, 0x0F, 0, 0xCC, 0, 0, 0, 0, 0, 0, 0, 0, 31], 3), some ([1, 0], [7, 0, 0, 0, 0, 0, 0, 0, 0, 0, 0, 0, 0, 0, 31], 0)] := by
  decide +kernel

/-- A debit while the supply-fall warning stands writes the new pending as owed; one that changes no pending writes nothing (R133). A clause of
SettledDebitReachesSlot. -/
theorem witness_debit_pfw :
    (let s := supplied { Slot.absentFresh with state := .verified, cartridge := some cartridge, pending := 60 }
     let s := { s with sup := { s.sup with pfw := true }, supply := { s.supply with seen := [⟨6, 1, 2⟩, ⟨5, 10, 0⟩] } }
     [addDebit 0 3 s, addDebit 0 0 s].map fun t => (t.supply.seen.map (·.owed), t.meter.dirty)) = [([2, 63], [.seenList]), ([2, 0], [])] := by
  decide +kernel

/-- Debits at the quantum and one below, a clamp at 65,535, and an exhausted capacity (R91, R92, R136). Both clauses of
SettledDebitReachesSlot. -/
theorem witness_debit :
    (let verified : Slot := { Slot.absentFresh with state := .verified, cartridge := some cartridge }
     let adds := fun (pending debit : Nat) =>
       let t := addDebit 0 debit (withSlot 0 { verified with pending := pending } running)
       let r := slotOf t 0
       (r.pending, r.clamped, r.sending.length, match r.exchange with
         | .debit a _ target capped => (a, target, capped)
         | _ => (0, 0, false))
     [adds 60 3, adds 60 4, adds 4000 86, adds 65535 0, adds 65535 1]) =
      [(63, false, 0, (0, 0, false)), (64, false, 1, (1, 74, false)), (4086, false, 1, (1, 4096, false)), (65535, false, 1, (1, 4096, true)),
        (65535, true, 1, (1, 4096, true))] := by
  decide +kernel

/-- A raw fall and its reversal start and stop the settle timer; the door opens at once and is timed when it closes (R120, R121). Clauses of
BoardLines. -/
theorem witness_lineRaw :
    (let low := after (.lineRawChange (.presence 2) false) running
     let back := after (.lineRawChange (.presence 2) true) low
     let s := { supplied (probing 1) with lines := ⟨Quad.all true, true, false⟩ }
     let opened := after (.lineRawChange .door false) s
     let shut := after (.lineRawChange .door true) { opened with time := 9 }
     (low.supply.presenceTimers.q2, back.supply.presenceTimers.q2, (slotView opened 0), opened.supply.doorClosed, shut.supply.doorTimer,
       shut.supply.doorClosed)) =
      (some 0, none, [1, 0, 0, 0, 0, 0, 0], false, some 9, false) := by
  decide +kernel

/-- A settled fall with a serial in the seen list, a settled rise, and a settled door (R120 to R123, R133). Clauses of BoardLines. -/
theorem witness_lineSettle :
    (let s := { supplied (debiting 1) with lines := ⟨⟨false, true, true, true⟩, true, false⟩ }
     let s := { s with supply := { s.supply with presenceTimers := ⟨some 0, none, none, none⟩, seen := [⟨5, 10, 0⟩] } }
     let fell := after (.lineSettleExpiry (.presence 0)) s
     let low := { running with supply := { running.supply with presence := ⟨false, true, true, true⟩, presenceTimers := ⟨some 0, none, none, none⟩ } }
     let rose := after (.lineSettleExpiry (.presence 0)) (withSlot 0 Slot.absentFresh low)
     let door := after (.lineSettleExpiry .door) { running with supply := { running.supply with doorClosed := false, doorTimer := some 0 } }
     ((slotOf fell 0).state.code, fell.supply.seen.map (·.owed), (slotOf rose 0).state.code, (slotOf rose 0).probeDelay, door.supply.doorClosed,
       (slotOf door 3).probeDelay)) = (0, [64], 1, some 500, true, some 500) := by
  decide +kernel

/-- A door opening amid an exchange: the waiting PROBE SLOT answered UNKNOWN, SLOT_CHANGE, LINES, the frame being sent no longer live; a settled fall: the
PROBE SLOT answered ABSENT, SLOT_CHANGE, LINES; a settled closing: LINES alone for UNKNOWN slots; and the door open again before its closing settles (R120 to
R123, R126, R140). Clauses of BoardLines. -/
theorem witness_linesTold :
    (let s := { waitedOn (supplied { probing 1 with window := none, sending := [⟨[], true⟩, ⟨[], true⟩] }) with lines := ⟨Quad.all true, true, false⟩ }
     let s := { s with port := { s.port with control := [] } }
     let opened := after (.lineRawChange .door false) s
     let fell := after (.lineSettleExpiry (.presence 0)) { s with
       lines := ⟨⟨false, true, true, true⟩, true, false⟩, supply := { s.supply with presenceTimers := ⟨some 0, none, none, none⟩ } }
     let door := after (.lineSettleExpiry .door) { running with
       port := { running.port with control := [] }, supply := { running.supply with doorClosed := false, doorTimer := some 0 } }
     let again := after (.lineRawChange .door false) { running with supply := { running.supply with doorClosed := false, doorTimer := some 0 } }
     ([opened, fell, door].map queueIn, [opened, fell].map (fun t => (dataIn t).map (·.items.headD 9)),
       (slotOf opened 0).sending.map (·.live), opened.orders.deferred, again.supply.doorTimer)) =
      ([[4, 108, 110], [4, 108, 110], [110]], [some 1, some 0], [false], [⟨5, .start⟩], none) := by
  decide +kernel

/-- The supply-fall warning takes effect at once and writes owed (R133, R176). Clauses of BoardLines. -/
theorem witness_pfw :
    (let s := supplied (debiting 1)
     let t := after (.pfwChange true) { s with supply := { s.supply with seen := [⟨5, 10, 0⟩] } }
     (t.sup.pfw, t.lines.pfw, t.supply.seen.map (·.owed), t.meter.dirty.length)) = (true, true, [64], 1) := by
  decide +kernel

/-! ## Events, the header and the order ring -/

/-- A state with a number of unconsumed event records. -/
def filled (n : Nat) : State := { running with events := { running.events with produce := BitVec.ofNat 16 n } }

/-- The last free record holds OVERRUN, and after it events are lost, each with its sequence (R161, R163). The first clause of
EventAndHeaderWrites. -/
theorem witness_postEvent :
    ([254, 255, 256].map fun n =>
      let t := postEvent (.scrubIdle 1 0 8 .scrubbed) (filled n)
      (t.events.produce, t.events.nextSeq, t.port.control.getLast?.map fun a =>
        match a with
        | .event r => (r.index, r.event.kind)
        | _ => (0, 0))) =
      [(255, 1, some (254, 7)), (256, 1, some (255, 16)), (256, 1, some (0, 0))] := by
  decide +kernel

/-- SCRUB_IDLE at index 257, posted as sequence 3 at 0x01020304 ms, laid out by 11.4: kind, turn and alarm, sequence, stamp, payload. A clause of
EventAndHeaderWrites. -/
theorem witness_eventWrite :
    (let s := { running with port := { running.port with grant := some (.control (.event ⟨257, 3, 0x01020304, .scrubIdle 5 2 300 .removed⟩)) } }
     let t := after .eventWritePerformed s
     (readBytes t 8224 16, t.events.written, t.port.grant)) =
      ([7, 1, 3, 0, 4, 3, 2, 1, 5, 0, 2, 0, 0x2C, 1, 1, 0], 258, none) := by
  decide +kernel

/-- An alarm's write under FIRST with armed set: the latch and ATTN are set, armed clears, and the alarm's index is kept (R165, R166). A clause of
EventAndHeaderWrites. -/
theorem witness_alarmWrite :
    (let s := { running with
       events := { running.events with mode := .first, armed := true }
       port := { running.port with grant := some (.control (.event ⟨0, 9, 5, .rangeBreach .net 64 true 64⟩)) } }
     let t := after .eventWritePerformed s
     (readBytes t 8192 15, t.events.lastAlarm, t.events.latch, t.events.armed, t.events.attn)) =
      ([5, 2, 9, 0, 5, 0, 0, 0, 5, 64, 0, 1, 64, 0, 0], some 0, true, false, true) := by
  decide +kernel

/-- The whole header and the part-owned words alone, over memory of 0xFF (R152, R179). A clause of EventAndHeaderWrites. -/
theorem witness_headerWrite :
    (let w : HeaderWords := ⟨0x0102, 0x0304, .run, true, ⟨3, 0x83, 5, 0⟩, 60⟩
     let s := fun (whole : Bool) =>
       { running with mem := cellsAt 0 (List.replicate 72 0xFF), port := { running.port with grant := some (.control (.header whole w)) } }
     (readBytes (after .headerWritePerformed (s false)) 0 18, readBytes (after .headerWritePerformed (s true)) 0 18,
       readBytes (after .headerWritePerformed (s true)) 62 4)) =
      ([0xFF, 0xFF, 2, 1, 4, 3, 0xFF, 0xFF, 1, 1, 3, 0x83, 5, 0, 60, 0, 0xFF, 0xFF], [0, 0, 2, 1, 4, 3, 0, 0, 1, 1, 3, 0x83, 5, 0, 60, 0, 0, 0],
        [0, 0, 0xFF, 0xFF]) := by
  decide +kernel

/-- A fetch is placed for a posted order, and not without one, with one under way, behind four accesses, or where a deferred order holds the slot
(R156, R160). The fetch clauses of OrderFetchAndCommonChecks. -/
theorem witness_orderFetch :
    (let s := { running with orders := { running.orders with heldPost := 65, take := 64 }, port := { running.port with control := [] } }
     [s, { s with orders := { s.orders with heldPost := 64 } }, { s with orders := { s.orders with fetching := true } },
       { s with port := { s.port with control := List.replicate 4 (.fetch 0) } },
       { s with orders := { s.orders with deferred := [⟨0, .start⟩] } }].map fun s =>
         (after .orderFetch s).port.control.contains (.fetch 64)) = [true, false, false, false, false] := by
  decide +kernel

/-! ## Supervision, the store and the resets -/

/-- The keepalive's expiry enters LOCKDOWN and holds CTLRST; a pulse of 100 ms ends; a window of 2000 ms expires, its count held at 255 (R168, R169,
R173, R174). Clauses of SupervisionTimersAndKeepalive. -/
theorem witness_supervisionTimers :
    (let lock := after .keepaliveExpiry running
     let pulse := after .ctlrstPulseEnd { running with sup := { running.sup with ctlrst := .pulsing 0 } }
     let expire := after .provisioningTimerExpiry { State.reset with sup := { State.reset.sup with windowCount := 255 } }
     ((lock.time, lock.sup.device, lock.sup.ctlrst, (jobOf lock 2).isFree), (pulse.time, pulse.sup.ctlrst),
       (expire.time, expire.sup.windowCount, expire.sup.ctlrst, expire.sup.provTimer))) =
      ((1000, .lockdown, .held, true), (100, .deasserted), (2000, 255, .pulsing 2000, some 2000)) := by
  decide +kernel

/-- Stopped timers change nothing (log entry 1). -/
theorem witness_stoppedTimers :
    after .keepaliveExpiry (inState .service running) = inState .service running ∧ after .ctlrstPulseEnd running = running ∧
      after .provisioningTimerExpiry running = running := by
  decide +kernel

/-- `running` with a SETTLE entry of 3 clicks held, whose fold write is at an attempt. -/
def folding (attempt : Nat) : State :=
  let e : Entry := ⟨1, .settle 17 0 .mono 3 .printed⟩
  { running with
    store := { running.store with journal := [e], lastSeq := 1 }
    meter := { running.meter with
      accounts := [(17, ⟨⟨.active, 100⟩, ⟨3, 0, 3, 1, 0⟩, 0, 0⟩)]
      totals := ⟨⟨⟨1, 0⟩, ⟨0, 0⟩, ⟨0, 0⟩, ⟨0, 0⟩⟩, 3⟩
      write := some (.fold e (some 17) true, attempt)
      foldReported := false } }

/-- A fold write that reads back, and its two failures (R110 to R112). Clauses of StoreWriteEnds. -/
theorem witness_fold :
    (let good := after (.storeWriteDone true) (folding 1)
     let again := after (.storeWriteDone false) (folding 1)
     let failed := after (.storeWriteDone false) (folding 2)
     ((Table.get CountsBlock.blank good.store.counts 17, good.store.totals.totals.clicks, good.store.journal, good.meter.foldReported),
       again.meter.write.map (·.2), (failed.meter.failed, failed.meter.foldReported, failed.store.journal.length, failed.events.nextSeq))) =
      ((⟨⟨3, 0, 3, 1, 0⟩, 1⟩, 3, [], true), some 2, (true, true, 1, 1)) := by
  decide +kernel

/-- A fold write of a CREDIT and of a ROLL entry, and of a SETTLE entry whose blocks have taken it (R112). Clauses of StoreWriteEnds. -/
theorem witness_foldKinds :
    (let base := { folding 1 with store := { (folding 1).store with counts := [(17, ⟨⟨9, 1, 20, 3, 2⟩, 4⟩)], totals := ⟨Totals.zero, 4⟩ } }
     [(EntryBody.credit 17 2, 5, false), (.roll, 5, false), (.settle 17 2 .colour 4 .printed, 5, true), (.settle 17 2 .colour 4 .printed, 4, true)].map
       fun e =>
         let t := after (.storeWriteDone true) { base with meter := { base.meter with write := some (.fold ⟨e.2.1, e.1⟩ (some 17) e.2.2, 1) } }
         (Table.get CountsBlock.blank t.store.counts 17, t.store.totals.totals.clicks, t.store.totals.totals.pages.q2, t.store.totals.lastFolded)) =
      [(⟨⟨7, 1, 20, 3, 2⟩, 5⟩, 0, ⟨0, 0⟩, 4), (⟨⟨0, 9, 20, 3, 2⟩, 5⟩, 0, ⟨0, 0⟩, 4), (⟨⟨13, 1, 24, 3, 3⟩, 5⟩, 4, ⟨0, 1⟩, 5),
        (⟨⟨9, 1, 20, 3, 2⟩, 4⟩, 0, ⟨0, 0⟩, 4)] := by
  decide +kernel

/-- A background write of an account's settings commits the block as it is in use; with no write in progress nothing happens (R109, log entry 14).
Clauses of StoreWriteEnds. -/
theorem witness_block :
    (let s := { running with meter := { running.meter with dirty := [.accountSettings 17], write := some (.block (.accountSettings 17), 1) } }
     let t := after (.storeWriteDone true) s
     (t.store.settings, t.meter.dirty, t.meter.write.isNone)) = ([(17, ⟨.active, 100⟩)], [], true) ∧
    after (.storeWriteDone true) running = running := by
  decide +kernel

/-- A power-on amid a PASS write whose line had been performed, and amid a fold write: the line stands, the books are loaded, and jobs, pages and
views start anew (R108, R116, R177). Clauses of ResetsAndPowerLoss. -/
theorem witness_powerOn :
    (let t := after (.powerOn ⟨true, 1⟩) { writing with store := (folding 1).store, meter := (folding 1).meter }
     ((t.mem, (accountOf t 17).counts, t.store.counts), (t.sup.device, t.sup.cold, t.jobs.length, t.time))) =
      (([(66060288, 9), (66060290, 6)], ⟨3, 0, 3, 1, 0⟩, [(17, ⟨⟨3, 0, 3, 1, 0⟩, 1⟩)]), (.provision, true, 0, 0)) := by
  decide +kernel

/-- A scrub line in progress at a reset had been performed or not (R151). -/
theorem test_scrubCut :
    ([1, 2].map fun bits => (after (.warmReset ⟨false, BitVec.ofNat 8 bits⟩) (scrubbing 16383 true true)).mem.length) = [1, 2] := by
  decide +kernel

/-- A warm reset holds the part with its cold flag clear, and its release starts it; a power loss keeps store and memory (R108, R177). Clauses of
ResetsAndPowerLoss. -/
theorem witness_resets :
    (let held := after (.warmReset ⟨false, 0⟩) writing
     let on := after .resetnRelease held
     let off := after (.powerLoss ⟨false, 0⟩) (folding 1)
     ((held.power, held.sup.cold, held.mem), (on.power, on.sup.cold, (slotOf on 0).probeDelay), (off.power, off.meter.write.isNone, off.store.journal.length))) =
      ((.held, false, [(66060289, 5), (66060290, 6)]), (.on, false, some 0), (.off, true, 1)) := by
  decide +kernel

/-! ## States that meet the laws -/

/-- A state takes a step to a next one. -/
theorem steps (s : State) (h : step s = .next (stepped s)) : ∃ t, step s = .next t := ⟨_, h⟩

/-- The hypotheses of PurgeJobOrder and of CanonicalDataAndViewsKept. -/
theorem canonical_running : Canonical running ∧ Bounded running ∧ ViewsLawful running ∧ ∃ t, step running = .next t := by
  refine ⟨⟨?_, ?_, ?_, ?_, ?_, ?_, ?_⟩, ⟨?_, ?_, fun d h => nomatch h⟩, views_lawful rfl, steps _ rfl⟩ <;> decide +kernel

/-- The hypotheses of JournalLawKept: 63 entries and the reservation of a page in print. -/
theorem witness_journalLaw :
    let s := paged (.printing capture 0)
    JournalLaw { s with store := { s.store with journal := (List.range 63).map fun i => ⟨i + 1, .roll⟩ } } := by
  refine ⟨?_, ?_, ?_⟩ <;> decide +kernel

/-- The hypotheses of ScrubLawKept: two frames in the queue, the head's line being performed. -/
theorem witness_scrubLaw : ScrubLaw (scrubbing 16383 true true) := by
  have entry : ∀ f, frameOf (scrubbing 16383 true true) f =
      if 0 = f then ⟨.control, false⟩ else if 8 = f then ⟨.scrubbing, false⟩ else if 9 = f then ⟨.retired, false⟩ else FrameEntry.free := by
    intro f
    rfl
  have queue : (scrubbing 16383 true true).scrub = ⟨[8, 9], some 16383, false, 3, 2⟩ := rfl
  have grant : (scrubbing 16383 true true).port.grant = some (.scrub 8 16383 true) := rfl
  refine ⟨by decide +kernel, ?_, by decide +kernel, ?_, ?_, by decide +kernel, ?_, ?_, ?_, ?_⟩
  · intro f
    rw [entry]
    split_ifs <;> simp_all [FrameEntry.free] <;> omega
  · intro f
    rw [entry, queue]
    split_ifs <;> simp_all [FrameEntry.free, FrameState.residue] <;> omega
  · intro f
    rw [entry, queue]
    split_ifs <;> simp_all [FrameEntry.free]
    omega
  · intro l h
    rw [queue] at h
    simp_all
    omega
  · intro f l h
    rw [scrubLive, grant] at h
    rw [queue]
    simp_all
  · simp [queue]
  · intro _ _
    exact .inr ⟨8, 16383, grant⟩

/-- The hypotheses of HoldsLawKept and of FinalClicksNeverExceedProvisional: a page in print of an account that holds its charge in flight. -/
theorem witness_holdsLaw : HoldsLaw (paged (.printing capture 0)) ∧ pageOf (paged (.printing capture 0)) 3 = some { page with state := .printing capture 0 } := by
  have pages : ∀ slot, pageOf (paged (.printing capture 0)) slot = if 3 = slot then some { page with state := .printing capture 0 } else none :=
    fun _ => rfl
  have only : ∀ slot p, pageOf (paged (.printing capture 0)) slot = some p → p = { page with state := .printing capture 0 } := by
    intro slot p h
    rw [pages] at h
    split_ifs at h
    exact (Option.some.inj h).symm
  have accounts : ∀ a, accountOf (paged (.printing capture 0)) a = if 17 = a then ⟨⟨.active, 100⟩, Counts.zero, 1, 0⟩ else Account.blank := fun _ => rfl
  have held : ∀ a slot, heldBy (paged (.printing capture 0)) a slot = 0 := by
    intro a slot
    rw [heldBy, pages]
    split_ifs <;> rfl
  have number : accountNumber (paged (.printing capture 0)) { page with state := .printing capture 0 } = 17 := rfl
  have flight : ∀ a slot, inflightBy (paged (.printing capture 0)) a slot = if 3 = slot then (if 17 = a then 1 else 0) else 0 := by
    intro a slot
    rw [inflightBy, pages]
    split_ifs <;> simp_all [capture]
  refine ⟨⟨by decide +kernel, ?_, ?_, ?_, ?_, ?_, ?_, ?_, ?_⟩, by decide +kernel⟩
  · intro slot h
    rw [pages, if_neg (by omega)]
  · intro slot p h
    rw [only slot p h]
    decide +kernel
  · intro slot p h _
    rw [only slot p h]
    rfl
  · intro slot p n h
    rw [only slot p h]
    revert n
    decide +kernel
  · unfold ByColour.lawful
    decide +kernel
  · intro slot p c h hc
    rw [only slot p h] at hc ⊢
    cases hc
    unfold ByColour.lawful
    decide +kernel
  · intro a
    rw [accounts, List.map_congr_left fun slot _ => held a slot]
    split_ifs <;> rfl
  · intro a
    rw [accounts, List.map_congr_left fun slot _ => flight a slot]
    split_ifs <;> rfl

/-- The hypotheses of BooksSurvivePowerLoss: an entry whose fold write is in progress. -/
theorem witness_booksLaw : BooksLaw (folding 2) ∧ ∃ t, exec (.powerOn ⟨true, 0⟩) (folding 2) = .next t := by
  refine ⟨⟨by decide +kernel, by decide +kernel, by decide +kernel, by decide +kernel, by decide +kernel, ?_, by decide +kernel, ?_⟩, _, rfl⟩
  · intro a
    exact Nat.zero_le _
  · intro e a t n h
    cases h
    decide +kernel

/-- An order being fetched, and an event write and a header write that wait. -/
def ringing : State :=
  { running with
    orders := { running.orders with heldPost := 65, take := 1, fetching := true }
    events := { running.events with produce := 256, written := 255, consume := 0 }
    port := { grant := some (.control (.fetch 1)), guardCount := 3
              control := [.event ⟨255, 255, 0, .overrun 7 false⟩, .header false HeaderWords.powerOn] } }

/-- The hypotheses of RingsLawKept. -/
theorem witness_ringsLaw : RingsLaw ringing := by
  refine ⟨?_, ?_, ?_, ?_, ?_, ?_, ?_⟩ <;> decide +kernel

/-- A PRIVATE job with its key, and a slot whose key drains with the part in service. -/
def drainingKeys : State :=
  { running with
    jobs := [(1, ⟨.free, 3, .draining ⟨1⟩, 0, 0, 0⟩), (2, ⟨.active ⟨17, .priv, true⟩, 5, .loaded ⟨0⟩, 2, 0, 0⟩)]
    keyDraws := 2
    filter := { running.filter with
      service := some ⟨⟨.scan, 8388608, .read 1⟩, ⟨8, true, some .priv, some .plain, some 1, some 3, some 0, none, some ⟨1⟩, false⟩,
        .asking .read, [], [], none, none⟩ } }

/-- The hypotheses of KeysLawKept: a PRIVATE job with its key, and a slot whose key drains with the part in service. -/
theorem witness_keysLaw : KeysLaw drainingKeys := by
  have entry : ∀ j, jobOf drainingKeys j =
      if 1 = j then ⟨.free, 3, .draining ⟨1⟩, 0, 0, 0⟩
      else if 2 = j then ⟨.active ⟨17, .priv, true⟩, 5, .loaded ⟨0⟩, 2, 0, 0⟩ else Job.fresh := fun _ => rfl
  refine ⟨by decide +kernel, ?_, ?_, ?_, ?_, ?_⟩
  · intro j
    rw [entry]
    split_ifs <;> simp [Job.opening, Job.fresh]
  · intro j k
    rw [entry]
    split_ifs <;> simp [KeySlot.holds, Job.fresh] <;> rintro rfl <;> decide
  · intro i j k
    rw [entry, entry]
    split_ifs <;> simp only [KeySlot.holds, Job.fresh] <;> intro h g
    all_goals first
      | exact h.elim
      | exact g.elim
      | omega
      | exact absurd (h.trans g.symm) (by decide)
  · intro j k
    rw [entry]
    split_ifs <;> simp [Job.fresh]
    rintro rfl
    exact ⟨_, rfl, rfl⟩
  · intro v k hv hk
    cases hv
    cases hk
    exact ⟨1, by rw [entry]; simp [KeySlot.holds]⟩

/-- The hypotheses of SupplyLawKept: slot 0 in a DEBIT exchange with its window running. -/
theorem witness_supplyLaw : SupplyLaw (supplied (debiting 1)) := by
  have slots : slotOf (supplied (debiting 1)) = fun n => if n = 0 then debiting 1 else { Slot.absentFresh with state := .unknown } := by
    funext n
    fin_cases n <;> rfl
  refine ⟨?_, by decide +kernel, by decide +kernel, by decide +kernel, by decide +kernel, ⟨?_, ?_, ?_⟩, ⟨?_, ?_, ?_⟩⟩
  · intro n
    rw [slots]
    by_cases h : n = 0
    · simp only [h, if_true]
      exact ⟨by decide, by simp [debiting], by simp [debiting], by decide +kernel⟩
    · simp only [h, if_false]
      exact ⟨by decide, by simp [Slot.absentFresh], by simp [Slot.absentFresh], by decide +kernel⟩
  all_goals decide +kernel

/-- The states that meet the laws take a step, and the part runs after it. -/
theorem witness_lawsStep :
    ∀ s ∈ [running, scrubbing 16383 true true, paged (.printing capture 0), folding 2, ringing, drainingKeys, supplied (debiting 1)],
      step s = .next (stepped s) ∧ (stepped s).power = .on := by
  intro s hs
  simp only [List.mem_cons, List.not_mem_nil, or_false] at hs
  rcases hs with rfl | rfl | rfl | rfl | rfl | rfl | rfl <;> exact ⟨rfl, rfl⟩

end Sys2Proof.Tests
end

section
/-! Chapter 01's orders: the take of an order check by check, runs of frames, the scrub queue's tail, the View Table's entries; then
BIND FRAMES, RELEASE FRAMES and SET VIEW. -/

namespace Sys2Proof.Machine

/-! ## The take of an order, check by check (R157) -/

/-- An order with no check left is carried out. -/
@[simp] theorem checked_nil (s : State) (act : State → State × Answer) : checked [] s act = act s := rfl

/-- The first check refuses the order, or the others decide. -/
theorem checked_cons (b : Bool) (a : Answer) (checks : List (Bool × Answer)) (s : State) (act : State → State × Answer) :
    checked ((b, a) :: checks) s act = if b = true then (s, a) else checked checks s act := by
  cases b <;> rfl

/-- The take of a fetched order whose length and turn are right: the device state is checked, then the order's own meaning follows. -/
theorem OrderReady.taken_eq {kind : Nat} {ps : List Nat} {s : State} (h : OrderReady kind ps s) (accepts : DeviceState → Bool)
    (act : List Nat → State → State × Answer) :
    taken (takeOrder kind accepts act) s =
      .next (closeTake (answerAndAdvance (checked [(!accepts s.sup.device, .plain .mode 0)] (fetchDone s) (act ps)))) := by
  rw [taken_some h.on (takeOrder_some h.fetched rfl)]
  simp [commonChecks, checked_cons]

/-- One check of an order: where it fails the order is refused with its answer, and where it passes the remaining checks decide. -/
theorem refused_or_rest {P Q : Prop} [Decidable P] {b : Bool} {code : Code} {detail : Nat} {checks : List (Bool × Answer)} {s : State}
    {act : State → State × Answer} {x : Result}
    (hx : x = .next (closeTake (answerAndAdvance (checked ((b, .plain code detail) :: checks) (fetchDone s) act))))
    (hb : b = true ↔ P)
    (rest : ¬ P → x = .next (closeTake (answerAndAdvance (checked checks (fetchDone s) act))) → Q) :
    if P then x = .next (refusedWith s code detail) else Q := by
  rw [checked_cons] at hx
  split
  · next hP => rw [if_pos (hb.mpr hP)] at hx; exact hx
  · next hP => rw [if_neg (mt hb.mp hP)] at hx; exact rest hP hx

/-- An order that has passed every check is carried out and answered. -/
theorem carried_out {s u : State} {a : Answer} {act : State → State × Answer} {x : Result}
    (hx : x = .next (closeTake (answerAndAdvance (checked [] s act)))) (hu : (act s).1 = u) (ha : (act s).2 = a) :
    x = .next (answered u a) := by
  subst hu ha
  exact hx

/-- The device states that refuse a work order (R157). -/
theorem not_inWork_iff (d : DeviceState) : (!inWork d) = true ↔ d ≠ .run ∧ d ≠ .service := by
  cases d <;> simp [inWork]

/-- LOCKDOWN alone refuses a settings order (R157). -/
theorem not_inSettings_iff (d : DeviceState) : (!inSettings d) = true ↔ d = .lockdown := by
  cases d <;> simp [inSettings]

@[simp] theorem frameOf_fetchDone (s : State) (f : Nat) : frameOf (fetchDone s) f = frameOf s f := rfl
@[simp] theorem jobOf_fetchDone (s : State) (j : Nat) : jobOf (fetchDone s) j = jobOf s j := rfl
@[simp] theorem frameLimit_fetchDone (s : State) : frameLimit (fetchDone s) = frameLimit s := rfl

/-- A generation is stale when it is not the job record's (R41). -/
@[simp] theorem staleGeneration_iff (s : State) (j g : Nat) :
    staleGeneration s j g = true ↔ BitVec.ofNat 16 g ≠ (jobOf s j).generation := by
  simp [staleGeneration]

/-! ## A record written twice -/

/-- What is put in under a number goes when the number is erased. -/
theorem Table.erase_insert {α : Type} (t : Table α) (k : Nat) (v : α) :
    Table.erase (Table.insert k v t) k = Table.erase t k := by
  induction t with
  | nil => simp [Table.insert, Table.erase]
  | cons e t ih =>
    unfold Table.insert
    split
    · simp [Table.erase]
    · simp only [Table.erase, List.filter_cons] at ih ⊢
      rw [ih]

/-- Of two writes of one number the second alone stands, in any table. -/
theorem Table.set_set {α : Type} [DecidableEq α] (d : α) (t : Table α) (k : Nat) (v w : α) :
    Table.set d (Table.set d t k v) k w = Table.set d t k w := by
  have herase : Table.erase (Table.set d t k v) k = Table.erase t k := by
    have htwice : Table.erase (Table.erase t k) k = Table.erase t k := by simp [Table.erase]
    unfold Table.set
    split
    · exact htwice
    · rw [Table.erase_insert, htwice]
  show (if w = d then (Table.set d t k v).erase k else Table.insert k w ((Table.set d t k v).erase k)) = Table.set d t k w
  rw [herase]
  rfl

theorem setJob_setJob (j : Nat) (q r : Job) (s : State) : setJob j r (setJob j q s) = setJob j r s := by
  simp [setJob, Table.set_set]

/-! ## Runs of frames -/

/-- The entries of a run written in ascending order, the entry at position `i` being `entry i`. -/
def setRun (first count : Nat) (entry : Nat → FrameEntry) (s : State) : State :=
  (List.range count).foldl (fun t i => setFrame (first + i) (entry i) t) s

theorem setRun_succ (first count : Nat) (entry : Nat → FrameEntry) (s : State) :
    setRun first (count + 1) entry s = setFrame (first + count) (entry count) (setRun first count entry s) := by
  simp [setRun, List.range_succ]

/-- Writing a run changes nothing but the Frame Table. -/
theorem setRun_eq (first count : Nat) (entry : Nat → FrameEntry) (s : State) :
    setRun first count entry s = { s with frames := (setRun first count entry s).frames } := by
  induction count with
  | zero => rfl
  | succ n ih => rw [setRun_succ, ih]; rfl

@[simp] theorem setRun_size (first count : Nat) (entry : Nat → FrameEntry) (s : State) :
    (setRun first count entry s).frames.size = s.frames.size := by
  induction count with
  | zero => rfl
  | succ n ih => rw [setRun_succ, setFrame_size, ih]

/-- Writing a run and replacing the scrub queue commute. -/
theorem setRun_with_scrub (first count : Nat) (entry : Nat → FrameEntry) (s : State) (c : Scrub) :
    setRun first count entry { s with scrub := c } = { setRun first count entry s with scrub := c } := by
  induction count with
  | zero => rfl
  | succ n ih => rw [setRun_succ, setRun_succ, ih]; rfl

/-- After a run is written, its frames hold their entries and every other frame is as it was. -/
theorem frameOf_setRun (first count : Nat) (entry : Nat → FrameEntry) (s : State) (f : Nat) :
    frameOf (setRun first count entry s) f =
      if first ≤ f ∧ f < first + count then entry (f - first) else frameOf s f := by
  induction count with
  | zero => rw [if_neg (by omega)]; rfl
  | succ n ih =>
    rw [setRun_succ, frameOf_setFrame, ih]
    by_cases hlast : first + n = f
    · subst hlast
      simp
    · have hsame : (first ≤ f ∧ f < first + n) ↔ first ≤ f ∧ f < first + (n + 1) := by omega
      simp only [hlast, if_false, hsame]

theorem run_succ (first count : Nat) : run first (count + 1) = run first count ++ [first + count] := by
  simp [run, List.range_succ]

/-- A test on the frames of a run, said of their positions. -/
theorem any_run_iff (first count : Nat) (p : Nat → Bool) :
    (run first count).any p = true ↔ ∃ i, i < count ∧ p (first + i) = true := by
  simp [run]

/-- Binding a run is writing its entries (R15). -/
theorem bindRun_eq_setRun (j first count lb : Nat) (s : State) :
    bindRun j first count lb s = setRun first count (fun i => ⟨.bound ⟨j, lb + i, none⟩, false⟩) s := rfl

/-- A block of the order's run stands in a BOUND frame of the job (R14). -/
theorem blockTaken_iff (s : State) (j lb n : Nat) :
    blockTaken s j lb n = true ↔
      ∃ e ∈ s.frames.entries, ((boundTo j e.2).any fun b => decide (lb ≤ b.block) && decide (b.block < lb + n)) = true := by
  rw [blockTaken, List.any_eq_true]
  refine exists_congr fun e => and_congr_right fun _ => ?_
  cases boundTo j e.2 <;> rfl

/-! ## Frames that leave a job (R17, R145) -/

/-- The scrub queue with frames added at its tail; an empty queue begins at line 0 of the first (R145, R146). -/
def Scrub.join (c : Scrub) (frames : List Nat) : Scrub :=
  { c with queue := c.queue ++ frames
           progress := if c.queue = [] then some 0 else c.progress
           offered := if c.queue = [] then true else c.offered }

/-- The entry of a frame retired at a position of a run: SCRUBBING where it becomes the queue's head (R145). -/
def retiredEntry (queue : List Nat) (i : Nat) : FrameEntry :=
  if queue = [] ∧ i = 0 then ⟨.scrubbing, false⟩ else ⟨.retired, false⟩

theorem Scrub.join_append (c : Scrub) {fs : List Nat} (gs : List Nat) (h : fs ≠ []) : (c.join fs).join gs = c.join (fs ++ gs) := by
  simp [Scrub.join, h]

/-- A retired frame is written once, as the queue's head or behind it. -/
theorem retireFrame_eq (f : Nat) (s : State) :
    retireFrame f s = setFrame f (retiredEntry s.scrub.queue 0) { s with scrub := s.scrub.join [f] } := by
  unfold retireFrame
  by_cases h : s.scrub.queue = []
  · simp only [h, if_true, startHead, retiredEntry, true_and]
    simp [setFrame, Table.set_set, Scrub.join, h]
  · simp [h, retiredEntry, Scrub.join]

/-- A frame as it leaves a job, RETIRED or OPEN; the job's count apart. -/
def leaveFrame (retires : Bool) (s : State) (f : Nat) : State :=
  if retires then retireFrame f s else setFrame f FrameEntry.free s

theorem releaseFrame_eq (j : Nat) (s : State) (f : Nat) :
    releaseFrame j s f =
      setJob j { jobOf s j with bound := (jobOf s j).bound - 1 } (leaveFrame (jobOf s j).retires s f) := rfl

/-- The frame's change and the job's commute. -/
theorem leaveFrame_setJob (retires : Bool) (j : Nat) (r : Job) (s : State) (f : Nat) :
    leaveFrame retires (setJob j r s) f = setJob j r (leaveFrame retires s f) := by
  cases retires
  · rfl
  · simp only [leaveFrame, if_true, retireFrame_eq]
    rfl

/-- A run released one by one: its frames leave the job, and the job's count falls by their number. -/
theorem releaseRun_eq (j first n : Nat) (s : State) :
    (run first (n + 1)).foldl (releaseFrame j) s =
      setJob j { jobOf s j with bound := (jobOf s j).bound - (n + 1) }
        ((run first (n + 1)).foldl (leaveFrame (jobOf s j).retires) s) := by
  induction n with
  | zero => rfl
  | succ n ih =>
    rw [run_succ, List.foldl_append, List.foldl_append, ih]
    simp only [List.foldl_cons, List.foldl_nil, releaseFrame_eq, jobOf_setJob, if_true, leaveFrame_setJob, setJob_setJob]
    rfl

/-- The frames of a run that become OPEN. -/
theorem leaveRun_open (first count : Nat) (s : State) :
    (run first count).foldl (leaveFrame false) s = setRun first count (fun _ => FrameEntry.free) s := by
  rw [run, List.foldl_map]
  rfl

/-- The frames of a run that are retired stand at the queue's tail in order. -/
theorem leaveRun_retire (first n : Nat) (s : State) :
    (run first (n + 1)).foldl (leaveFrame true) s =
      setRun first (n + 1) (retiredEntry s.scrub.queue) { s with scrub := s.scrub.join (run first (n + 1)) } := by
  induction n with
  | zero => exact retireFrame_eq first s
  | succ n ih =>
    have hne : run first (n + 1) ≠ [] := by simp [run_succ]
    have hbehind : retiredEntry (s.scrub.join (run first (n + 1))).queue 0 = retiredEntry s.scrub.queue (n + 1) := by
      simp [retiredEntry, Scrub.join, hne]
    simp only [run_succ first (n + 1), List.foldl_append, ih, List.foldl_cons, List.foldl_nil, setRun_with_scrub,
      setRun_succ first (n + 1), ← Scrub.join_append _ _ hne, ← hbehind]
    exact retireFrame_eq _ _

/-! ## The View Table (R7, R9, R10) -/

theorem ViewRow.of_set (r : ViewRow) (src k : Source) (v : View) :
    (r.set src v).of k = if k = src then v else r.of k := by
  cases src <;> cases k <;> rfl

theorem ViewTable.row_put (t : ViewTable) (c d : FrameClass) (src : Source) (v : View) :
    (t.put c src v).row d = if d = c then (t.row c).set src v else t.row d := by
  cases c <;> cases d <;> rfl

/-- A put changes the one entry of its class and source. -/
theorem ViewTable.look_put (t : ViewTable) (c d : FrameClass) (src k : Source) (v : View) :
    (t.put c src v).look d k = if d = c ∧ k = src then v else t.look d k := by
  rw [look, row_put]
  by_cases hd : d = c
  · subst hd
    simp [ViewRow.of_set, look]
  · simp [hd, look]

/-- The views that make no sense for a class, as R10 lists them. -/
theorem senseless_iff (c : FrameClass) (v : View) :
    senseless c v = true ↔ v = .metered ∨ (c = .opened ∧ (v = .plain ∨ v = .cipher)) ∨
      (c = .shared ∧ (v = .plain ∨ v = .cipher)) ∨ (c = .priv ∧ v = .pass) := by
  cases c <;> cases v <;> simp [senseless]

/-- The pinned entries, as R9 lists them. -/
theorem pinned_iff (c : FrameClass) (src : Source) :
    pinned c src = true ↔ c = .control ∨ c = .retired ∨ src = .print ∨ (c = .priv ∧ (src = .cpu ∨ src = .net)) := by
  cases c <;> cases src <;> simp [pinned]

@[simp] theorem FrameClass.ofCode_code (c : FrameClass) : FrameClass.ofCode c.code = some c := by cases c <;> rfl
@[simp] theorem sourceOfTag_sourceTag (src : Source) : sourceOfTag (sourceTag src) = some src := by cases src <;> rfl
@[simp] theorem View.ofCode_code (v : View) : View.ofCode v.code = some v := by cases v <;> rfl

theorem FrameClass.ofCode_eq_none {n : Nat} : FrameClass.ofCode n = none ↔ 4 < n := by
  rcases n with _ | _ | _ | _ | _ | n <;> simp [FrameClass.ofCode]

theorem sourceOfTag_eq_none {n : Nat} : sourceOfTag n = none ↔ 7 < n := by
  rcases n with _ | _ | _ | _ | _ | _ | _ | _ | n <;> simp [sourceOfTag]

theorem View.ofCode_eq_none {n : Nat} : View.ofCode n = none ↔ 4 < n := by
  rcases n with _ | _ | _ | _ | _ | n <;> simp [View.ofCode]

/-- A code that names no class is refused with RANGE, detail 1 (R10). -/
theorem setViewOrder_class {c : Nat} (src v : Nat) (s : State) (hc : 4 < c) :
    setViewOrder [c, src, v] s = (s, .plain .range 1) := by
  simp [setViewOrder, arg, FrameClass.ofCode_eq_none.mpr hc]

/-- Behind a class, a code that names no source is refused with RANGE, detail 2 (R10). -/
theorem setViewOrder_source {c src : Nat} (v : Nat) (s : State) (hc : c ≤ 4) (hsrc : 7 < src) :
    setViewOrder [c, src, v] s = (s, .plain .range 2) := by
  obtain ⟨cls, hcls⟩ := Option.ne_none_iff_exists'.mp (mt FrameClass.ofCode_eq_none.mp (Nat.not_lt.mpr hc))
  simp [setViewOrder, arg, hcls, sourceOfTag_eq_none.mpr hsrc]

/-- Behind a class and a source, a code that names no view is refused with RANGE, detail 3 (R10). -/
theorem setViewOrder_view {c src v : Nat} (s : State) (hc : c ≤ 4) (hsrc : src ≤ 7) (hv : 4 < v) :
    setViewOrder [c, src, v] s = (s, .plain .range 3) := by
  obtain ⟨cls, hcls⟩ := Option.ne_none_iff_exists'.mp (mt FrameClass.ofCode_eq_none.mp (Nat.not_lt.mpr hc))
  obtain ⟨source, hsource⟩ := Option.ne_none_iff_exists'.mp (mt sourceOfTag_eq_none.mp (Nat.not_lt.mpr hsrc))
  simp [setViewOrder, arg, hcls, hsource, View.ofCode_eq_none.mpr hv]

/-- With codes that name a class, a source and a view, sense and pin are checked and the entry is put (R10). -/
theorem setViewOrder_codes (c : FrameClass) (src : Source) (v : View) (s : State) :
    setViewOrder [c.code, sourceTag src, v.code] s =
      checked [(senseless c v, .plain .range 3), (pinned c src, .plain .pinned 2)] s fun s =>
        ({ s with views := s.views.put c src v }, .done) := by
  simp [setViewOrder, arg]

/-! ## The three orders up to their own checks -/

theorem exec_bindFrames {ps : List Nat} {s : State} (h : OrderReady 1 ps s) :
    exec .bindFrames s =
      .next (closeTake (answerAndAdvance (checked [(!inWork s.sup.device, .plain .mode 0)] (fetchDone s) (bindFramesOrder ps)))) :=
  h.taken_eq inWork bindFramesOrder

theorem exec_releaseFrames {ps : List Nat} {s : State} (h : OrderReady 2 ps s) :
    exec .releaseFrames s =
      .next (closeTake (answerAndAdvance (checked [(!inWork s.sup.device, .plain .mode 0)] (fetchDone s) (releaseFramesOrder ps)))) :=
  h.taken_eq inWork releaseFramesOrder

theorem exec_setView_lockdown {ps : List Nat} {s : State} (h : OrderReady 3 ps s) (hd : s.sup.device = .lockdown) :
    exec .setView s = .next (refusedWith s .mode 0) := by
  have hx := h.taken_eq inSettings setViewOrder
  rw [checked_cons, if_pos ((not_inSettings_iff _).mpr hd)] at hx
  exact hx

theorem exec_setView {ps : List Nat} {s : State} (h : OrderReady 3 ps s) (hd : s.sup.device ≠ .lockdown) :
    exec .setView s = .next (closeTake (answerAndAdvance (setViewOrder ps (fetchDone s)))) := by
  have hx := h.taken_eq inSettings setViewOrder
  rw [checked_cons, if_neg (mt (not_inSettings_iff _).mp hd)] at hx
  exact hx

/-- The run that BIND FRAMES binds, as the Frame Table's new content (R15). -/
theorem bindRun_effect (j first count lb : Nat) (r : Job) (s : State) :
    ∃ frames : Frames, frames.size = s.frames.size ∧
      (∀ f, Table.get FrameEntry.free frames.entries f =
        if first ≤ f ∧ f < first + count then ⟨.bound ⟨j, lb + (f - first), none⟩, false⟩ else frameOf s f) ∧
      bindRun j first count lb (setJob j r s) = { setJob j r s with frames := frames } := by
  refine ⟨(bindRun j first count lb (setJob j r s)).frames, ?_, fun f => ?_, ?_⟩
  · rw [bindRun_eq_setRun, setRun_size, setJob_frames]
  · exact frameOf_setRun first count _ (setJob j r s) f
  · exact setRun_eq first count _ (setJob j r s)

/-- The run that RELEASE FRAMES releases, where the job's frames become OPEN (R17). -/
theorem releaseRun_open {j first count : Nat} {s : State} (hcount : count ≠ 0) (hr : (jobOf s j).retires = false) :
    ∃ frames : Frames, frames.size = s.frames.size ∧
      (run first count).foldl (releaseFrame j) s =
        { setJob j { jobOf s j with bound := (jobOf s j).bound - count } s with frames := frames } ∧
      ∀ f, Table.get FrameEntry.free frames.entries f =
        if first ≤ f ∧ f < first + count then ⟨.opened, false⟩ else frameOf s f := by
  obtain ⟨n, rfl⟩ := Nat.exists_eq_succ_of_ne_zero hcount
  refine ⟨(setRun first (n + 1) (fun _ => FrameEntry.free) s).frames, setRun_size .., ?_, frameOf_setRun first (n + 1) _ s⟩
  rw [releaseRun_eq, hr, leaveRun_open, setRun_eq]
  rfl

/-- The run that RELEASE FRAMES releases, where the job's frames are retired (R17, R145). -/
theorem releaseRun_retire {j first count : Nat} {s : State} (hcount : count ≠ 0) (hr : (jobOf s j).retires = true) :
    ∃ frames : Frames, frames.size = s.frames.size ∧
      (run first count).foldl (releaseFrame j) s =
        { setJob j { jobOf s j with bound := (jobOf s j).bound - count } s with
          frames := frames, scrub := s.scrub.join (run first count) } ∧
      ∀ f, Table.get FrameEntry.free frames.entries f =
        if first ≤ f ∧ f < first + count then
          (if s.scrub.queue = [] ∧ f = first then ⟨.scrubbing, false⟩ else ⟨.retired, false⟩)
        else frameOf s f := by
  obtain ⟨n, rfl⟩ := Nat.exists_eq_succ_of_ne_zero hcount
  refine ⟨(setRun first (n + 1) (retiredEntry s.scrub.queue) s).frames, setRun_size .., ?_, fun f => ?_⟩
  · rw [releaseRun_eq, hr, leaveRun_retire, setRun_with_scrub, setRun_eq]
    rfl
  · refine (frameOf_setRun first (n + 1) _ s f).trans (ite_congr rfl (fun hf => ?_) fun _ => rfl)
    have hhead : f - first = 0 ↔ f = first := by omega
    simp only [retiredEntry, hhead]

end Sys2Proof.Machine

/-! ## The obligations -/

namespace Sys2Proof.Proofs

open Sys2Proof.Machine

/-- Settles O28: the codes' ranges by the tables of codes, then sense and pin check by check. -/
theorem setViewOrder : Obligations.SetViewOrder := by
  intro s
  refine ⟨fun c src v h => ⟨exec_setView_lockdown h, fun hd hc => ?_, fun hd hc hsrc => ?_, fun hd hc hsrc hv => ?_⟩,
    fun c src v h hd => ?_⟩
  · rw [exec_setView h hd, setViewOrder_class _ _ _ hc]; rfl
  · rw [exec_setView h hd, setViewOrder_source _ _ hc hsrc]; rfl
  · rw [exec_setView h hd, setViewOrder_view _ hc hsrc hv]; rfl
  · have hx := exec_setView h hd
    rw [setViewOrder_codes] at hx
    refine refused_or_rest hx (senseless_iff c v) fun _ hx => ?_
    refine refused_or_rest hx (pinned_iff c src) fun _ hx => ?_
    exact ⟨s.views.put c src v, fun d k => ViewTable.look_put .., carried_out hx rfl rfl⟩

/-- Settles O26: the checks of R14 one by one, then the run's entries. -/
theorem bindFramesOrder : Obligations.BindFramesOrder := by
  intro s j g first count lb h
  refine refused_or_rest (exec_bindFrames h) (not_inWork_iff _) fun _ hx => ?_
  rw [checked_nil, Machine.bindFramesOrder] at hx
  refine refused_or_rest hx (by simp [arg]) fun _ hx => ?_
  refine refused_or_rest hx (by simp [arg]) fun hcount hx => ?_
  refine refused_or_rest hx (by simp [arg]) fun _ hx => ?_
  refine refused_or_rest hx (by simp [arg]; omega) fun _ hx => ?_
  refine refused_or_rest hx (staleGeneration_iff ..) fun _ hx => ?_
  refine refused_or_rest hx (by simp [arg]) fun _ hx => ?_
  refine refused_or_rest hx ((any_run_iff ..).trans (by simp [arg])) fun _ hx => ?_
  refine refused_or_rest hx (by simp [arg]; omega) fun _ hx => ?_
  refine refused_or_rest hx (blockTaken_iff ..) fun _ hx => ?_
  obtain ⟨frames, hsize, hframes, hrun⟩ := bindRun_effect j first count lb
    { jobOf s j with bound := (jobOf s j).bound + count } (fetchDone s)
  exact ⟨frames, hsize, hframes, carried_out hx hrun rfl⟩

/-- Settles O27: the checks of R16 one by one, then the run OPEN or retired by the job's release. -/
theorem releaseFramesOrder : Obligations.ReleaseFramesOrder := by
  intro s j g first count h
  refine refused_or_rest (exec_releaseFrames h) (not_inWork_iff _) fun _ hx => ?_
  rw [checked_nil, Machine.releaseFramesOrder] at hx
  refine refused_or_rest hx (by simp [arg]) fun _ hx => ?_
  refine refused_or_rest hx (by simp [arg]) fun hcount hx => ?_
  refine refused_or_rest hx (by simp [arg]; omega) fun _ hx => ?_
  refine refused_or_rest hx (staleGeneration_iff ..) fun _ hx => ?_
  refine refused_or_rest hx Iff.rfl fun _ hx => ?_
  refine refused_or_rest hx ((any_run_iff ..).trans (by simp [arg])) fun _ hx => ?_
  refine refused_or_rest hx (any_run_iff ..) fun _ hx => ?_
  have hne : count ≠ 0 := fun h0 => hcount (.inl h0)
  cases hr : (jobOf s j).retires
  case false =>
    obtain ⟨frames, hsize, hrun, hframes⟩ := releaseRun_open (first := first) (s := fetchDone s) hne hr
    exact ⟨frames, s.scrub, hsize, carried_out hx hrun rfl, .inl ⟨rfl, rfl, hframes⟩⟩
  case true =>
    obtain ⟨frames, hsize, hrun, hframes⟩ := releaseRun_retire (first := first) (s := fetchDone s) hne hr
    refine ⟨frames, s.scrub.join (run first count), hsize, carried_out hx hrun rfl,
      .inr ⟨rfl, rfl, rfl, rfl, fun hq => ?_, fun hq => ?_, hframes⟩⟩
    · exact ⟨if_neg hq, if_neg hq⟩
    · exact ⟨if_pos hq, if_pos hq⟩

end Sys2Proof.Proofs
end

section
/-! Chapter 04's order TICKET PAGE: the common page checks, the live page that they find, the allowance, and the reservation of an entry. -/

namespace Sys2Proof.Machine

/-! ## The common page checks (R62) -/

/-- Two checks that refuse with one answer are one check. -/
theorem checked_cons_same (b c : Bool) (a : Answer) (checks : List (Bool × Answer)) (s : State) (act : State → State × Answer) :
    checked ((b, a) :: (c, a) :: checks) s act = checked ((b || c, a) :: checks) s act := by
  cases b <;> rfl

/-- A FREE job slot is not ACTIVE. -/
theorem Job.isActive_of_isFree {r : Job} (h : r.isFree = true) : r.isActive = false := by
  obtain ⟨_ | _ | _, _⟩ := r
  case free => rfl
  all_goals exact Bool.noConfusion h

/-- TICKET PAGE's two checks of the job's state: they pass exactly on an ACTIVE job. -/
theorem Job.isFree_or_not_isActive_iff (r : Job) : (r.isFree || (true && !r.isActive)) = true ↔ r.isActive = false := by
  simpa using Job.isActive_of_isFree

/-- A live page is the record of its page slot (R62). -/
theorem pageOf_of_liveFor {s : State} {slot j : Nat} {g : Index} {p : Page} (h : liveFor s slot j g = some p) : pageOf s slot = some p := by
  obtain ⟨q, hq, hlive⟩ := Option.bind_eq_some_iff.mp h
  exact hq.trans (Option.ite_none_right_eq_some.mp hlive).2

/-- The last common page check: with no live page the order is refused, and with one the order acts on the record of the page slot. -/
theorem refused_or_live {s : State} {slot j : Nat} {g : Index} {code : Code} {detail : Nat} {act : State → State × Answer} {x : Result}
    (hx : x = .next (closeTake (answerAndAdvance (checked [((liveFor s slot j g).isNone, .plain code detail)] (fetchDone s) act)))) :
    (liveFor s slot j g = none → x = .next (refusedWith s code detail)) ∧
      ∀ p, liveFor s slot j g = some p →
        pageOf (fetchDone s) slot = some p ∧ x = .next (closeTake (answerAndAdvance (act (fetchDone s)))) := by
  refine ⟨fun hnone => ?_, fun p hp => ⟨pageOf_of_liveFor hp, ?_⟩⟩
  · rwa [hnone] at hx
  · rwa [hp] at hx

/-! ## The allowance and the journal entry (R98, R107) -/

/-- A charge is not allowed when there is a limit and the account's clicks would exceed it (R98). -/
theorem not_allows_iff (a : Account) (c : Nat) :
    (!a.allows c) = true ↔ a.settings.limit ≠ 16777215 ∧ a.settings.limit < a.counts.settled + a.inflight + a.held + c := by
  simp only [Account.allows, Bool.not_eq_true', Bool.or_eq_false_iff, decide_eq_false_iff_not, Nat.not_le]
  rfl

/-- The reservation of the last free entry posts METER_FULL, and no other does (R107). -/
theorem reserve_eq (s : State) :
    reserve s =
      let t := { s with meter := { s.meter with reservations := s.meter.reservations + 1 } }
      if freeCount s = 1 then postEvent (.meterFull s.store.journal.length (s.meter.reservations + 1) s.meter.failed) t else t := by
  refine ite_congr (propext ⟨And.left, fun h => ⟨h, ?_⟩⟩) (fun _ => rfl) fun _ => rfl
  unfold freeCount at h ⊢
  dsimp only
  omega

/-! ## TICKET PAGE up to its own checks -/

theorem exec_ticketPage {ps : List Nat} {s : State} (h : OrderReady 8 ps s) :
    exec .ticketPage s =
      .next (closeTake (answerAndAdvance (checked [(!inWork s.sup.device, .plain .mode 0)] (fetchDone s) (ticketPageOrder ps)))) :=
  h.taken_eq inWork ticketPageOrder

end Sys2Proof.Machine

/-! ## The obligation -/

namespace Sys2Proof.Proofs

open Sys2Proof.Machine

/-- Settles O33: the common page checks one by one, then the live page's state; a STAGED page meets the account, allowance, supply and meter
checks, and is then TICKETED. -/
theorem ticketPageOrder : Obligations.TicketPageOrder := by
  intro s j g slot h
  refine refused_or_rest (exec_ticketPage h) (not_inWork_iff _) fun _ hx => ?_
  rw [checked_nil, Machine.ticketPageOrder, onPage, pageChecks] at hx
  refine refused_or_rest hx (by simp [arg]) fun _ hx => ?_
  refine refused_or_rest hx (by simp [arg]) fun _ hx => ?_
  refine refused_or_rest hx (staleGeneration_iff ..) fun _ hx => ?_
  rw [checked_cons_same] at hx
  refine refused_or_rest hx (Job.isFree_or_not_isActive_iff _) fun _ hx => ?_
  obtain ⟨hnone, hlive⟩ := refused_or_live (s := s) hx
  refine ⟨hnone, fun p hp => ?_⟩
  obtain ⟨hpage, hx⟩ := hlive p hp
  cases hstate : p.state <;>
    simp only [hpage, hstate, Page.isTicketed, Page.inPrint, Bool.false_eq_true, if_true, if_false] at hx ⊢
  case ticketed => exact hx
  case printing => exact hx
  case withheld => exact hx
  case staged =>
    refine refused_or_rest hx decide_eq_true_iff fun _ hx => ?_
    refine refused_or_rest hx (not_allows_iff ..) fun _ hx => ?_
    refine refused_or_rest hx (Bool.not_eq_true' _).to_iff fun _ hx => ?_
    refine refused_or_rest hx decide_eq_true_iff fun _ hx => ?_
    exact carried_out hx (reserve_eq _) rfl

end Sys2Proof.Proofs
end

section
/-! Chapter 05: one charged page's toner in a plane that it has, and a run of such pages; then SET WEIGHTS and SET COLOUR THRESHOLD. -/

namespace Sys2Proof.Machine

/-! ## A charged page's toner (R88) -/

/-- The debit of a page in a plane that it has (R88, step 2). -/
theorem tonerDebits_get {p : Page} {n : Plane} (c : Coverage) (h : n ∈ planesOf p.colour) :
    (tonerDebits c p).get n = tonerProduct c p n / 4294967296 + c.settings.overheads.get n := by
  simp [tonerDebits, Page.hasPlane, h]

/-- The residue that a page leaves in a plane that it has (R88, step 3). -/
theorem tonerResidues_get {p : Page} {n : Plane} (c : Coverage) (h : n ∈ planesOf p.colour) :
    (tonerResidues c p).get n = tonerProduct c p n % 4294967296 := by
  simp [tonerResidues, Page.hasPlane, h]

/-! ## SET WEIGHTS by its plane's code (R93) -/

theorem planeOfCode_of_lt {n : Nat} (h : n < 4) : planeOfCode n = some ⟨n, h⟩ := dif_pos h

theorem planeOfCode_of_not_lt {n : Nat} (h : ¬ n < 4) : planeOfCode n = none := dif_neg h

/-- A code that names no plane is refused with RANGE, detail 1 (R93). -/
theorem setWeightsOrder_plane {plane : Nat} (weight overhead : Nat) (s : State) (h : ¬ plane < 4) :
    setWeightsOrder [plane, weight, overhead] s = (s, .plain .range 1) := by
  simp [setWeightsOrder, arg, planeOfCode_of_not_lt h]

/-- In a plane, weight and overhead are checked and put in force (R93). -/
theorem setWeightsOrder_weight {plane : Nat} (weight overhead : Nat) (s : State) (h : plane < 4) :
    setWeightsOrder [plane, weight, overhead] s =
      checked [(decide (65535 < weight), .plain .range 2), (decide (255 < overhead), .plain .range 3)] s fun s =>
        let settings := { s.coverage.settings with
          weights := s.coverage.settings.weights.set ⟨plane, h⟩ (max weight 1)
          overheads := s.coverage.settings.overheads.set ⟨plane, h⟩ overhead }
        (markDirty .coverage { s with coverage := { s.coverage with settings := settings } },
         .doneWith (leBytes 2 (max weight 1) ++ leBytes 1 overhead)) := by
  simp [setWeightsOrder, arg, planeOfCode_of_lt h]

/-! ## The two orders up to their own checks -/

theorem exec_setWeights {ps : List Nat} {s : State} (h : OrderReady 11 ps s) :
    exec .setWeights s =
      .next (closeTake (answerAndAdvance (checked [(!inSettings s.sup.device, .plain .mode 0)] (fetchDone s) (setWeightsOrder ps)))) :=
  h.taken_eq inSettings setWeightsOrder

theorem exec_setColourThreshold {ps : List Nat} {s : State} (h : OrderReady 12 ps s) :
    exec .setColourThreshold s =
      .next (closeTake (answerAndAdvance
        (checked [(!inSettings s.sup.device, .plain .mode 0)] (fetchDone s) (setColourThresholdOrder ps)))) :=
  h.taken_eq inSettings setColourThresholdOrder

end Sys2Proof.Machine

/-! ## The obligations -/

namespace Sys2Proof.Proofs

open Sys2Proof.Machine

/-- Settles O23, by induction on the run: what a page's debit leaves of its product is the residue from which the rest of the run starts. -/
theorem tonerRunIsExact : Obligations.TonerRunIsExact := by
  intro n r run
  induction run generalizing r with
  | nil => exact fun hr _ => ⟨(Nat.div_eq_of_lt hr).symm, (Nat.mod_eq_of_lt hr).symm⟩
  | cons e rest ih =>
    intro _ hplanes
    obtain ⟨c, p⟩ := e
    obtain ⟨hp, hrest⟩ := List.forall_mem_cons.mp hplanes
    have hresidue := tonerResidues_get ⟨c, r⟩ hp
    obtain ⟨hdebits, hlast⟩ := ih (tonerResidues ⟨c, r⟩ p) (hresidue ▸ Nat.mod_lt _ (by decide)) hrest
    simp only [tonerRun, hdebits, hlast, hresidue, tonerDebits_get ⟨c, r⟩ hp, tonerProduct, List.map_cons, List.sum_cons]
    omega

/-- Settles O35: each order's checks one by one, then its settings in force; and a block is marked dirty once. -/
theorem coverageOrders : Obligations.CoverageOrders := by
  refine fun s => ⟨fun plane weight overhead h => ?_, fun threshold h => ?_, fun b u => ⟨fun h => if_pos h, fun h => if_neg h⟩⟩
  · refine refused_or_rest (exec_setWeights h) (not_inSettings_iff _) fun _ hx => ?_
    rw [checked_nil] at hx
    by_cases hplane : plane < 4
    · rw [setWeightsOrder_weight _ _ _ hplane] at hx
      rw [dif_pos hplane]
      refine refused_or_rest hx decide_eq_true_iff fun _ hx => ?_
      refine refused_or_rest hx decide_eq_true_iff fun _ hx => ?_
      exact carried_out hx rfl rfl
    · rw [setWeightsOrder_plane _ _ _ hplane] at hx
      rw [dif_neg hplane]
      exact hx
  · refine refused_or_rest (exec_setColourThreshold h) (not_inSettings_iff _) fun _ hx => ?_
    rw [checked_nil, setColourThresholdOrder] at hx
    refine refused_or_rest hx (by simp [arg]) fun _ hx => ?_
    exact carried_out hx rfl rfl

end Sys2Proof.Proofs
end

section
/-! Chapter 06's orders: the account states by their codes and the entry that a take appends; then SET ACCOUNT, SET TARIFF, CREDIT ACCOUNT
and ROLL PERIOD. -/

namespace Sys2Proof.Machine

/-! ## The settings orders' own checks (R100, R102) -/

@[simp] theorem AccountState.ofCode_code (st : AccountState) : AccountState.ofCode st.code = some st := by cases st <;> rfl

theorem AccountState.ofCode_eq_none {n : Nat} : AccountState.ofCode n = none ↔ 2 < n := by
  rcases n with _ | _ | _ | n <;> simp [AccountState.ofCode]

/-- SET ACCOUNT by R102's three checks: behind the second the code names the state that is put in force. -/
theorem setAccountOrder_eq (a state limit : Nat) (s : State) :
    setAccountOrder [a, state, limit] s =
      checked [(decide (255 < a), .plain .range 1), (decide (2 < state), .plain .range 2), (decide (16777215 < limit), .plain .range 3)] s
        fun s =>
          let r := accountOf s a
          (markDirty (.accountSettings a)
             (setAccount a { r with settings := ⟨(AccountState.ofCode state).getD .unused, limit⟩ } s),
           .doneWith (leBytes 4 r.counts.settled ++ leBytes 2 r.inflight ++ leBytes 2 r.held)) := by
  by_cases ha : 255 < a
  · simp [setAccountOrder, arg, checked_cons, ha]
  · cases hstate : AccountState.ofCode state with
    | none => simp [setAccountOrder, arg, checked_cons, ha, hstate, AccountState.ofCode_eq_none.mp hstate]
    | some st =>
      have hcode : ¬ 2 < state := fun h => by simp [AccountState.ofCode_eq_none.mpr h] at hstate
      simp [setAccountOrder, arg, checked_cons, ha, hstate, hcode]

/-- A code that names no size class is refused with RANGE, detail 1 (R100). -/
theorem setTariffOrder_class {cls : Nat} (mono colour : Nat) (s : State) (h : ¬ cls < 4) :
    setTariffOrder [cls, mono, colour] s = (s, .plain .range 1) := by
  simp [setTariffOrder, arg, planeOfCode_of_not_lt h]

/-- In a size class, the two tariffs are checked and put in force (R100). -/
theorem setTariffOrder_tariff {cls : Nat} (mono colour : Nat) (s : State) (h : cls < 4) :
    setTariffOrder [cls, mono, colour] s =
      checked
        [(decide (mono = 0 ∨ 255 < mono), .plain .range 2), (decide (colour = 0 ∨ 255 < colour), .plain .range 3),
         (decide (colour < mono), .plain .range 3)] s fun s =>
        (markDirty .tariff { s with meter := { s.meter with tariff := s.meter.tariff.set ⟨cls, h⟩ ⟨mono, colour⟩ } },
         .doneWith (leBytes 1 mono ++ leBytes 1 colour)) := by
  simp [setTariffOrder, arg, planeOfCode_of_lt h]

/-! ## The appended entry (R106, R107) -/

/-- The entry that takes the journal's last free place posts METER_FULL, and no other does (R107). -/
theorem noteFull_appendEntry {free : Nat} {s : State} (b : EntryBody) (hfree : free = freeCount s) :
    noteFull free (appendEntry b s) =
      if free = 1 then
        postEvent (.meterFull (s.store.journal.length + 1) s.meter.reservations s.meter.failed) (appendEntry b s)
      else appendEntry b s := by
  have hlength : (appendEntry b s).store.journal.length = s.store.journal.length + 1 := List.length_append
  have hlast : free = 1 → freeCount (appendEntry b s) = 0 := by
    rw [hfree, freeCount, freeCount, hlength, appendEntry_meter]
    omega
  rw [noteFull, hlength]
  exact ite_congr (propext ⟨And.left, fun h => ⟨h, hlast h⟩⟩) (fun _ => rfl) fun _ => rfl

/-! ## The four orders up to their own checks -/

theorem exec_setAccount {ps : List Nat} {s : State} (h : OrderReady 13 ps s) :
    exec .setAccount s =
      .next (closeTake (answerAndAdvance (checked [(!inSettings s.sup.device, .plain .mode 0)] (fetchDone s) (setAccountOrder ps)))) :=
  h.taken_eq inSettings setAccountOrder

theorem exec_setTariff {ps : List Nat} {s : State} (h : OrderReady 14 ps s) :
    exec .setTariff s =
      .next (closeTake (answerAndAdvance (checked [(!inSettings s.sup.device, .plain .mode 0)] (fetchDone s) (setTariffOrder ps)))) :=
  h.taken_eq inSettings setTariffOrder

theorem exec_rollPeriod {ps : List Nat} {s : State} (h : OrderReady 15 ps s) :
    exec .rollPeriod s =
      .next (closeTake (answerAndAdvance (checked [(!inWork s.sup.device, .plain .mode 0)] (fetchDone s) (rollPeriodOrder ps)))) :=
  h.taken_eq inWork rollPeriodOrder

theorem exec_creditAccount {ps : List Nat} {s : State} (h : OrderReady 16 ps s) :
    exec .creditAccount s =
      .next (closeTake (answerAndAdvance (checked [(!inWork s.sup.device, .plain .mode 0)] (fetchDone s) (creditAccountOrder ps)))) :=
  h.taken_eq inWork creditAccountOrder

end Sys2Proof.Machine

/-! ## The obligations -/

namespace Sys2Proof.Proofs

open Sys2Proof.Machine

/-- Settles O36: each order's checks one by one, then its settings in force; a state's code names that state alone. -/
theorem setAccountAndTariffOrders : Obligations.SetAccountAndTariffOrders := by
  refine fun s => ⟨fun a state limit h => ?_, fun cls mono colour h => ?_⟩
  · refine refused_or_rest (exec_setAccount h) (not_inSettings_iff _) fun _ hx => ?_
    rw [checked_nil, setAccountOrder_eq] at hx
    refine refused_or_rest hx decide_eq_true_iff fun _ hx => ?_
    refine refused_or_rest hx decide_eq_true_iff fun _ hx => ?_
    refine refused_or_rest hx decide_eq_true_iff fun _ hx => ?_
    rintro _ st rfl
    rw [AccountState.ofCode_code] at hx
    exact carried_out hx rfl rfl
  · refine refused_or_rest (exec_setTariff h) (not_inSettings_iff _) fun _ hx => ?_
    rw [checked_nil] at hx
    by_cases hcls : cls < 4
    · rw [setTariffOrder_tariff _ _ _ hcls] at hx
      rw [dif_pos hcls]
      refine refused_or_rest hx decide_eq_true_iff fun _ hx => ?_
      refine refused_or_rest hx decide_eq_true_iff fun _ hx => ?_
      refine refused_or_rest hx decide_eq_true_iff fun _ hx => ?_
      exact carried_out hx rfl rfl
    · rw [setTariffOrder_class _ _ _ hcls] at hx
      rw [dif_neg hcls]
      exact hx

/-- Settles O37: each order's checks one by one, then the counts and the entry that it appends; a roll changes every account of the table,
and leaves a blank one blank. -/
theorem creditAndRollOrders : Obligations.CreditAndRollOrders := by
  refine fun s => ⟨fun a amount h => ?_, fun h hwf => ?_⟩
  · refine refused_or_rest (exec_creditAccount h) (not_inWork_iff _) fun _ hx => ?_
    rw [checked_nil, creditAccountOrder] at hx
    refine refused_or_rest hx (by simp [arg]) fun _ hx => ?_
    refine refused_or_rest hx (by simp [arg]) fun _ hx => ?_
    refine refused_or_rest hx decide_eq_true_iff fun _ hx => ?_
    exact carried_out hx (noteFull_appendEntry _ rfl) rfl
  · refine refused_or_rest (exec_rollPeriod h) (not_inWork_iff _) fun _ hx => ?_
    rw [checked_nil, rollPeriodOrder] at hx
    refine ite_prop_iff_and.mp (refused_or_rest hx decide_eq_true_iff fun _ hx => ?_)
    exact ⟨_, Table.get_update hwf _ fun _ => rfl, carried_out hx (noteFull_appendEntry _ rfl) rfl⟩

end Sys2Proof.Proofs
end

section
/-! Footprints: for each operation of the model what it can change, said once. A law that reads none of it is kept by the operation. Three laws
that the operations keep one by one stand among the fields. -/

namespace Sys2Proof.Machine

set_option Elab.async false

/-! ## Aspects and footprints -/

/-- The law of the rings without its clause on the header, which a take keeps only at its end. -/
structure RingsCore (s : State) : Prop where
  events  : (outstanding s).filterMap (·.eventIndex) =
    (List.range (ringDistance s.events.produce s.events.written)).map fun k => s.events.written + BitVec.ofNat 16 k
  counted : ringDistance s.events.written s.events.consume + ringDistance s.events.produce s.events.written = occupancy s
  bounded : occupancy s ≤ 256
  fetch   : (outstanding s).filterMap (·.fetchIndex) = if s.orders.fetching = true then [s.orders.take] else []
  posted  : ringDistance s.orders.heldPost s.orders.take ≤ 64
  pending : s.orders.fetching = true → s.orders.heldPost ≠ s.orders.take

/-- A page slot holds a PRINTING page. -/
def printsIn (s : State) (slot : Nat) : Prop := ∃ p, pageOf s slot = some p ∧ p.isPrinting = true

/-- What a step of the model may change: the fields of the state, those parts of a record apart that different units change, and four laws. -/
inductive Aspect
  | pending | power | time | mem | fitted | lines | keyDraws | nonceDraws | openReads
  | service | shadows | linkAnswer | grant | guard | control
  | entries | size | views | jobs | pages | covSettings | residues
  | accounts | tariff | totals | reservations | dirty | write | lastWasFold | failed | foldReported
  | journal | lastSeq | storedCounts | storedSettings | storedTotals | storedTariff | storedRest | storedSeen
  | slots | levels | timers | seen | supplySettings | models | scrub
  | heldPost | take | fetching | deferred | lastHeader
  | produce | nextSeq | consume | written | attention
  | device | cold | startWaiting | pfw | supRest
  | canonical | rings | printing | bounded
  deriving DecidableEq

/-- A field is the same in two states; a law that holds in the first holds in the second, and no page came to print. -/
def Aspect.same (s t : State) : Aspect → Prop
  | pending => t.pending = s.pending
  | power => t.power = s.power
  | time => t.time = s.time
  | mem => t.mem = s.mem
  | fitted => t.fittedFrames = s.fittedFrames
  | lines => t.lines = s.lines
  | keyDraws => t.keyDraws = s.keyDraws
  | nonceDraws => t.nonceDraws = s.nonceDraws
  | openReads => t.openReads = s.openReads
  | service => t.filter.service = s.filter.service
  | shadows => (t.filter.postShadow, t.filter.consumeShadow) = (s.filter.postShadow, s.filter.consumeShadow)
  | linkAnswer => t.filter.answer = s.filter.answer
  | grant => t.port.grant = s.port.grant
  | guard => t.port.guardCount = s.port.guardCount
  | control => t.port.control = s.port.control
  | entries => t.frames.entries = s.frames.entries
  | size => t.frames.size = s.frames.size
  | views => t.views = s.views
  | jobs => t.jobs = s.jobs
  | pages => t.pages = s.pages
  | covSettings => t.coverage.settings = s.coverage.settings
  | residues => t.coverage.residues = s.coverage.residues
  | accounts => t.meter.accounts = s.meter.accounts
  | tariff => t.meter.tariff = s.meter.tariff
  | totals => t.meter.totals = s.meter.totals
  | reservations => t.meter.reservations = s.meter.reservations
  | dirty => t.meter.dirty = s.meter.dirty
  | write => t.meter.write = s.meter.write
  | lastWasFold => t.meter.lastWasFold = s.meter.lastWasFold
  | failed => t.meter.failed = s.meter.failed
  | foldReported => t.meter.foldReported = s.meter.foldReported
  | journal => t.store.journal = s.store.journal
  | lastSeq => t.store.lastSeq = s.store.lastSeq
  | storedCounts => t.store.counts = s.store.counts
  | storedSettings => t.store.settings = s.store.settings
  | storedTotals => t.store.totals = s.store.totals
  | storedTariff => t.store.tariff = s.store.tariff
  | storedRest => (t.store.coverage, t.store.supply) = (s.store.coverage, s.store.supply)
  | storedSeen => t.store.seen = s.store.seen
  | slots => t.supply.slots = s.supply.slots
  | levels => (t.supply.presence, t.supply.doorClosed) = (s.supply.presence, s.supply.doorClosed)
  | timers => (t.supply.presenceTimers, t.supply.doorTimer) = (s.supply.presenceTimers, s.supply.doorTimer)
  | seen => t.supply.seen = s.supply.seen
  | supplySettings => t.supply.settings = s.supply.settings
  | models => t.supply.models = s.supply.models
  | scrub => t.scrub = s.scrub
  | heldPost => t.orders.heldPost = s.orders.heldPost
  | take => t.orders.take = s.orders.take
  | fetching => t.orders.fetching = s.orders.fetching
  | deferred => t.orders.deferred = s.orders.deferred
  | lastHeader => t.orders.lastHeader = s.orders.lastHeader
  | produce => t.events.produce = s.events.produce
  | nextSeq => t.events.nextSeq = s.events.nextSeq
  | consume => t.events.consume = s.events.consume
  | written => t.events.written = s.events.written
  | attention => (t.events.lastAlarm, t.events.mode, t.events.latch, t.events.armed, t.events.attn) =
      (s.events.lastAlarm, s.events.mode, s.events.latch, s.events.armed, s.events.attn)
  | device => t.sup.device = s.sup.device
  | cold => t.sup.cold = s.sup.cold
  | startWaiting => t.sup.startWaiting = s.sup.startWaiting
  | pfw => t.sup.pfw = s.sup.pfw
  | supRest => (t.sup.provTimer, t.sup.windowCount, t.sup.period, t.sup.stallSeconds, t.sup.keepalive, t.sup.ctlrst) =
      (s.sup.provTimer, s.sup.windowCount, s.sup.period, s.sup.stallSeconds, s.sup.keepalive, s.sup.ctlrst)
  | canonical => Canonical s → Canonical t
  | rings => RingsCore s → RingsCore t
  | printing => ∀ slot, printsIn t slot → printsIn s slot
  | bounded => Bounded s → Bounded t

/-- The aspect is a law. -/
def Aspect.isLaw : Aspect → Bool
  | canonical => true
  | rings => true
  | printing => true
  | bounded => true
  | _ => false

/-- The fields that page memory's and the tables' canonical form reads. -/
abbrev tableFields : List Aspect := [.mem, .entries, .jobs, .pages, .accounts, .storedCounts, .storedSettings]

/-- The fields that the bounds read. -/
abbrev boundedFields : List Aspect := [.guard, .deferred]

/-- The fields that the law of the rings reads. -/
abbrev ringFields : List Aspect := [.grant, .control, .produce, .written, .consume, .fetching, .take, .heldPost]

/-- From one state to another nothing changes but the aspects of a list. -/
structure Touches (l : List Aspect) (s t : State) : Prop where
  same : ∀ f, f ∉ l → f.same s t

/-- Every field of the first list stands in the second. -/
def within (l m : List Aspect) : Bool := l.all fun f => decide (f ∈ m)

/-- The two lists have no field in common. -/
def apart (l m : List Aspect) : Bool := l.all fun f => decide (f ∉ m)

theorem mem_of_within {l m : List Aspect} (h : within l m = true) {f : Aspect} (hf : f ∈ l) : f ∈ m := by
  simpa using List.all_eq_true.mp h f hf

theorem Aspect.same_refl (s : State) (f : Aspect) : f.same s s := by
  cases f <;> first | rfl | exact fun h => h | exact fun _ h => h

theorem Aspect.same_trans {s t u : State} {f : Aspect} (h : f.same s t) (g : f.same t u) : f.same s u := by
  cases f <;> first | exact Eq.trans g h | exact fun x => g (h x) | exact fun slot x => h slot (g slot x)

/-- Nothing changes. -/
theorem Touches.refl {l : List Aspect} (s : State) : Touches l s s := ⟨fun f _ => f.same_refl s⟩

/-- One change after another: both stay within the list. -/
theorem Touches.then {l m k : List Aspect} {s t u : State} (h : Touches l s t) (g : Touches m t u)
    (hl : within l k = true := by decide +kernel) (hm : within m k = true := by decide +kernel) : Touches k s u := ⟨fun f hf =>
  Aspect.same_trans (h.same f fun hx => hf (mem_of_within hl hx)) (g.same f fun hx => hf (mem_of_within hm hx))⟩

theorem Touches.mono {l k : List Aspect} {s t : State} (h : Touches l s t) (hl : within l k = true := by decide +kernel) :
    Touches k s t := ⟨fun f hf => h.same f fun hx => hf (mem_of_within hl hx)⟩

theorem Touches.trans {l : List Aspect} {s t u : State} (h : Touches l s t) (g : Touches l t u) : Touches l s u :=
  ⟨fun f hf => Aspect.same_trans (h.same f hf) (g.same f hf)⟩

theorem Touches.same_of_apart {l m : List Aspect} {s t : State} (h : Touches l s t) (ha : apart l m = true) {f : Aspect} (hf : f ∈ m) :
    f.same s t := h.same f fun hx => by
  have := List.all_eq_true.mp ha f hx
  simp only [decide_eq_true_eq] at this
  exact this hf

theorem Canonical.of_same {s t : State} (h : ∀ f ∈ tableFields, f.same s t) (hs : Canonical s) : Canonical t := by
  have hmem : t.mem = s.mem := h .mem (by decide)
  have hentries : t.frames.entries = s.frames.entries := h .entries (by decide)
  have hjobs : t.jobs = s.jobs := h .jobs (by decide)
  have hpages : t.pages = s.pages := h .pages (by decide)
  have haccounts : t.meter.accounts = s.meter.accounts := h .accounts (by decide)
  have hcounts : t.store.counts = s.store.counts := h .storedCounts (by decide)
  have hsettings : t.store.settings = s.store.settings := h .storedSettings (by decide)
  exact ⟨hmem ▸ hs.mem, hentries ▸ hs.frames, hjobs ▸ hs.jobs, hpages ▸ hs.pages, haccounts ▸ hs.accounts, hcounts ▸ hs.counts,
    hsettings ▸ hs.settings⟩

theorem RingsCore.of_same {s t : State} (h : ∀ f ∈ ringFields, f.same s t) (hs : RingsCore s) : RingsCore t := by
  have hgrant : t.port.grant = s.port.grant := h .grant (by decide)
  have hcontrol : t.port.control = s.port.control := h .control (by decide)
  have hproduce : t.events.produce = s.events.produce := h .produce (by decide)
  have hwritten : t.events.written = s.events.written := h .written (by decide)
  have hconsume : t.events.consume = s.events.consume := h .consume (by decide)
  have hfetching : t.orders.fetching = s.orders.fetching := h .fetching (by decide)
  have htake : t.orders.take = s.orders.take := h .take (by decide)
  have hpost : t.orders.heldPost = s.orders.heldPost := h .heldPost (by decide)
  have hout : outstanding t = outstanding s := by simp only [outstanding, hgrant, hcontrol]
  have hocc : occupancy t = occupancy s := by simp only [occupancy, hproduce, hconsume]
  obtain ⟨hev, hcnt, hbound, hf, hp, hpend⟩ := hs
  constructor <;> simp only [hout, hocc, hproduce, hwritten, hconsume, hfetching, htake, hpost] <;> assumption

theorem Bounded.of_same {s t : State} (h : ∀ f ∈ boundedFields, f.same s t) (hs : Bounded s) : Bounded t := by
  have hguard : t.port.guardCount = s.port.guardCount := h .guard (by decide)
  have hdeferred : t.orders.deferred = s.orders.deferred := h .deferred (by decide)
  exact ⟨hguard ▸ hs.guard, hdeferred ▸ hs.deferred, hdeferred ▸ hs.closes⟩

theorem printsIn_of_same {s t : State} (h : t.pages = s.pages) (slot : Nat) (ht : printsIn t slot) : printsIn s slot := by
  simpa only [printsIn, pageOf, h] using ht

/-- A change of fields alone, apart from those that the laws read. -/
theorem Touches.of_fields {l : List Aspect} {s t : State} (h : ∀ f, f ∉ l → f.isLaw = false → f.same s t)
    (hc : (decide (Aspect.canonical ∈ l) || apart l tableFields) = true := by decide +kernel)
    (hr : (decide (Aspect.rings ∈ l) || apart l ringFields) = true := by decide +kernel)
    (hp : (decide (Aspect.printing ∈ l) || decide (Aspect.pages ∉ l)) = true := by decide +kernel)
    (hb : (decide (Aspect.bounded ∈ l) || apart l boundedFields) = true := by decide +kernel) : Touches l s t := by
  have hsame : ∀ m, apart l m = true → (∀ f ∈ m, f.isLaw = false) → ∀ f ∈ m, f.same s t := fun m hm hlaw f hf =>
    h f (fun hx => of_decide_eq_true (List.all_eq_true.mp hm f hx) hf) (hlaw f hf)
  refine ⟨fun f hf => ?_⟩
  cases hl : f.isLaw
  · exact h f hf hl
  · cases f <;> first | exact absurd hl (by decide) | skip
    · exact Canonical.of_same (hsame _ (by simpa [hf] using hc) (by decide))
    · exact RingsCore.of_same (hsame _ (by simpa [hf] using hr) (by decide))
    · exact printsIn_of_same (h .pages (by simpa [hf] using hp) rfl)
    · exact Bounded.of_same (hsame _ (by simpa [hf] using hb) (by decide))

/-- A law that is kept need not stand in the footprint. -/
theorem Touches.restore {l : List Aspect} {s t : State} (f : Aspect) (h : Touches (f :: l) s t) (hf : f.same s t) : Touches l s t :=
  ⟨fun g hg => if hgf : g = f then hgf ▸ hf else h.same g (by simp [hgf, hg])⟩

/-- An aspect that stands apart from the footprint is unchanged. -/
theorem Touches.at {l : List Aspect} {s t : State} (h : Touches l s t) (f : Aspect) (hf : f ∉ l := by decide +kernel) : f.same s t := h.same f hf

theorem Touches.rings {l : List Aspect} {s t : State} (h : Touches l s t) (hs : RingsCore s)
    (hf : Aspect.rings ∉ l := by decide +kernel) : RingsCore t := h.same .rings hf hs

theorem Touches.canonical {l : List Aspect} {s t : State} (h : Touches l s t) (hs : Canonical s)
    (hf : Aspect.canonical ∉ l := by decide +kernel) : Canonical t := h.same .canonical hf hs

theorem Touches.bounded {l : List Aspect} {s t : State} (h : Touches l s t) (hs : Bounded s)
    (hf : Aspect.bounded ∉ l := by decide +kernel) : Bounded t := h.same .bounded hf hs

theorem Touches.ite {l : List Aspect} {s t u : State} {P : Prop} [Decidable P] (h : P → Touches l s t) (g : ¬ P → Touches l s u) :
    Touches l s (if P then t else u) := by
  split
  · exact h ‹_›
  · exact g ‹_›

theorem Touches.foldl {α : Type} {l : List Aspect} {f : State → α → State} (h : ∀ t x, Touches l t (f t x)) (xs : List α)
    (s : State) : Touches l s (xs.foldl f s) := by
  induction xs generalizing s with
  | nil => exact .refl s
  | cons x xs ih => exact (h s x).trans (ih _)

/-- An order that is refused changes nothing, so its act's footprint is the order's. -/
theorem checked_touches {l : List Aspect} (checks : List (Bool × Answer)) {s : State} {act : State → State × Answer}
    (h : Touches l s (act s).1) : Touches l s (checked checks s act).1 := by
  obtain ⟨a, -, hx⟩ | ⟨-, hx⟩ := checked_cases checks s act <;> rw [hx]
  · exact .refl s
  · exact h

/-! ## The named operations -/

/-- What posting an event changes. -/
abbrev posting : List Aspect := [.control, .produce, .nextSeq]

variable (s : State)

theorem setFrame_touches (f : Nat) (e : FrameEntry) : Touches [.entries] s (setFrame f e s) := by
  refine .restore .canonical (.of_fields fun f hf hl => ?_) fun h => { h with frames := Table.wf_set h.frames f e }
  cases f <;> first | rfl | exact absurd hl (by decide) | simp at hf
theorem updateFrames_touches (g : Nat → FrameEntry → FrameEntry) : Touches [.entries] s (updateFrames g s) := by
  refine .restore .canonical (.of_fields fun f hf hl => ?_) fun h => { h with frames := Table.wf_update h.frames g }
  cases f <;> first | rfl | exact absurd hl (by decide) | simp at hf
theorem setJob_touches (j : Nat) (r : Job) : Touches [.jobs] s (setJob j r s) := by
  refine .restore .canonical (.of_fields fun f hf hl => ?_) fun h => { h with jobs := Table.wf_set h.jobs j r }
  cases f <;> first | rfl | exact absurd hl (by decide) | simp at hf
/-- A page record replaced, by one that is PRINTING only where one was. -/
theorem setPage_touches_of (p : Nat) (r : Option Page) (h : ∀ x, r = some x → x.isPrinting = true → printsIn s p) :
    Touches [.pages] s (setPage p r s) := by
  refine .restore .printing (.restore .canonical (.of_fields fun f hf hl => ?_) fun h => { h with pages := Table.wf_set h.pages p r }) ?_
  · cases f <;> first | rfl | exact absurd hl (by decide) | simp at hf
  · rintro slot ⟨x, hx, hprint⟩
    rw [pageOf_setPage] at hx
    split at hx
    · subst slot; exact h x hx hprint
    · exact ⟨x, hx, hprint⟩
theorem setPage_touches (p : Nat) (r : Option Page) : Touches [.pages, .printing] s (setPage p r s) := by
  refine .restore .canonical (.of_fields fun f hf hl => ?_) fun h => { h with pages := Table.wf_set h.pages p r }
  cases f <;> first | rfl | exact absurd hl (by decide) | simp at hf
theorem setAccount_touches (a : Nat) (r : Account) : Touches [.accounts] s (setAccount a r s) := by
  refine .restore .canonical (.of_fields fun f hf hl => ?_) fun h => { h with accounts := Table.wf_set h.accounts a r }
  cases f <;> first | rfl | exact absurd hl (by decide) | simp at hf
theorem setSlot_touches (n : Plane) (r : Slot) : Touches [.slots] s (setSlot n r s) := by
  refine .of_fields fun f hf hl => ?_; cases f <;> first | rfl | exact absurd hl (by decide) | simp at hf
theorem outstanding_placeAccess (a : ControlAccess) : outstanding (placeAccess a s) = outstanding s ++ [a] := by
  unfold outstanding placeAccess
  dsimp only
  split <;> rfl

/-- An access that is neither an event write nor a fetch keeps the law. -/
theorem RingsCore.place {s : State} (h : RingsCore s) {a : ControlAccess} (he : a.eventIndex = none) (hf : a.fetchIndex = none) :
    RingsCore (placeAccess a s) where
  events := by simpa [outstanding_placeAccess, he] using h.events
  counted := h.counted
  bounded := h.bounded
  fetch := by
    rw [outstanding_placeAccess, List.filterMap_append, List.filterMap_cons_none hf, List.filterMap_nil, List.append_nil]
    exact h.fetch
  posted := h.posted
  pending := h.pending

theorem ringDistance_succ {a b : Index} (h : ringDistance a b < 65535) : ringDistance (a + 1) b = ringDistance a b + 1 := by
  unfold ringDistance at *
  bv_omega

theorem add_ringDistance (a b : Index) : b + BitVec.ofNat 16 (ringDistance a b) = a := by
  unfold ringDistance
  simp only [BitVec.ofNat_toNat, BitVec.setWidth_eq]
  bv_omega

/-- An event that is posted, lost or replaced keeps the law. -/
theorem RingsCore.post {s : State} (h : RingsCore s) (e : Event) : RingsCore (postEvent e s) := by
  obtain ⟨-, heq⟩ | ⟨hroom, shown, -, heq⟩ := postEvent_cases e s <;> rw [heq]
  · exact ⟨h.events, h.counted, h.bounded, h.fetch, h.posted, h.pending⟩
  · have hcounted := h.counted
    simp only [occupancy] at hcounted hroom
    have hocc : ringDistance (s.events.produce + 1) s.events.consume = ringDistance s.events.produce s.events.consume + 1 :=
      ringDistance_succ (by omega)
    have hdist : ringDistance (s.events.produce + 1) s.events.written = ringDistance s.events.produce s.events.written + 1 :=
      ringDistance_succ (by omega)
    refine ⟨?_, ?_, ?_, ?_, h.posted, h.pending⟩
    · rw [outstanding_placeAccess, List.filterMap_append]
      simp only [placeAccess, hdist, List.range_succ, List.map_append]
      exact congrArg₂ (· ++ ·) h.events (by simp [ControlAccess.eventIndex, add_ringDistance])
    · simp only [placeAccess, occupancy]
      rw [hdist, hocc]
      omega
    · simp only [placeAccess, occupancy]
      rw [hocc]
      exact hroom
    · rw [outstanding_placeAccess, List.filterMap_append, List.filterMap_cons_none rfl, List.filterMap_nil, List.append_nil]
      exact h.fetch

theorem placeAccess_touches (a : ControlAccess) : Touches [.control, .rings] s (placeAccess a s) := by
  refine .of_fields fun f hf hl => ?_; cases f <;> first | rfl | exact absurd hl (by decide) | simp at hf
theorem placeAnswer_touches (i : Index) (a : Answer) : Touches [.control] s (placeAnswer i a s) :=
  .restore .rings ((placeAccess_touches ..).mono) fun h => h.place rfl rfl
theorem deferOrder_touches (i : Index) (o : DeferredObject) : Touches [.deferred, .bounded] s (deferOrder i o s) := by
  refine .of_fields fun f hf hl => ?_; cases f <;> first | rfl | exact absurd hl (by decide) | simp at hf
theorem controlWrite_touches (a : Nat) (bytes : List (Option Byte)) : Touches [.mem] s (controlWrite a bytes s) := by
  refine .restore .canonical (.of_fields fun f hf hl => ?_) fun h => { h with mem := wf_controlWrite h.mem a bytes }
  cases f <;> first | rfl | exact absurd hl (by decide) | simp at hf
theorem freePort_touches : Touches [.grant, .rings] s (freePort s) := by
  refine .of_fields fun f hf hl => ?_; cases f <;> first | rfl | exact absurd hl (by decide) | simp at hf
theorem fetchDone_touches : Touches [.grant, .fetching, .rings] s (fetchDone s) := by
  refine .of_fields fun f hf hl => ?_; cases f <;> first | rfl | exact absurd hl (by decide) | simp at hf
theorem answerAndAdvance_touches (a : Answer) : Touches [.control, .take, .rings] s (answerAndAdvance (s, a)) := by
  refine .of_fields fun f hf hl => ?_; cases f <;> first | rfl | exact absurd hl (by decide) | simp at hf
theorem unreserve_touches : Touches [.reservations] s (unreserve s) := by
  refine .of_fields fun f hf hl => ?_; cases f <;> first | rfl | exact absurd hl (by decide) | simp at hf
theorem appendEntry_touches (b : EntryBody) : Touches [.journal, .lastSeq] s (appendEntry b s) := by
  refine .of_fields fun f hf hl => ?_; cases f <;> first | rfl | exact absurd hl (by decide) | simp at hf
theorem clearResidue_touches (n : Plane) : Touches [.residues] s (clearResidue n s) := by
  refine .of_fields fun f hf hl => ?_; cases f <;> first | rfl | exact absurd hl (by decide) | simp at hf
theorem dropFolded_touches : Touches [.journal] s (dropFolded s) := by
  refine .of_fields fun f hf hl => ?_; cases f <;> first | rfl | exact absurd hl (by decide) | simp at hf
theorem settleResidues_touches (p : Page) : Touches [.residues] s (settleResidues p s) := by
  refine .of_fields fun f hf hl => ?_; cases f <;> first | rfl | exact absurd hl (by decide) | simp at hf

theorem postEvent_touches (e : Event) : Touches posting s (postEvent e s) := by
  refine .restore .rings ?_ fun h => h.post e
  obtain ⟨-, h⟩ | ⟨-, _, -, h⟩ := postEvent_cases e s <;> rw [h] <;> refine .of_fields fun f hf hl => ?_ <;> cases f <;>
    first | rfl | exact absurd hl (by decide) | simp [posting] at hf
theorem setDeferred_touches {l : List Deferred} (hl : l.Sublist s.orders.deferred) :
    Touches [.deferred] s { s with orders := { s.orders with deferred := l } } := by
  refine .restore .bounded (.of_fields fun f hf hl => ?_) fun h =>
    ⟨h.guard, hl.length_le.trans h.deferred, fun d hd => h.closes d (hl.subset hd)⟩
  cases f <;> first | rfl | exact absurd hl (by decide) | simp at hf
theorem answerDeferred_touches (p : Deferred → Bool) (a : Deferred → Answer) :
    Touches [.control, .deferred] s (answerDeferred p a s) :=
  Touches.then (l := [.control]) (.foldl (fun _ _ => placeAnswer_touches ..) _ s) (setDeferred_touches _ List.filter_sublist)
theorem answerCloses_touches (j : Nat) (code : Code) : Touches [.control, .deferred] s (answerCloses j code s) := by
  refine Touches.then (l := [.control]) (.foldl (fun _ _ => placeAnswer_touches ..) (closesDue j s) s) (setDeferred_touches _ ?_)
  have hplaced : Touches [.control] s ((closesDue j s).foldl (fun t d => placeAnswer d.index (.plain code 0) t) s) :=
    .foldl (fun _ _ => placeAnswer_touches ..) _ s
  rw [show _ = s.orders.deferred from hplaced.at .deferred]
  exact List.diff_sublist ..
theorem portWrite_touches (a : Nat) (bytes : List (Option Byte)) : Touches [.mem] s (portWrite a bytes s) := by
  unfold portWrite; split
  · refine .restore .canonical (.of_fields fun f hf hl => ?_) fun h => { h with mem := wf_writeCells h.mem a bytes }
    cases f <;> first | rfl | exact absurd hl (by decide) | simp at hf
  · exact .refl s
theorem reachTime_touches (r : Time) (ms : Nat) : Touches [.time] s (reachTime r ms s) := by
  unfold reachTime; split
  · exact .refl s
  · refine .of_fields fun f hf hl => ?_; cases f <;> first | rfl | exact absurd hl (by decide) | simp at hf
theorem markDirty_touches (b : Block) : Touches [.dirty] s (markDirty b s) := by
  unfold markDirty; split
  · exact .refl s
  · refine .of_fields fun f hf hl => ?_; cases f <;> first | rfl | exact absurd hl (by decide) | simp at hf
theorem eraseDraining_touches (k : Option Key) : Touches [.jobs] s (eraseDraining k s) := by
  cases k with
  | none => exact .refl s
  | some k =>
    refine .restore .canonical (.of_fields fun f hf hl => ?_) fun h => { h with jobs := Table.wf_update h.jobs fun _ r => r.erased k }
    cases f <;> first | rfl | exact absurd hl (by decide) | simp at hf

/-! ## The Meter Unit -/

theorem noteFull_touches (before : Nat) : Touches posting s (noteFull before s) :=
  .ite (fun _ => postEvent_touches ..) fun _ => .refl s
theorem reserve_touches : Touches (.reservations :: posting) s (reserve s) := by
  refine Touches.then (l := [.reservations]) (t := { s with meter := { s.meter with reservations := s.meter.reservations + 1 } }) ?_
    (noteFull_touches ..)
  refine .of_fields fun f hf hl => ?_; cases f <;> first | rfl | exact absurd hl (by decide) | simp at hf
theorem raiseHeld_touches (a n : Nat) : Touches [.accounts] s (raiseHeld a n s) := setAccount_touches ..
theorem lowerHeld_touches (a n : Nat) : Touches [.accounts] s (lowerHeld a n s) := setAccount_touches ..
theorem raiseInflight_touches (a n : Nat) : Touches [.accounts] s (raiseInflight a n s) := setAccount_touches ..

/-- What a charge changes. -/
abbrev charging : List Aspect := [.accounts, .totals, .journal, .lastSeq, .reservations]

theorem setTotals_touches (x : Totals) : Touches [.totals] s { s with meter := { s.meter with totals := x } } := by
  refine .of_fields fun f hf hl => ?_; cases f <;> first | rfl | exact absurd hl (by decide) | simp at hf
theorem chargePage_touches (a : Nat) (c : Plane) (col : Colour) (provisional clicks : Nat) (o : Outcome) :
    Touches charging s (chargePage a c col provisional clicks o s) := by
  unfold chargePage; dsimp only
  exact (((setAccount_touches ..).then (k := [.accounts, .totals]) (setTotals_touches ..)).then
    (k := [.accounts, .totals, .journal, .lastSeq]) (appendEntry_touches ..)).then (unreserve_touches _)
theorem setTariffOrder_touches (ps : List Nat) : Touches [.tariff, .dirty] s (setTariffOrder ps s).1 := by
  unfold setTariffOrder; dsimp only; split
  · exact .refl s
  · refine checked_touches _ (Touches.then (l := [.tariff]) ?_ (markDirty_touches ..))
    refine .of_fields fun f hf hl => ?_; cases f <;> first | rfl | exact absurd hl (by decide) | simp at hf
theorem setAccountOrder_touches (ps : List Nat) : Touches [.accounts, .dirty] s (setAccountOrder ps s).1 := by
  unfold setAccountOrder; dsimp only; split
  · exact .refl s
  · exact .refl s
  · exact checked_touches _ ((setAccount_touches ..).then (markDirty_touches ..))

/-- What an entry without a page changes. -/
abbrev entering : List Aspect := [.accounts, .journal, .lastSeq, .control, .produce, .nextSeq]

theorem creditAccountOrder_touches (ps : List Nat) : Touches entering s (creditAccountOrder ps s).1 :=
  checked_touches _ (((setAccount_touches ..).then (k := [.accounts, .journal, .lastSeq]) (appendEntry_touches ..)).then (noteFull_touches ..))
theorem rollPeriodOrder_touches (ps : List Nat) : Touches entering s (rollPeriodOrder ps s).1 := by
  refine checked_touches _ (Touches.then (l := [.accounts, .journal, .lastSeq]) ?_ (noteFull_touches ..))
  refine .restore .canonical (.of_fields fun f hf hl => ?_) fun h =>
    { h with accounts := Table.wf_update h.accounts fun _ r => { r with counts := r.counts.roll } }
  cases f <;> first | rfl | exact absurd hl (by decide) | simp at hf
theorem readAccountOrder_touches (ps : List Nat) : Touches [] s (readAccountOrder ps s).1 := checked_touches _ (.refl s)

/-- What a store write that commits changes. -/
abbrev committing : List Aspect :=
  [.storedCounts, .storedSettings, .storedTotals, .storedTariff, .storedRest, .storedSeen, .dirty, .write, .lastWasFold]

theorem commitWrite_canonical {s : State} (h : Canonical s) (w : StoreWrite) : Canonical (commitWrite w s) := by
  unfold commitWrite committed
  cases w with
  | block b => cases b <;> first | exact { h with settings := Table.wf_set h.settings _ _ } | exact { h with }
  | fold e account totals =>
    cases account <;> cases totals <;> first | exact { h with } | exact { h with counts := Table.wf_set h.counts _ _ }
theorem commitWrite_touches (w : StoreWrite) : Touches committing s (commitWrite w s) := by
  refine .restore .canonical (.of_fields fun f hf hl => ?_) fun h => commitWrite_canonical h w
  unfold commitWrite committed
  cases w with
  | block b => cases b <;> cases f <;> first | rfl | exact absurd hl (by decide) | simp [committing] at hf
  | fold e account totals =>
    cases account <;> cases totals <;> cases f <;> first | rfl | exact absurd hl (by decide) | simp [committing] at hf
theorem failStore_touches (w : StoreWrite) :
    Touches [.write, .lastWasFold, .failed, .control, .produce, .nextSeq] s (failStore w s) := by
  refine Touches.then (l := [.write, .lastWasFold, .failed])
    (t := { s with meter := { s.meter with write := none, lastWasFold := w.isFold, failed := true } }) ?_ (postEvent_touches ..)
  refine .of_fields fun f hf hl => ?_; cases f <;> first | rfl | exact absurd hl (by decide) | simp at hf
theorem startWrite_touches : Touches [.write] s (startWrite s) := by
  refine .ite (fun _ => ?_) fun _ => .refl s
  refine .of_fields fun f hf hl => ?_; cases f <;> first | rfl | exact absurd hl (by decide) | simp at hf

/-! ## The Supply Unit -/

/-- What a slot's change of state may change. -/
abbrev changing : List Aspect := [.slots, .control, .produce, .nextSeq]

/-- What a frame sent on a supply link may change, with the change of the slot's state. -/
abbrev sending : List Aspect := [.slots, .nonceDraws, .control, .produce, .nextSeq]

/-- What the Supply Unit's answers may change, with what an exchange may. -/
abbrev answering : List Aspect := [.slots, .nonceDraws, .control, .produce, .nextSeq, .deferred]

theorem modifySlot_touches (n : Plane) (f : Slot → Slot) : Touches [.slots] s (modifySlot n f s) := setSlot_touches ..
theorem setSlotState_touches (n : Plane) (new : SlotState) (o : Option (BitVec 48 × BitVec 16)) :
    Touches changing s (setSlotState n new o s) :=
  .ite (fun _ => .refl s) fun _ => (setSlot_touches ..).then (postEvent_touches ..)
theorem putSeen_touches (l : List SeenEntry) : Touches [.seen, .dirty] s (putSeen l s) := by
  refine Touches.then (l := [.seen]) ?_ (markDirty_touches ..)
  refine .of_fields fun f hf hl => ?_; cases f <;> first | rfl | exact absurd hl (by decide) | simp at hf
theorem oweSlot_touches (n : Plane) : Touches [.seen, .dirty] s (oweSlot n s) := by
  unfold oweSlot; split
  · exact .refl s
  · exact .ite (fun _ => putSeen_touches ..) fun _ => .refl s
theorem oweUnderPfw_touches (n : Plane) : Touches [.seen, .dirty] s (oweUnderPfw n s) :=
  .ite (fun _ => oweSlot_touches ..) fun _ => .refl s
theorem oweAll_touches : Touches [.seen, .dirty] s (oweAll s) :=
  (((oweSlot_touches s 0).trans (oweSlot_touches ..)).trans (oweSlot_touches ..)).trans (oweSlot_touches ..)
theorem sendAttempt_touches (n : Plane) (x : BitVec 64 → Exchange) (frame : BitVec 64 → List LinkChar) :
    Touches [.slots, .nonceDraws] s (sendAttempt n x frame s) := by
  refine .of_fields fun f hf hl => ?_; cases f <;> first | rfl | exact absurd hl (by decide) | simp at hf
theorem identAttempt_touches (n : Plane) (a : Nat) : Touches [.slots, .nonceDraws] s (identAttempt n a s) := sendAttempt_touches ..
theorem debitAttempt_touches (n : Plane) (a target : Nat) (capped : Bool) :
    Touches [.slots, .nonceDraws] s (debitAttempt n a target capped s) := sendAttempt_touches ..
theorem beginIdent_touches (n : Plane) : Touches sending s (beginIdent n s) :=
  ((modifySlot_touches s n _).then (k := changing) (setSlotState_touches ..)).then (identAttempt_touches ..)
theorem testDebit_touches (n : Plane) : Touches [.slots, .nonceDraws] s (testDebit n s) := by
  unfold testDebit; dsimp only; split
  · exact .ite (fun _ => debitAttempt_touches ..) fun _ => .refl s
  · exact .refl s
theorem answerProbes_touches (n : Plane) : Touches [.control, .deferred] s (answerProbes n s) := answerDeferred_touches ..
theorem endExchange_touches (n : Plane) : Touches [.slots] s (endExchange n s) := modifySlot_touches ..
theorem identFailed_touches (n : Plane) : Touches answering s (identFailed n s) :=
  (((endExchange_touches s n).then (k := changing) (setSlotState_touches ..)).then (k := changing) (modifySlot_touches ..)).then
    (answerProbes_touches ..)
theorem afterDebit_touches (n : Plane) (go : State → State) (h : Touches sending s (go s)) : Touches sending s (afterDebit n go s) :=
  .ite (fun _ => beginIdent_touches ..) fun _ => h
theorem debitFailed_touches (n : Plane) : Touches sending s (debitFailed n s) :=
  ((endExchange_touches s n).trans (modifySlot_touches ..)).then (afterDebit_touches _ _ _ (.refl _))
theorem failAttempt_touches (n : Plane) : Touches answering s (failAttempt n s) := by
  unfold failAttempt; split
  · exact .refl s
  · exact .ite (fun _ => (identAttempt_touches ..).mono) fun _ => identFailed_touches ..
  · exact .ite (fun _ => (debitAttempt_touches ..).mono) fun _ => (debitFailed_touches ..).mono
theorem abandonExchange_touches (n : Plane) : Touches [.slots] s (abandonExchange n s) :=
  .ite (fun _ => .refl s) fun _ => modifySlot_touches ..

/-- What a settled debit may change. -/
abbrev debiting : List Aspect := [.slots, .nonceDraws, .control, .produce, .nextSeq, .seen, .dirty]

theorem addDebit_touches (n : Plane) (debit : Nat) : Touches debiting s (addDebit n debit s) := by
  unfold addDebit; dsimp only
  refine Touches.then (l := debiting) ?_ (testDebit_touches ..)
  have hposted : ∀ (P : Prop) [Decidable P] (e : Event) (r : Slot),
      Touches changing s (if P then postEvent e (setSlot n r s) else setSlot n r s) := fun P _ e r =>
    (setSlot_touches s n r).then (m := posting) (.ite (fun _ => postEvent_touches ..) fun _ => .refl _)
  exact .ite (fun _ => (hposted ..).mono) fun _ => (hposted ..).then (oweUnderPfw_touches ..)
theorem testLow_touches (n : Plane) : Touches changing s (testLow n s) := by
  unfold testLow; dsimp only; split
  · exact .ite (fun _ => (setSlot_touches ..).then (postEvent_touches ..)) fun _ => .refl s
  · exact .refl s

/-- What a verified cartridge may change. -/
abbrev verifying : List Aspect := [.slots, .nonceDraws, .control, .produce, .nextSeq, .seen, .dirty, .residues]

theorem takeVerified_touches (n : Plane) (i : IdentClaim) : Touches verifying s (takeVerified n i s) := by
  unfold takeVerified; dsimp only
  have old : Touches verifying s (if decide ((slotOf s n).serial = some i.serial) = true then s else oweSlot n s) :=
    .ite (fun _ => .refl s) fun _ => (oweSlot_touches ..).mono
  refine Touches.trans ?_ ((((setSlotState_touches ..).then (k := changing) (testLow_touches ..)).then (k := sending)
    (testDebit_touches ..)).mono)
  refine Touches.trans ?_ (((putSeen_touches ..).trans (oweUnderPfw_touches ..)).mono)
  refine Touches.trans ?_ ((modifySlot_touches ..).mono)
  exact old.trans (.ite (fun _ => .refl _) fun _ => (modifySlot_touches ..).then (clearResidue_touches ..))

/-- What an answer on a supply link may change. -/
abbrev judging : List Aspect := [.slots, .nonceDraws, .control, .produce, .nextSeq, .seen, .dirty, .residues, .deferred]

theorem judgeIdent_touches (n : Plane) (nonce : BitVec 64) (i : IdentClaim) (tag : BitVec 64) :
    Touches judging s (judgeIdent n nonce i tag s) := by
  unfold judgeIdent; dsimp only
  refine Touches.trans ((endExchange_touches s n).mono) (Touches.then (l := verifying) ?_ (answerProbes_touches ..))
  split
  · exact (setSlotState_touches ..).mono
  · exact takeVerified_touches ..
theorem confirmDebit_touches (n : Plane) (c : Cartridge) (target : Nat) (capped : Bool) :
    Touches debiting s (confirmDebit n c target capped s) := by
  unfold confirmDebit; dsimp only
  refine Touches.trans ?_ ((afterDebit_touches _ _ _ ((testDebit_touches ..).mono)).mono)
  refine Touches.trans ?_ (((testLow_touches ..).then (k := changing) (endExchange_touches ..)).mono)
  have hseen : ∀ f l, Touches [.slots, .seen, .dirty] s (oweUnderPfw n (putSeen l (modifySlot n f s))) := fun f l =>
    (modifySlot_touches s n f).then ((putSeen_touches ..).trans (oweUnderPfw_touches ..))
  exact .ite (fun _ => (hseen ..).then (setSlotState_touches ..)) fun _ => (hseen ..).mono
theorem judgeTally_touches (n : Plane) (nonce : BitVec 64) (target : Nat) (capped : Bool) (serial : BitVec 48) (dispensed : Nat)
    (tag : BitVec 64) : Touches judging s (judgeTally n nonce target capped serial dispensed tag s) := by
  unfold judgeTally; split
  · exact .refl s
  · split
    · exact ((endExchange_touches s n).then (k := changing) (setSlotState_touches ..)).then (answerProbes_touches ..)
    · exact (confirmDebit_touches ..).mono
theorem judgeAnswer_touches (n : Plane) (f : LinkFrame) : Touches judging s (judgeAnswer n f s) := by
  unfold judgeAnswer; split
  · exact judgeIdent_touches ..
  · exact judgeTally_touches ..
  · exact (modifySlot_touches ..).then (failAttempt_touches ..)
  · exact (failAttempt_touches ..).mono
theorem stopSlotTimers_touches (n : Plane) : Touches [.slots] s (stopSlotTimers n s) := modifySlot_touches ..
theorem postLines_touches : Touches posting s (postLines s) := postEvent_touches ..
theorem doorOpensSlot_touches (n : Plane) : Touches changing s (doorOpensSlot n s) :=
  .ite (fun _ => .refl s) fun _ => (setSlotState_touches ..).then (stopSlotTimers_touches ..)
theorem doorAnswers_touches : Touches [.control, .deferred] s (doorAnswers s) := answerDeferred_touches ..

/-- What a settled line may change. -/
abbrev settling : List Aspect := [.slots, .levels, .timers, .control, .produce, .nextSeq, .deferred, .seen, .dirty]

theorem doorOpened_touches : Touches settling s (doorOpened s) := by
  unfold doorOpened; dsimp only
  refine Touches.trans (Touches.mono (l := [.levels, .timers])
    (t := { s with supply := { s.supply with doorClosed := false, doorTimer := none } }) ?_) ?_
  · refine .of_fields fun f hf hl => ?_; cases f <;> first | rfl | exact absurd hl (by decide) | simp at hf
  refine Touches.trans ((((abandonExchange_touches _ 0).trans (abandonExchange_touches _ 1)).trans
    ((abandonExchange_touches _ 2).trans (abandonExchange_touches _ 3))).mono) ?_
  refine Touches.trans ((doorAnswers_touches _).mono) (Touches.then (l := changing) ?_ (postLines_touches _))
  exact ((doorOpensSlot_touches _ 0).trans (doorOpensSlot_touches _ 1)).trans
    ((doorOpensSlot_touches _ 2).trans (doorOpensSlot_touches _ 3))
theorem doorClosesSlot_touches (n : Plane) : Touches changing s (doorClosesSlot n s) :=
  .ite (fun _ => (setSlotState_touches ..).then (modifySlot_touches ..)) fun _ => .refl s
theorem doorShut_touches : Touches settling s (doorShut s) := by
  unfold doorShut; dsimp only
  refine Touches.trans (Touches.mono (l := [.levels]) (t := { s with supply := { s.supply with doorClosed := true } }) ?_) ?_
  · refine .of_fields fun f hf hl => ?_; cases f <;> first | rfl | exact absurd hl (by decide) | simp at hf
  · exact (((doorClosesSlot_touches _ 0).trans (doorClosesSlot_touches _ 1)).trans
      ((doorClosesSlot_touches _ 2).trans (doorClosesSlot_touches _ 3))).then (postLines_touches _)
theorem setPresence_touches (n : Plane) (b : Bool) :
    Touches [.levels] s { s with supply := { s.supply with presence := s.supply.presence.set n b } } := by
  refine .of_fields fun f hf hl => ?_; cases f <;> first | rfl | exact absurd hl (by decide) | simp at hf
theorem presenceFell_touches (n : Plane) : Touches settling s (presenceFell n s) := by
  unfold presenceFell; dsimp only
  refine Touches.trans ((setPresence_touches s n false).mono) (Touches.trans ((abandonExchange_touches _ n).mono) ?_)
  refine Touches.then (l := settling) ?_ (postLines_touches _)
  refine Touches.then (l := settling) ?_ (stopSlotTimers_touches ..)
  refine Touches.then (l := settling) ?_ (setSlotState_touches ..)
  exact (answerDeferred_touches ..).then (oweSlot_touches ..)
theorem presenceRose_touches (n : Plane) : Touches settling s (presenceRose n s) := by
  unfold presenceRose; dsimp only
  refine Touches.trans ((setPresence_touches s n true).mono) (Touches.then (l := changing) ?_ (postLines_touches _))
  exact .ite (fun _ => (setSlotState_touches ..).then (modifySlot_touches ..)) fun _ => setSlotState_touches ..
theorem setRaw_touches (l : Line) (level : Bool) : Touches [.lines] s (setRaw l level s) := by
  cases l <;> refine .of_fields fun f hf hl => ?_ <;> cases f <;> first | rfl | exact absurd hl (by decide) | simp at hf
theorem noteRaw_touches (l : Line) (level : Bool) : Touches settling s (noteRaw l level s) := by
  cases l with
  | presence n =>
    refine Touches.mono (l := [.timers]) ?_
    refine .of_fields fun f hf hl => ?_; cases f <;> first | rfl | exact absurd hl (by decide) | simp at hf
  | door =>
    refine .ite (fun _ => doorOpened_touches s) fun _ => Touches.mono (l := [.timers]) ?_
    refine .of_fields fun f hf hl => ?_; cases f <;> first | rfl | exact absurd hl (by decide) | simp at hf
theorem probeSlotOrder_touches (ps : List Nat) : Touches (.bounded :: answering) s (probeSlotOrder ps s).1 := by
  unfold probeSlotOrder; split
  · exact .refl s
  · exact checked_touches _ ((deferOrder_touches ..).then (m := sending)
      (.ite (fun _ => beginIdent_touches ..) fun _ => .refl _))
theorem readSlotOrder_touches (ps : List Nat) : Touches [] s (readSlotOrder ps s).1 := by
  unfold readSlotOrder; split <;> exact .refl s
theorem setSupplyOrder_touches (ps : List Nat) :
    Touches [.supplySettings, .slots, .nonceDraws, .dirty] s (setSupplyOrder ps s).1 := by
  refine checked_touches _ (Touches.trans (Touches.mono (l := [.supplySettings])
    (t := { s with supply := { s.supply with settings := ⟨arg ps 1, arg ps 2⟩ } }) ?_) ?_)
  · refine .of_fields fun f hf hl => ?_; cases f <;> first | rfl | exact absurd hl (by decide) | simp at hf
  · exact (((testDebit_touches _ 0).trans (testDebit_touches _ 1)).trans
      ((testDebit_touches _ 2).trans (testDebit_touches _ 3))).then (markDirty_touches ..)

/-! ## The Coverage Unit -/

theorem setWeightsOrder_touches (ps : List Nat) : Touches [.covSettings, .dirty] s (setWeightsOrder ps s).1 := by
  unfold setWeightsOrder; dsimp only; split
  · exact .refl s
  · refine checked_touches _ (Touches.then (l := [.covSettings]) ?_ (markDirty_touches ..))
    refine .of_fields fun f hf hl => ?_; cases f <;> first | rfl | exact absurd hl (by decide) | simp at hf
theorem setColourThresholdOrder_touches (ps : List Nat) :
    Touches [.covSettings, .dirty] s (setColourThresholdOrder ps s).1 := by
  refine checked_touches _ (Touches.then (l := [.covSettings]) ?_ (markDirty_touches ..))
  refine .of_fields fun f hf hl => ?_; cases f <;> first | rfl | exact absurd hl (by decide) | simp at hf

/-! ## Frames and the scrub queue -/

/-- What the scrub queue's moves may change. -/
abbrev scrubbing : List Aspect := [.entries, .scrub, .control, .produce, .nextSeq]

theorem setViewOrder_touches (ps : List Nat) : Touches [.views] s (setViewOrder ps s).1 := by
  unfold setViewOrder; split
  · exact .refl s
  · exact .refl s
  · exact .refl s
  · refine checked_touches _ ?_
    refine .of_fields fun f hf hl => ?_; cases f <;> first | rfl | exact absurd hl (by decide) | simp at hf
theorem setScrub_touches (q : Scrub) : Touches [.scrub] s { s with scrub := q } := by
  refine .of_fields fun f hf hl => ?_; cases f <;> first | rfl | exact absurd hl (by decide) | simp at hf
theorem startHead_touches (f : Nat) : Touches [.entries, .scrub] s (startHead f s) :=
  (setScrub_touches s _).then (setFrame_touches ..)
theorem retireFrame_touches (f : Nat) : Touches [.entries, .scrub] s (retireFrame f s) := by
  rw [retireFrame_eq]; exact (setScrub_touches s _).then (setFrame_touches ..)
theorem scrubIdle_touches (last : Nat) (how : ScrubHow) : Touches (.scrub :: posting) s (scrubIdle last how s) := by
  refine (postEvent_touches s (.scrubIdle s.scrub.scrubbed s.scrub.removed last how)).then (m := [.scrub]) ?_
  refine .of_fields fun f hf hl => ?_; cases f <;> first | rfl | exact absurd hl (by decide) | simp at hf
theorem nextHead_touches (last : Nat) (how : ScrubHow) : Touches scrubbing s (nextHead last how s) := by
  unfold nextHead; split
  · exact (startHead_touches ..).mono
  · exact (scrubIdle_touches ..).mono
theorem endScrub_touches (f : Nat) : Touches scrubbing s (endScrub f s) :=
  ((setScrub_touches s _).then (k := [.entries, .scrub]) (setFrame_touches ..)).then (nextHead_touches ..)
theorem releaseFrame_touches (j : Nat) (f : Nat) : Touches [.jobs, .entries, .scrub] s (releaseFrame j s f) :=
  Touches.then (l := [.entries, .scrub])
    (.ite (fun _ => retireFrame_touches ..) fun _ => (setFrame_touches ..).mono) (setJob_touches ..)
theorem bindRun_touches (j first count lb : Nat) : Touches [.entries] s (bindRun j first count lb s) :=
  .foldl (fun _ _ => setFrame_touches ..) _ s
theorem bindFramesOrder_touches (ps : List Nat) : Touches [.jobs, .entries] s (bindFramesOrder ps s).1 :=
  checked_touches _ ((setJob_touches ..).then (bindRun_touches ..))
theorem releaseFramesOrder_touches (ps : List Nat) : Touches [.jobs, .entries, .scrub] s (releaseFramesOrder ps s).1 :=
  checked_touches _ (.foldl (fun _ _ => releaseFrame_touches ..) _ s)
theorem markFrame_touches (p : Nat) (f : Nat) : Touches [.entries] s (markFrame p s f) := by
  unfold markFrame; split
  · exact setFrame_touches ..
  · exact .refl s
theorem unmarkFrames_touches (p : Nat) : Touches [.entries] s (unmarkFrames p s) := updateFrames_touches ..
theorem outstanding_abandonScrub :
    outstanding { s with port := { s.port with grant := abandonScrub s.port.grant } } = outstanding s := by
  unfold outstanding abandonScrub
  rcases s.port.grant with _ | g
  · rfl
  · cases g <;> rfl
theorem abandonScrub_touches :
    Touches [.grant] s { s with port := { s.port with grant := abandonScrub s.port.grant } } := by
  refine .restore .rings (.of_fields fun f hf hl => ?_) fun h =>
    { h with events := (congrArg _ (outstanding_abandonScrub s)).trans h.events
             fetch := (congrArg _ (outstanding_abandonScrub s)).trans h.fetch }
  cases f <;> first | rfl | exact absurd hl (by decide) | simp at hf
theorem setScrub_abandonScrub_touches (q : Scrub) :
    Touches [.grant, .scrub] s { s with scrub := q, port := { s.port with grant := abandonScrub s.port.grant } } :=
  (setScrub_touches s q).then (abandonScrub_touches { s with scrub := q })
theorem trimQueue_touches (new : Nat) : Touches (.grant :: scrubbing) s (trimQueue new s) := by
  unfold trimQueue; dsimp only
  refine .ite (fun _ => (setScrub_touches s _).mono) fun _ => Touches.then (l := [.grant, .scrub]) ?_ (nextHead_touches ..)
  exact setScrub_abandonScrub_touches ..
theorem setMemorySize_touches (new : Nat) : Touches (.size :: .grant :: scrubbing) s (setMemorySize new s) := by
  refine Touches.then (l := [.entries, .size]) ?_ (trimQueue_touches ..)
  refine (updateFrames_touches s (resizeEntry (min (frameLimit s) new) new)).then (m := [.size]) ?_
  refine .of_fields fun f hf hl => ?_; cases f <;> first | rfl | exact absurd hl (by decide) | simp at hf

/-! ## Pages -/

theorem definePageOrder_touches (ps : List Nat) : Touches [.pages, .entries] s (definePageOrder ps s).1 :=
  checked_touches _ ((setPage_touches_of _ _ _ fun _ hx hp => by cases hx; cases hp).then (.foldl (fun _ _ => markFrame_touches ..) _ _))

theorem onPage_touches {l : List Aspect} (ticket : Bool) (ps : List Nat) {act : Nat → Page → State → State × Answer}
    (h : ∀ slot p, Touches l s (act slot p s).1) : Touches l s (onPage ticket ps s act).1 := by
  refine checked_touches _ ?_
  split
  · exact h ..
  · exact .refl s

/-- What a ticket or an admission may change. -/
abbrev ticketing : List Aspect := [.pages, .accounts, .reservations, .control, .produce, .nextSeq]

theorem ticketPageOrder_touches (ps : List Nat) : Touches ticketing s (ticketPageOrder ps s).1 := by
  refine onPage_touches s _ _ fun slot p => ?_
  split
  · exact checked_touches _ (((setPage_touches_of _ _ _ fun _ hx hp => by cases hx; cases hp).then (k := [.pages, .accounts]) (raiseHeld_touches ..)).then (reserve_touches _))
  all_goals exact .refl s
theorem releaseTicket_touches (p : Page) : Touches [.accounts, .reservations] s (releaseTicket p s) := by
  unfold releaseTicket; split
  · exact (lowerHeld_touches ..).then (unreserve_touches _)
  · exact .refl s
theorem unticketPageOrder_touches (ps : List Nat) : Touches [.pages, .accounts, .reservations] s (unticketPageOrder ps s).1 := by
  refine onPage_touches s _ _ fun slot p => ?_
  split
  · exact .refl s
  · exact (setPage_touches_of _ _ _ fun _ hx hp => by cases hx; cases hp).then (releaseTicket_touches ..)
  all_goals exact .refl s

/-- What a dropped page may change. -/
abbrev dropping : List Aspect := [.pages, .entries, .accounts, .reservations]

theorem dropPage_touches (slot : Nat) : Touches dropping s (dropPage slot s) := by
  unfold dropPage; split
  · exact ((releaseTicket_touches ..).then (k := dropping) (unmarkFrames_touches ..)).then (setPage_touches_of _ _ _ nofun)
  · exact .refl s
theorem dropPageOrder_touches (ps : List Nat) : Touches dropping s (dropPageOrder ps s).1 := by
  refine onPage_touches s _ _ fun slot p => ?_
  split
  · exact .refl s
  · exact dropPage_touches ..
theorem settleDebits_touches (p : Page) (debits : Quad Nat) : Touches debiting s (settleDebits p debits s) :=
  .foldl (fun _ _ => addDebit_touches ..) _ s

/-- What a settlement may change. -/
abbrev settlement : List Aspect :=
  [.pages, .entries, .residues, .accounts, .totals, .journal, .lastSeq, .reservations, .slots, .nonceDraws, .seen, .dirty,
   .control, .produce, .nextSeq]

theorem settlePage_touches (slot : Nat) (ending : Outcome) : Touches settlement s (settlePage slot ending s) := by
  unfold settlePage; split
  · exact .refl s
  · dsimp only
    refine Touches.then (l := settlement) (Touches.then (l := settlement) (Touches.then (l := settlement) ?_
      (postEvent_touches ..)) (unmarkFrames_touches ..)) (setPage_touches_of _ _ _ nofun)
    exact .ite (fun _ => ((settleResidues_touches ..).then (k := .residues :: charging) (chargePage_touches ..)).then
      (settleDebits_touches ..)) fun _ => .refl s

/-! ## Jobs -/

theorem openSlot_touches (j a : Nat) (privacy : Privacy) (scrub : Bool) :
    Touches [.jobs, .keyDraws] s (openSlot j a privacy scrub s) := by
  refine Touches.then (l := [.keyDraws]) (m := [.jobs]) ?_ (setJob_touches ..)
  refine .of_fields fun f hf hl => ?_; cases f <;> first | rfl | exact absurd hl (by decide) | simp at hf
theorem openJobOrder_touches (ps : List Nat) : Touches [.jobs, .keyDraws] s (openJobOrder ps s).1 :=
  checked_touches _ (openSlot_touches ..)

/-- What the release of a job may change. -/
abbrev releasing : List Aspect := .jobs :: scrubbing

theorem releaseJob_touches (j : Nat) (cause : ReleaseCause) : Touches releasing s (releaseJob j cause s) :=
  ((Touches.foldl (fun _ _ => releaseFrame_touches ..) _ s).then (k := releasing) (setJob_touches ..)).then (postEvent_touches ..)
theorem answerClose_touches (j : Nat) (code : Code) : Touches [.control, .deferred] s (answerClose j code s) :=
  answerDeferred_touches ..
theorem tallyDropped_touches (j : Nat) : Touches [.jobs] s (tallyDropped j s) := setJob_touches ..
theorem tallyAborted_touches (j : Nat) : Touches [.jobs] s (tallyAborted j s) := setJob_touches ..
theorem dropPages_touches (j : Nat) : Touches (.jobs :: dropping) s (dropPages j s) :=
  .foldl (fun _ _ => (dropPage_touches ..).then (tallyDropped_touches ..)) _ s
theorem closeJobOrder_touches (ps : List Nat) :
    Touches (.bounded :: .deferred :: .scrub :: .control :: .produce :: .nextSeq :: .jobs :: dropping) s (closeJobOrder ps s).1 := by
  refine checked_touches _ ((dropPages_touches s (arg ps 1)).then (m := .bounded :: .deferred :: releasing) ?_)
  dsimp only
  split
  · exact (setJob_touches ..).then (deferOrder_touches ..)
  · exact (releaseJob_touches ..).mono

/-- What the end of a page may change, with the release of its job. -/
abbrev ending : List Aspect := .jobs :: .scrub :: .deferred :: settlement

theorem settleEnding_touches (slot : Nat) (o : Outcome) : Touches ending s (settleEnding slot o s) := by
  unfold settleEnding; split
  · exact .refl s
  · refine (settlePage_touches s slot o).then (m := .deferred :: releasing) ?_
    dsimp only
    split
    · exact .ite (fun _ => .refl _) fun _ => (releaseJob_touches ..).then (answerClose_touches ..)
    · exact .refl _
theorem abortPages_touches (j : Nat) : Touches (.jobs :: settlement) s (abortPages j s) :=
  .foldl (fun _ _ => (settlePage_touches ..).then (tallyAborted_touches ..)) _ s
theorem purgeSlot_touches (j : Nat) (cause : ReleaseCause) : Touches (.jobs :: .scrub :: settlement) s (purgeSlot j cause s) :=
  ((abortPages_touches ..).then (k := .jobs :: settlement) (dropPages_touches ..)).then (releaseJob_touches ..)
theorem purgeJob_touches (j : Nat) : Touches ending s (purgeJob j s) := (purgeSlot_touches ..).then (answerClose_touches ..)
theorem purgeJobOrder_touches (ps : List Nat) : Touches ending s (purgeJobOrder ps s).1 := checked_touches _ (purgeJob_touches ..)
theorem purgeTurn_touches (cause : ReleaseCause) (code : Code) (j : Nat) : Touches ending s (purgeTurn cause code s j) :=
  Touches.then (l := ending) (.ite (fun _ => .refl s) fun _ => (purgeSlot_touches ..).mono) (answerCloses_touches ..)
theorem purgeAll_touches (cause : ReleaseCause) (code : Code) : Touches ending s (purgeAll cause code s) :=
  .foldl (fun _ _ => purgeTurn_touches ..) _ s

/-! ## Print reads -/

theorem withholdPage_touches (slot : Nat) (p : Page) (r : WithheldReason) : Touches ticketing s (withholdPage slot p r s) :=
  ((setPage_touches_of _ _ _ fun _ hx hp => by cases hx; cases hp).then (k := [.pages, .accounts, .reservations]) (releaseTicket_touches ..)).then (postEvent_touches ..)

/-- What an admission may change. -/
abbrev admitting : List Aspect := .printing :: ticketing

theorem admitPage_touches (slot : Nat) (p : Page) : Touches admitting s (admitPage slot p s) := by
  unfold admitPage; dsimp only; split
  · exact ((setPage_touches ..).then (k := [.pages, .accounts, .printing]) (lowerHeld_touches ..)).then (raiseInflight_touches ..)
  · exact ((setPage_touches ..).then (k := [.pages, .accounts, .printing]) (raiseInflight_touches ..)).then (reserve_touches _)
theorem takeAdmission_touches (slot : Nat) (p : Page) : Touches admitting s (takeAdmission slot p s) := by
  refine .ite (fun _ => .refl s) fun _ => ?_
  split
  · exact (withholdPage_touches ..).mono
  · exact admitPage_touches ..
theorem straddle_isPrinting (p : Page) (n : Plane) (b : Nat) (plain : List Byte) (now : Time) :
    (straddle p n b plain now).isPrinting = p.isPrinting := by
  cases h : p.state <;> simp [straddle, Page.isPrinting, PageState.progressed, h]
theorem servePlane_touches (slot lo : Nat) (plain : List Byte) (n : Plane) :
    Touches (.pages :: posting) s (servePlane slot lo plain s n) := by
  unfold servePlane; split
  · exact .refl s
  · rename_i p hp
    split
    · exact .refl s
    · refine .ite (fun _ => .refl s) fun _ => .ite (fun _ => .ite (fun _ => .refl s) fun _ => ?_) fun _ => ?_
      · exact (setPage_touches_of _ _ _ fun _ hx hpr => by cases hx; exact ⟨p, hp, hpr⟩).then (postEvent_touches ..)
      · refine (setPage_touches_of _ _ _ fun _ hx hpr => ?_).mono
        cases hx
        rw [straddle_isPrinting] at hpr
        exact ⟨p, hp, hpr⟩
theorem testComplete_touches (slot : Nat) : Touches ending s (testComplete slot s) := by
  unfold testComplete; split
  · exact .ite (fun _ => settleEnding_touches ..) fun _ => .refl s
  · exact .refl s
theorem takePrintRead_touches (slot j : Nat) (g : Index) (lo : Nat) (plain : List Byte) :
    Touches (.printing :: ending) s (takePrintRead slot j g lo plain s).1 := by
  unfold takePrintRead; dsimp only; split
  · exact .refl s
  · split
    · split
      · exact (takeAdmission_touches ..).mono
      · exact ((takeAdmission_touches ..).then (k := admitting) (.foldl (fun _ _ => servePlane_touches ..) _ _)).then
          (testComplete_touches ..)
    · exact .refl s

/-! ## Supervision -/

/-- What the Supervision Unit's record may change but the cold flag and the supply-fall level. -/
abbrev supervising : List Aspect := [.device, .startWaiting, .supRest]

theorem postStateChange_touches (old : DeviceState) (cause : StateCause) : Touches posting s (postStateChange old cause s) :=
  postEvent_touches ..
theorem enterRun_touches : Touches (.device :: .startWaiting :: .supRest :: posting) s (enterRun s) := by
  refine Touches.then (l := supervising) ?_ (postStateChange_touches ..)
  refine .of_fields fun f hf hl => ?_; cases f <;> first | rfl | exact absurd hl (by decide) | simp at hf

/-- What the report of fold complete may change. -/
abbrev reporting : List Aspect :=
  [.foldReported, .device, .startWaiting, .supRest, .control, .produce, .nextSeq, .deferred]

theorem reportFold_touches : Touches reporting s (reportFold s) := by
  refine Touches.trans (t := { s with meter := { s.meter with foldReported := true } }) ?_
    (.ite (fun _ => (enterRun_touches _).then (answerDeferred_touches ..)) fun _ => .refl _)
  refine Touches.mono (l := [.foldReported]) ?_
  refine .of_fields fun f hf hl => ?_; cases f <;> first | rfl | exact absurd hl (by decide) | simp at hf
theorem enterProvision_touches : Touches [.device, .supRest, .foldReported] s (enterProvision s) := by
  refine .of_fields fun f hf hl => ?_; cases f <;> first | rfl | exact absurd hl (by decide) | simp at hf

theorem modifyCtlrst_touches (c : Ctlrst) : Touches [.supRest] s (modifySup (fun u => { u with ctlrst := c }) s) := by
  refine .of_fields fun f hf hl => ?_; cases f <;> first | rfl | exact absurd hl (by decide) | simp at hf

/-- What an entry into LOCKDOWN may change. -/
abbrev locking : List Aspect := .device :: .supRest :: ending

theorem enterLockdown_touches (cause : StateCause) : Touches locking s (enterLockdown cause s) := by
  unfold enterLockdown; dsimp only
  refine Touches.trans (Touches.mono (l := [.device, .supRest])
    (t := modifySup (fun u => { u with device := .lockdown, keepalive := none }) s) ?_) ?_
  · refine .of_fields fun f hf hl => ?_; cases f <;> first | rfl | exact absurd hl (by decide) | simp at hf
  exact ((((purgeAll_touches ..).then (k := locking) (answerDeferred_touches ..)).then (k := locking)
    (modifyCtlrst_touches _ .held)).then (postStateChange_touches ..))

/-- What START may change. -/
abbrev starting : List Aspect :=
  [.bounded, .size, .grant, .entries, .scrub, .cold, .device, .startWaiting, .supRest, .control, .produce, .nextSeq, .deferred]

theorem startOrder_touches (ps : List Nat) : Touches starting s (startOrder ps s).1 := by
  refine checked_touches _ (Touches.trans ((setMemorySize_touches s (arg ps 1)).mono) ?_)
  dsimp only
  refine Touches.trans (Touches.mono (l := [.cold, .supRest]) (t := modifySup (fun u =>
    { u with period := arg ps 2, stallSeconds := arg ps 3, cold := false, provTimer := none }) (setMemorySize (arg ps 1) s)) ?_) ?_
  · refine .of_fields fun f hf hl => ?_; cases f <;> first | rfl | exact absurd hl (by decide) | simp at hf
  split
  · exact (enterRun_touches _).mono
  · refine Touches.then (l := [.startWaiting]) ?_ (deferOrder_touches ..)
    refine .of_fields fun f hf hl => ?_; cases f <;> first | rfl | exact absurd hl (by decide) | simp at hf
theorem startServiceOrder_touches (ps : List Nat) :
    Touches [.cold, .device, .supRest, .control, .produce, .nextSeq] s (startServiceOrder ps s).1 := by
  refine checked_touches _ (Touches.then (l := [.cold, .device, .supRest]) ?_ (postStateChange_touches ..))
  refine .of_fields fun f hf hl => ?_; cases f <;> first | rfl | exact absurd hl (by decide) | simp at hf
theorem endServiceOrder_touches (ps : List Nat) :
    Touches (.device :: .supRest :: .foldReported :: ending) s (endServiceOrder ps s).1 := by
  unfold endServiceOrder; dsimp only
  exact ((purgeAll_touches s .purge .done).then (k := .device :: .supRest :: .foldReported :: ending)
    (enterProvision_touches (purgeAll .purge .done s))).then (postStateChange_touches ..)
theorem keepaliveOrder_touches (ps : List Nat) : Touches locking s (keepaliveOrder ps s).1 := by
  unfold keepaliveOrder; split
  · dsimp only
    split
    · dsimp only; exact enterLockdown_touches ..
    · split
      · refine Touches.mono (l := [.supRest]) ?_
        refine .of_fields fun f hf hl => ?_; cases f <;> first | rfl | exact absurd hl (by decide) | simp at hf
      · dsimp only; exact enterLockdown_touches ..
  · exact .refl s
theorem recoverOrder_touches (ps : List Nat) :
    Touches [.device, .supRest, .foldReported, .control, .produce, .nextSeq] s (recoverOrder ps s).1 := by
  refine Touches.then (l := [.device, .supRest, .foldReported]) ?_ (postStateChange_touches ..)
  refine .of_fields fun f hf hl => ?_; cases f <;> first | rfl | exact absurd hl (by decide) | simp at hf

/-! ## Transfers -/

theorem noteBreach_touches (p : Part) (r : PartRecord) : Touches (.entries :: posting) s (noteBreach p r s) :=
  .ite (fun _ => (postEvent_touches ..).then (setFrame_touches ..)) fun _ => .refl s
/-- A post value that R155 admits keeps the law. -/
theorem RingsCore.hold {s : State} (h : RingsCore s) {v : Index} (hroom : ringDistance v s.orders.take ≤ 64)
    (hnew : s.orders.fetching = true → 1 ≤ ringDistance v s.orders.take) :
    RingsCore { s with orders := { s.orders with heldPost := v } } :=
  { h with
    posted := hroom
    pending := fun hf hv => by
      have hv : v = s.orders.take := hv
      have := hnew hf
      simp [hv, ringDistance] at this }
theorem takePost_touches (v : Index) : Touches (.heldPost :: posting) s (takePost v s) := by
  refine .ite (fun hv => ?_) fun _ => (postEvent_touches ..).mono
  refine Touches.mono (l := [.heldPost]) (.restore .rings (.of_fields fun f hf hl => ?_) fun h => h.hold hv.1 hv.2)
  cases f <;> first | rfl | exact absurd hl (by decide) | simp at hf
theorem Events.consumed_same (e : Events) (v : Index) :
    (e.consumed v).produce = e.produce ∧ (e.consumed v).nextSeq = e.nextSeq ∧ (e.consumed v).written = e.written ∧
      (e.consumed v).consume = v := by
  unfold Events.consumed
  dsimp only
  split <;> split <;> exact ⟨rfl, rfl, rfl, rfl⟩
/-- A consume value up to the written produce index keeps the law. -/
theorem RingsCore.consume {s : State} (h : RingsCore s) {v : Index}
    (hv : ringDistance v s.events.consume ≤ ringDistance s.events.written s.events.consume) :
    RingsCore { s with events := s.events.consumed v } := by
  obtain ⟨hproduce, -, hwritten, hconsume⟩ := s.events.consumed_same v
  have hcounted := h.counted
  have hbounded := h.bounded
  simp only [occupancy] at hcounted hbounded
  have hsplit : ringDistance s.events.written v + ringDistance s.events.produce s.events.written = ringDistance s.events.produce v ∧
      ringDistance s.events.produce v ≤ 256 := by
    simp only [ringDistance] at *
    bv_omega
  refine ⟨?_, ?_, ?_, h.fetch, h.posted, h.pending⟩
  · simp only [hproduce, hwritten]
    exact h.events
  · simpa only [occupancy, hproduce, hwritten, hconsume] using hsplit.1
  · simpa only [occupancy, hproduce, hconsume] using hsplit.2
theorem takeConsume_touches (v : Index) : Touches (.consume :: .attention :: posting) s (takeConsume v s) := by
  refine .ite (fun hv => Touches.mono (l := [.consume, .attention]) (.restore .rings ?_ fun h => h.consume hv)) fun _ =>
    (postEvent_touches ..).mono
  obtain ⟨hproduce, hnext, hwritten, -⟩ := s.events.consumed_same v
  refine .of_fields fun f hf hl => ?_; cases f <;> first | rfl | exact absurd hl (by decide) | assumption | simp at hf

/-- What snooped values that are handed over may change. -/
abbrev handing : List Aspect := [.heldPost, .consume, .attention, .control, .produce, .nextSeq]

theorem handOver_touches (post consume : Option Index) : Touches handing s (handOver post consume s) := by
  refine Touches.then (l := .heldPost :: posting) (m := .consume :: .attention :: posting)
    (t := match post with
      | some v => takePost v s
      | none => s) ?_ ?_
  · cases post
    · exact .refl s
    · exact takePost_touches ..
  · cases consume
    · exact .refl _
    · exact takeConsume_touches ..

/-- What a part that is taken may change. -/
abbrev serving : List Aspect := [.entries, .service, .shadows, .linkAnswer, .heldPost, .consume, .attention, .control, .produce, .nextSeq]

theorem serveParts_touches (write : Bool) (parts : List Part) (data : List Byte) :
    Touches serving s (serveParts write parts data s) := by
  induction parts generalizing data s with
  | nil =>
    refine Touches.mono (l := [.service, .linkAnswer]) ?_
    refine .of_fields fun f hf hl => ?_; cases f <;> first | rfl | exact absurd hl (by decide) | simp at hf
  | cons p rest ih =>
    unfold serveParts
    dsimp only
    refine Touches.trans ((noteBreach_touches s p (formRecord s p)).mono) ?_
    split
    · refine Touches.trans (Touches.mono (l := [.shadows]) ?_) (Touches.trans ((handOver_touches ..).mono) (ih ..))
      refine .of_fields fun f hf hl => ?_; cases f <;> first | rfl | exact absurd hl (by decide) | simp at hf
    · refine Touches.mono (l := [.service, .shadows]) ?_
      refine .of_fields fun f hf hl => ?_; cases f <;> first | rfl | exact absurd hl (by decide) | simp at hf
theorem endService_touches (v : Service) (data : List Byte) : Touches (.jobs :: serving) s (endService v data s) := by
  unfold endService; dsimp only
  refine Touches.trans ((handOver_touches s v.post v.consume).mono) (Touches.trans (Touches.mono (l := [.service])
    (t := { handOver v.post v.consume s with filter := { (handOver v.post v.consume s).filter with service := none } }) ?_) ?_)
  · refine .of_fields fun f hf hl => ?_; cases f <;> first | rfl | exact absurd hl (by decide) | simp at hf
  · exact (eraseDraining_touches ..).then (serveParts_touches ..)
theorem readUnder_touches (v : Service) (stored : List Byte) : Touches (.printing :: ending) s (readUnder v stored s).1 := by
  unfold readUnder; split
  · exact .refl s
  · exact takePrintRead_touches ..
  · exact .refl s

/-- What a performed access of a part may change. -/
abbrev performing : List Aspect :=
  [.grant, .mem, .openReads, .service, .shadows, .linkAnswer, .heldPost, .consume, .attention, .printing] ++ ending

theorem linkPerformed_touches (v : Service) (a : LinkAccess) : Touches (.rings :: performing) s (linkPerformed v a s) := by
  unfold linkPerformed; dsimp only; split
  · refine Touches.trans (Touches.mono (l := [.openReads]) (t := { s with openReads := s.openReads + 1 }) ?_) ?_
    · refine .of_fields fun f hf hl => ?_; cases f <;> first | rfl | exact absurd hl (by decide) | simp at hf
    · exact ((readUnder_touches ..).then (k := .grant :: .rings :: .printing :: ending) (freePort_touches _)).then (endService_touches ..)
  · refine Touches.mono (l := [.openReads, .service]) ?_
    refine .of_fields fun f hf hl => ?_; cases f <;> first | rfl | exact absurd hl (by decide) | simp at hf
  · exact ((portWrite_touches ..).then (k := [.mem, .grant, .rings]) (freePort_touches _)).then (endService_touches ..)

/-! ## The end of a take -/

theorem placeHeader_touches : Touches [.control, .lastHeader] s (placeHeader s) := by
  refine .ite (fun _ => .restore .rings (Touches.then (l := [.lastHeader]) (m := [.control, .rings]) ?_ (placeAccess_touches ..)) fun h =>
    RingsCore.place (s := { s with orders := { s.orders with lastHeader := headerWords s } }) { h with } rfl rfl) fun _ => .refl s
  refine .of_fields fun f hf hl => ?_; cases f <;> first | rfl | exact absurd hl (by decide) | simp at hf
theorem advanceStore_touches : Touches (.journal :: .write :: reporting) s (advanceStore s) := by
  refine .ite (fun _ => .refl s) fun _ => ?_
  refine Touches.trans ((dropFolded_touches s).mono) (Touches.then (l := reporting) ?_ (startWrite_touches _))
  exact .ite (fun _ => reportFold_touches _) fun _ => .refl _

/-- What the end of a take may change. -/
abbrev closing : List Aspect := .journal :: .write :: .lastHeader :: reporting

theorem closeTake_touches : Touches closing s (closeTake s) := (advanceStore_touches s).then (placeHeader_touches _)

end Sys2Proof.Machine
end

section
/-! One step, taken apart: what each command can do, with its footprint, and the one principle by which a law is kept by every step. -/

namespace Sys2Proof.Machine

set_option Elab.async false

/-! ## The commands by their shape -/

/-- An order of R180: its kind, the device states that accept it, and what it does. -/
structure OrderMeaning where
  kind    : Nat
  accepts : DeviceState → Bool
  act     : List Nat → State → State × Answer

/-- The order that a command takes. -/
def orderOf : Instr → Option OrderMeaning
  | .bindFrames => some ⟨1, inWork, bindFramesOrder⟩
  | .releaseFrames => some ⟨2, inWork, releaseFramesOrder⟩
  | .setView => some ⟨3, inSettings, setViewOrder⟩
  | .openJob => some ⟨4, inWork, openJobOrder⟩
  | .closeJob => some ⟨5, inWork, closeJobOrder⟩
  | .purgeJob => some ⟨6, inWork, purgeJobOrder⟩
  | .definePage => some ⟨7, inWork, definePageOrder⟩
  | .ticketPage => some ⟨8, inWork, ticketPageOrder⟩
  | .unticketPage => some ⟨9, inWork, unticketPageOrder⟩
  | .dropPage => some ⟨10, inWork, dropPageOrder⟩
  | .setWeights => some ⟨11, inSettings, setWeightsOrder⟩
  | .setColourThreshold => some ⟨12, inSettings, setColourThresholdOrder⟩
  | .setAccount => some ⟨13, inSettings, setAccountOrder⟩
  | .setTariff => some ⟨14, inSettings, setTariffOrder⟩
  | .rollPeriod => some ⟨15, inWork, rollPeriodOrder⟩
  | .creditAccount => some ⟨16, inWork, creditAccountOrder⟩
  | .readAccount => some ⟨17, inSettings, readAccountOrder⟩
  | .probeSlot => some ⟨18, inSettings, probeSlotOrder⟩
  | .readSlot => some ⟨19, inSettings, readSlotOrder⟩
  | .setSupply => some ⟨20, inSettings, setSupplyOrder⟩
  | .setAttention => some ⟨21, inSettings, setAttentionOrder⟩
  | .start => some ⟨22, inProvision, startOrder⟩
  | .startService => some ⟨23, inProvision, startServiceOrder⟩
  | .endService => some ⟨24, inService, endServiceOrder⟩
  | .keepalive => some ⟨25, inWork, keepaliveOrder⟩
  | .recover => some ⟨26, inLockdown, recoverOrder⟩
  | _ => none

/-- What a command that is no order, no line change and no reset does in a running part, where it occurs. -/
def takeOf : Instr → Option (State → Option State)
  | .transferAccept t => some (acceptTransfer t)
  | .memoryGrant => some memoryGrant
  | .linkAccessPerformed => some linkAccess
  | .scrubLinePerformed => some scrubPerformed
  | .orderFetch => some orderFetch
  | .unknownOrder => some takeUnknown
  | .eventWritePerformed => some eventPerformed
  | .headerWritePerformed => some headerPerformed
  | .stallTimerExpiry page => some (stallExpired page)
  | .provisioningTimerExpiry => some provisioningExpired
  | .ctlrstPulseEnd => some pulseEnded
  | .keepaliveExpiry => some keepaliveExpired
  | .lineSettleExpiry line => some (lineSettled line)
  | .probeDelayExpiry slot => some (probeDelayExpired slot)
  | .reprobeTimerExpiry slot => some (reprobeExpired slot)
  | .supplyFrameSent slot => some (frameSent slot)
  | .supplyFrameReceived slot chars => some (frameReceived slot chars)
  | .answerWindowExpiry slot => some (windowExpired slot)
  | .storeWriteDone readsBack => some (storeWriteDone readsBack)
  | _ => none

/-- The board's own side of a line command: whether the level is the present one, and the raw level set. -/
def rawOf : Instr → Option ((State → Bool) × (State → State))
  | .pfwChange a => some (fun s => a == s.lines.pfw, fun s => { s with lines := { s.lines with pfw := a } })
  | .lineRawChange line level => some (fun s => level == rawLevel line s, setRaw line level)
  | _ => none

/-- The part's side of a line command. -/
def lineOf? : Instr → State → State
  | .pfwChange a => pfwChanged a
  | .lineRawChange line level => noteRaw line level
  | _ => id

/-- What is left of the part after a loss of power (R108). -/
def lost (cut : ResetCut) (s : State) : State :=
  { cutMemory cut s with
    power := .off, store := cutStore cut s, port := { (cutMemory cut s).port with grant := none }
    meter := { (cutMemory cut s).meter with write := none } }

/-- What a command can do to a state. -/
inductive Transition (c : Instr) (s : State) : State → Prop
  | idle : Transition c s s
  | take {f : State → Option State} {u : State} (hp : s.power = .on) (hf : takeOf c = some f) (hu : f s = some u) :
      Transition c s (closeTake u)
  | order {m : OrderMeaning} {o : OrderSlot} (hp : s.power = .on) (hm : orderOf c = some m) (ho : fetchedOrder s = some o) :
      Transition c s (closeTake (answerAndAdvance (checked (commonChecks m.accepts o s) (fetchDone s) (m.act o.params))))
  | line {same : State → Bool} {raw : State → State} (hp : s.power = .on) (hr : rawOf c = some (same, raw)) (hs : same s = false) :
      Transition c s (closeTake (lineOf? c (raw s)))
  | raw {same : State → Bool} {raw : State → State} (hp : s.power ≠ .on) (hr : rawOf c = some (same, raw)) :
      Transition c s (raw s)
  | powerOn (cut : ResetCut) : Transition c s (startUp true cut s)
  | warmReset (cut : ResetCut) (hp : s.power = .on) : Transition c s { afterReset false cut s with power := .held }
  | release (hp : s.power = .held) : Transition c s (startUp false ⟨false, 0⟩ s)
  | loss (cut : ResetCut) : Transition c s (lost cut s)

theorem transition_of_taken {c : Instr} {f : State → Option State} {s t : State} (hf : takeOf c = some f)
    (h : taken f s = .next t) : Transition c s t := by
  obtain rfl | ⟨hp, u, hu, rfl⟩ := taken_cases h
  · exact .idle
  · exact .take hp hf hu

theorem transition_of_order {c : Instr} {m : OrderMeaning} {s t : State} (hm : orderOf c = some m)
    (h : taken (takeOrder m.kind m.accepts m.act) s = .next t) : Transition c s t := by
  obtain rfl | ⟨hp, u, hu, rfl⟩ := taken_cases h
  · exact .idle
  · obtain ⟨o, ho, -, rfl⟩ := takeOrder_cases hu
    exact .order hp hm ho

theorem transition_of_line {c : Instr} {same : State → Bool} {raw : State → State} {s t : State} (hr : rawOf c = some (same, raw))
    (h : lineChange (same s) raw (lineOf? c) s = .next t) : Transition c s t := by
  unfold lineChange at h
  split at h
  · cases h; exact .idle
  · split at h
    · cases h; exact .line ‹_› hr (by simpa using ‹¬ same s = true›)
    · cases h; exact .raw ‹_› hr

/-- The effect of a command that answers with a next state. -/
theorem exec_transition {c : Instr} {s t : State} (h : exec c s = .next t) : Transition c s t := by
  cases c
  case powerOn cut => cases h; exact .powerOn cut
  case warmReset cut =>
    simp only [exec, execWarmReset] at h
    split at h <;> cases h
    · exact .warmReset cut ‹_›
    · exact .idle
  case resetnRelease =>
    simp only [exec, execResetnRelease] at h
    split at h <;> cases h
    · exact .release ‹_›
    · exact .idle
  case powerLoss cut =>
    simp only [exec, execPowerLoss] at h
    split at h <;> cases h
    · exact .idle
    · exact .loss cut
  case pfwChange a => exact transition_of_line rfl h
  case lineRawChange line level => exact transition_of_line rfl h
  case transferAccept | memoryGrant | linkAccessPerformed | scrubLinePerformed | orderFetch | unknownOrder | eventWritePerformed |
    headerWritePerformed | stallTimerExpiry | provisioningTimerExpiry | ctlrstPulseEnd | keepaliveExpiry | lineSettleExpiry |
    probeDelayExpiry | reprobeTimerExpiry | supplyFrameSent | supplyFrameReceived | answerWindowExpiry | storeWriteDone =>
    exact transition_of_taken rfl h
  all_goals exact transition_of_order rfl h

/-! ## The footprint of a command -/

/-- What an order's act, or the take of any other command, may change. -/
def footprintOf : Instr → List Aspect
  | .bindFrames => [.jobs, .entries]
  | .releaseFrames => [.jobs, .entries, .scrub]
  | .setView => [.views]
  | .openJob => [.jobs, .keyDraws]
  | .closeJob => .bounded :: .deferred :: .scrub :: .control :: .produce :: .nextSeq :: .jobs :: dropping
  | .purgeJob => ending
  | .definePage => [.pages, .entries]
  | .ticketPage => ticketing
  | .unticketPage => [.pages, .accounts, .reservations]
  | .dropPage => dropping
  | .setWeights => [.covSettings, .dirty]
  | .setColourThreshold => [.covSettings, .dirty]
  | .setAccount => [.accounts, .dirty]
  | .setTariff => [.tariff, .dirty]
  | .rollPeriod => entering
  | .creditAccount => entering
  | .readAccount => []
  | .probeSlot => .bounded :: answering
  | .readSlot => []
  | .setSupply => [.supplySettings, .slots, .nonceDraws, .dirty]
  | .setAttention => [.attention]
  | .start => starting
  | .startService => [.cold, .device, .supRest, .control, .produce, .nextSeq]
  | .endService => .device :: .supRest :: .foldReported :: ending
  | .keepalive => locking
  | .recover => [.device, .supRest, .foldReported, .control, .produce, .nextSeq]
  | .transferAccept _ => serving
  | .memoryGrant => [.bounded, .service, .grant, .guard, .control, .mem, .scrub]
  | .linkAccessPerformed => performing
  | .scrubLinePerformed => .mem :: .grant :: scrubbing
  | .orderFetch => [.control, .fetching]
  | .unknownOrder => [.grant, .fetching, .control, .take]
  | .eventWritePerformed => [.mem, .grant, .written, .attention]
  | .headerWritePerformed => [.mem, .grant]
  | .stallTimerExpiry _ => .time :: ending
  | .provisioningTimerExpiry => [.time, .supRest, .control, .produce, .nextSeq]
  | .ctlrstPulseEnd => [.time, .supRest]
  | .keepaliveExpiry => .time :: locking
  | .lineSettleExpiry _ => .time :: settling
  | .probeDelayExpiry _ => .time :: sending
  | .reprobeTimerExpiry _ => .time :: sending
  | .supplyFrameSent _ => [.slots]
  | .supplyFrameReceived _ _ => judging
  | .answerWindowExpiry _ => .time :: answering
  | .storeWriteDone _ => [.write, .lastWasFold, .failed, .dirty, .storedCounts, .storedSettings, .storedTotals, .storedTariff,
      .storedRest, .storedSeen, .foldReported, .device, .startWaiting, .supRest, .control, .produce, .nextSeq, .deferred]
  | .pfwChange _ => [.lines, .pfw, .seen, .dirty]
  | .lineRawChange _ _ => .lines :: settling
  | _ => []

theorem setAttentionOrder_touches (s : State) (ps : List Nat) : Touches [.attention] s (setAttentionOrder ps s).1 := by
  unfold setAttentionOrder
  split
  · exact .refl s
  · have h : ∀ m, (s.events.setMode m).produce = s.events.produce ∧ (s.events.setMode m).nextSeq = s.events.nextSeq ∧
        (s.events.setMode m).written = s.events.written ∧ (s.events.setMode m).consume = s.events.consume := by
      intro m
      unfold Events.setMode
      dsimp only
      split_ifs <;> exact ⟨rfl, rfl, rfl, rfl⟩
    rename_i m _
    obtain ⟨hproduce, hnext, hwritten, hconsume⟩ := h m
    refine .of_fields fun f hf hl => ?_; cases f <;> first | rfl | exact absurd hl (by decide) | assumption | simp at hf

theorem act_touches {c : Instr} {m : OrderMeaning} (hm : orderOf c = some m) (ps : List Nat) (s : State) :
    Touches (footprintOf c) s (m.act ps s).1 := by
  cases c <;> cases hm
  case bindFrames => exact bindFramesOrder_touches ..
  case releaseFrames => exact releaseFramesOrder_touches ..
  case setView => exact setViewOrder_touches ..
  case openJob => exact openJobOrder_touches ..
  case closeJob => exact closeJobOrder_touches ..
  case purgeJob => exact purgeJobOrder_touches ..
  case definePage => exact definePageOrder_touches ..
  case ticketPage => exact ticketPageOrder_touches ..
  case unticketPage => exact unticketPageOrder_touches ..
  case dropPage => exact dropPageOrder_touches ..
  case setWeights => exact setWeightsOrder_touches ..
  case setColourThreshold => exact setColourThresholdOrder_touches ..
  case setAccount => exact setAccountOrder_touches ..
  case setTariff => exact setTariffOrder_touches ..
  case rollPeriod => exact rollPeriodOrder_touches s ps
  case creditAccount => exact creditAccountOrder_touches ..
  case readAccount => exact readAccountOrder_touches ..
  case probeSlot => exact probeSlotOrder_touches ..
  case readSlot => exact readSlotOrder_touches ..
  case setSupply => exact setSupplyOrder_touches ..
  case setAttention => exact setAttentionOrder_touches ..
  case start => exact startOrder_touches ..
  case startService => exact startServiceOrder_touches s ps
  case endService => exact endServiceOrder_touches s ps
  case keepalive => exact keepaliveOrder_touches s ps
  case recover => exact recoverOrder_touches s ps

/-! ## The takes that are no orders -/

theorem acceptTransfer_some {t : Transfer} {s u : State} (h : acceptTransfer t s = some u) :
    s.filter.service = none ∧ t.wf = true ∧ ∃ write, u = serveParts write (Transfer.parts t) [] s := by
  unfold acceptTransfer at h
  split at h
  · rename_i hc
    cases h
    simp only [Bool.and_eq_true, Option.isNone_iff_eq_none] at hc
    exact ⟨hc.1, hc.2, _, rfl⟩
  · cases h

/-- The law of the rings reads, of the accesses outstanding, the indices of the event writes and of the fetches. -/
theorem RingsCore.of_outstanding {s t : State} (hs : RingsCore s)
    (h : ∀ f ∈ [Aspect.produce, .written, .consume, .fetching, .take, .heldPost], f.same s t)
    (hevents : (outstanding t).filterMap (·.eventIndex) = (outstanding s).filterMap (·.eventIndex))
    (hfetch : (outstanding t).filterMap (·.fetchIndex) = (outstanding s).filterMap (·.fetchIndex)) : RingsCore t := by
  have hproduce : t.events.produce = s.events.produce := h .produce (by decide)
  have hwritten : t.events.written = s.events.written := h .written (by decide)
  have hconsume : t.events.consume = s.events.consume := h .consume (by decide)
  have hfetching : t.orders.fetching = s.orders.fetching := h .fetching (by decide)
  have htake : t.orders.take = s.orders.take := h .take (by decide)
  have hpost : t.orders.heldPost = s.orders.heldPost := h .heldPost (by decide)
  have hocc : occupancy t = occupancy s := by simp only [occupancy, hproduce, hconsume]
  obtain ⟨hev, hcnt, hbound, hf, hp, hpend⟩ := hs
  constructor <;> simp only [hevents, hfetch, hocc, hproduce, hwritten, hconsume, hfetching, htake, hpost] <;> assumption

theorem outstanding_of_free {s : State} (h : ∀ a, s.port.grant ≠ some (.control a)) : outstanding s = s.port.control := by
  unfold outstanding
  split
  · exact absurd ‹_› (h _)
  · rfl

theorem outstanding_of_control {s : State} {a : ControlAccess} (h : s.port.grant = some (.control a)) :
    outstanding s = a :: s.port.control := by simp [outstanding, h]

/-- The end of an access that is none of the Order Unit's keeps the law. -/
theorem RingsCore.free {s : State} (hs : RingsCore s) (h : ∀ a, s.port.grant ≠ some (.control a)) : RingsCore (freePort s) := by
  have hout : outstanding (freePort s) = outstanding s := by rw [outstanding_of_free h]; rfl
  exact { hs with events := hout ▸ hs.events, fetch := hout ▸ hs.fetch }

theorem grantLink_touches {s : State} (hfree : s.port.grant = none) : Touches [.service, .grant, .guard, .bounded] s (grantLink s) := by
  refine .restore .rings (.of_fields fun f hf hl => ?_) fun h => ?_
  · cases f <;> first | rfl | exact absurd hl (by decide) | simp at hf
  · have hout : outstanding (grantLink s) = outstanding s := by rw [outstanding_of_free (s := s) (by simp [hfree])]; rfl
    exact { h with events := hout ▸ h.events, fetch := hout ▸ h.fetch }
theorem grantControl_touches {s : State} (hfree : s.port.grant = none) :
    Touches [.grant, .guard, .control, .mem, .bounded] s (grantControl s) := by
  unfold grantControl
  split
  · exact .refl s
  · rename_i a rest hc
    have hout : outstanding s = a :: rest := by rw [outstanding_of_free (by simp [hfree]), hc]
    dsimp only
    split
    · rename_i i ans
      refine .restore .rings (Touches.then (l := [.guard, .control, .rings, .bounded]) (m := [.mem]) ?_ (controlWrite_touches ..)) fun h =>
        h.of_outstanding (by intro f hf; fin_cases hf <;> rfl) ?_ ?_
      · refine .of_fields fun f hf hl => ?_; cases f <;> first | rfl | exact absurd hl (by decide) | simp at hf
      all_goals
        rw [outstanding_of_free (s := writeAnswer i ans _) (by simp [writeAnswer, hfree]), hout]
        rfl
    · refine .restore .rings (Touches.mono (l := [.grant, .guard, .control, .rings, .bounded]) ?_) fun h =>
        h.of_outstanding (by intro f hf; fin_cases hf <;> rfl) ?_ ?_
      · refine .of_fields fun f hf hl => ?_; cases f <;> first | rfl | exact absurd hl (by decide) | simp at hf
      all_goals rw [hout]; rfl
theorem grantScrub_touches {s : State} (hfree : s.port.grant = none) : Touches [.grant, .guard, .scrub, .bounded] s (grantScrub s) := by
  unfold grantScrub
  split
  · refine .restore .rings (.of_fields fun f hf hl => ?_) fun h => ?_
    · cases f <;> first | rfl | exact absurd hl (by decide) | simp at hf
    · exact h.of_outstanding (by intro f hf; fin_cases hf <;> rfl) (by rw [outstanding_of_free (s := s) (by simp [hfree])]; rfl)
        (by rw [outstanding_of_free (s := s) (by simp [hfree])]; rfl)
  · exact .refl s

/-- A grant is given while the port is free, to the client that the arbiter chose (R37). -/
theorem memoryGrant_some {s u : State} (h : memoryGrant s = some u) :
    s.port.grant = none ∧ ((arbiter s = some .link ∧ u = grantLink s) ∨ (arbiter s = some .control ∧ u = grantControl s) ∨
      (arbiter s = some .scrub ∧ u = grantScrub s)) := by
  unfold memoryGrant at h
  split at h
  · refine ⟨Option.isNone_iff_eq_none.mp ‹_›, ?_⟩
    obtain ⟨c, hc, rfl⟩ := Option.map_eq_some_iff.mp h
    cases c
    · exact .inl ⟨hc, rfl⟩
    · exact .inr (.inl ⟨hc, rfl⟩)
    · exact .inr (.inr ⟨hc, rfl⟩)
  · cases h

/-- An access of the link grant is performed for the part in service. -/
theorem linkAccess_some {s u : State} (h : linkAccess s = some u) :
    s.port.grant = some .link ∧ ∃ v a, s.filter.service = some v ∧ v.phase = .performing a ∧ u = linkPerformed v a s := by
  unfold linkAccess at h
  split at h
  · split at h
    · cases h; exact ⟨‹_›, _, _, ‹_›, ‹_›, rfl⟩
    · cases h
  · cases h

/-- A scrub line is performed: zeros are written, and of a live line the head's progress rises or its scrub ends. -/
theorem scrubPerformed_some {s u : State} (h : scrubPerformed s = some u) :
    ∃ f l live, s.port.grant = some (.scrub f l live) ∧
      let t := freePort (portWrite (lineAddress f l) (List.replicate 64 (some 0)) s)
      (live = false ∧ u = t) ∨
      (live = true ∧ l < 16383 ∧ u = { t with scrub := { t.scrub with progress := some (l + 1), offered := true } }) ∨
      (live = true ∧ 16383 ≤ l ∧ u = endScrub f t) := by
  unfold scrubPerformed at h
  split at h
  · rename_i f l live hg
    refine ⟨f, l, live, hg, ?_⟩
    cases live
    · exact .inl ⟨rfl, (Option.some.inj h).symm⟩
    · dsimp only at h
      rw [if_pos rfl] at h
      split at h
      · exact .inr (.inl ⟨rfl, ‹_›, (Option.some.inj h).symm⟩)
      · exact .inr (.inr ⟨rfl, Nat.le_of_not_lt ‹_›, (Option.some.inj h).symm⟩)
  · cases h

theorem orderFetch_some {s u : State} (h : orderFetch s = some u) :
    mayFetch s = true ∧ u = placeAccess (.fetch s.orders.take) { s with orders := { s.orders with fetching := true } } := by
  unfold orderFetch at h
  split at h
  · cases h; exact ⟨‹_›, rfl⟩
  · cases h

theorem takeUnknown_some {s u : State} (h : takeUnknown s = some u) :
    (∃ o, fetchedOrder s = some o) ∧ u = answerAndAdvance (fetchDone s, .plain .format 1) := by
  obtain ⟨o, ho, h⟩ := Option.bind_eq_some_iff.mp h
  split at h
  · cases h; exact ⟨⟨o, ho⟩, rfl⟩
  · cases h

theorem eventPerformed_some {s u : State} (h : eventPerformed s = some u) :
    ∃ r, s.port.grant = some (.control (.event r)) ∧
      u = { freePort (controlWrite (eventAddress r.index) (r.bytes.map some) s) with
        events := s.events.recordWritten r.index r.event.isAlarm } := by
  unfold eventPerformed at h
  split at h
  · cases h; exact ⟨_, ‹_›, rfl⟩
  · cases h

theorem headerPerformed_some {s u : State} (h : headerPerformed s = some u) :
    ∃ whole w, s.port.grant = some (.control (.header whole w)) ∧ u = freePort (controlWrite 0 (headerBytes whole w) s) := by
  unfold headerPerformed at h
  split at h
  · cases h; exact ⟨_, _, ‹_›, rfl⟩
  · cases h

theorem Events.recordWritten_same (e : Events) (i : Index) (alarm : Bool) :
    (e.recordWritten i alarm).produce = e.produce ∧ (e.recordWritten i alarm).nextSeq = e.nextSeq ∧
      (e.recordWritten i alarm).consume = e.consume ∧ (e.recordWritten i alarm).written = i + 1 := by
  unfold Events.recordWritten Events.judge
  dsimp only
  split <;> exact ⟨rfl, rfl, rfl, rfl⟩

theorem frameReceived_some {n : Plane} {chars : List LinkChar} {s u : State} (h : frameReceived n chars s = some u) :
    ∃ r f, (slotOf s n).window = some r ∧ span s.time r ≤ 20 ∧ decodeFrame chars = f ∧ f ≠ .incomplete ∧
      u = judgeAnswer n f (modifySlot n (fun r => { r with window := none }) s) := by
  unfold frameReceived at h
  split at h
  · cases h
  · split at h
    · cases h
    · split at h
      · cases h
      · rename_i hne
        cases h
        exact ⟨_, _, ‹_›, by omega, rfl, hne, rfl⟩

/-- The end of a store write: it commits, is tried again, or fails the store (R110). -/
theorem storeWriteDone_some {good : Bool} {s u : State} (h : storeWriteDone good s = some u) :
    ∃ w n, s.meter.write = some (w, n) ∧
      ((good = true ∧ u = commitWrite w s) ∨
       (good = false ∧ n = 1 ∧ u = { s with meter := { s.meter with write := some (w, 2) } }) ∨
       (good = false ∧ n ≠ 1 ∧ u = (if s.store.journal = [] then failStore w s else reportFold (failStore w s)))) := by
  obtain ⟨⟨w, n⟩, hw, rfl⟩ := Option.map_eq_some_iff.mp h
  refine ⟨w, n, hw, ?_⟩
  cases good
  · by_cases hn : n = 1
    · exact .inr (.inl ⟨rfl, hn, by simp [hn]⟩)
    · refine .inr (.inr ⟨rfl, hn, ?_⟩)
      have hj : (failStore w s).store.journal = s.store.journal := (failStore_touches s w).at .journal
      simp [hn, hj]
  · exact .inl ⟨rfl, rfl⟩

theorem modifySup_touches (f : Supervision → Supervision) (s : State) (h : ∀ u, (f u).device = u.device ∧ (f u).cold = u.cold ∧
    (f u).startWaiting = u.startWaiting ∧ (f u).pfw = u.pfw) : Touches [.supRest] s (modifySup f s) := by
  obtain ⟨hdevice, hcold, hwaiting, hpfw⟩ := h s.sup
  refine .of_fields fun f hf hl => ?_; cases f <;> first | rfl | exact absurd hl (by decide) | assumption | simp at hf

theorem acceptTransfer_touches {t : Transfer} {s u : State} (hu : acceptTransfer t s = some u) : Touches serving s u := by
  obtain ⟨-, -, write, rfl⟩ := acceptTransfer_some hu
  exact serveParts_touches ..

theorem memoryGrant_touches {s u : State} (hu : memoryGrant s = some u) : Touches [.bounded, .service, .grant, .guard, .control, .mem, .scrub] s u := by
  obtain ⟨hfree, ⟨-, rfl⟩ | ⟨-, rfl⟩ | ⟨-, rfl⟩⟩ := memoryGrant_some hu
  · exact (grantLink_touches hfree).mono
  · exact (grantControl_touches hfree).mono
  · exact (grantScrub_touches hfree).mono

theorem linkPerformed_rings {v : Service} {a : LinkAccess} {s : State} (hg : s.port.grant = some .link) (h : RingsCore s) :
    RingsCore (linkPerformed v a s) := by
  unfold linkPerformed
  dsimp only
  split
  · have hread := readUnder_touches { s with openReads := s.openReads + 1 } v (portRead s v.part.addr v.part.size)
    have hgrant : _ = s.port.grant := hread.at .grant
    refine (endService_touches ..).rings (RingsCore.free (hread.rings { h with }) fun a ha => ?_)
    rw [hgrant, hg] at ha
    cases ha
  · exact { h with }
  · rename_i bs
    have hw := portWrite_touches s v.part.addr bs
    refine (endService_touches ..).rings (RingsCore.free (hw.rings h) fun a ha => ?_)
    have hgrant : _ = s.port.grant := hw.at .grant
    rw [hgrant, hg] at ha
    cases ha

theorem linkAccess_touches {s u : State} (hu : linkAccess s = some u) : Touches performing s u := by
  obtain ⟨hg, v, a, -, -, rfl⟩ := linkAccess_some hu
  exact .restore .rings (linkPerformed_touches ..) (linkPerformed_rings hg)

theorem scrubPerformed_touches {s u : State} (hu : scrubPerformed s = some u) : Touches (.mem :: .grant :: scrubbing) s u := by
  obtain ⟨f, l, live, hg, h⟩ := scrubPerformed_some hu
  have hw : Touches [.mem] s (portWrite (lineAddress f l) (List.replicate 64 (some 0)) s) := portWrite_touches ..
  have hgrant : (portWrite (lineAddress f l) (List.replicate 64 (some 0)) s).port.grant = s.port.grant := hw.at .grant
  have ht : Touches [.mem, .grant] s (freePort (portWrite (lineAddress f l) (List.replicate 64 (some 0)) s)) :=
    .restore .rings (hw.then (freePort_touches _)) fun h => (hw.rings h).free (by simp [hg])
  obtain ⟨-, hu⟩ | ⟨-, -, hu⟩ | ⟨-, -, hu⟩ := h <;> rw [hu]
  · exact ht.mono
  · exact ht.then (setScrub_touches ..)
  · exact ht.then (endScrub_touches ..)

/-- A fetch that R156 admits keeps the law. -/
theorem orderFetch_touches {s u : State} (hu : orderFetch s = some u) : Touches [.control, .fetching] s u := by
  obtain ⟨hmay, rfl⟩ := orderFetch_some hu
  refine .restore .rings (Touches.then (l := [.fetching, .rings]) ?_ (placeAccess_touches ..)) fun h => ?_
  · refine .of_fields fun f hf hl => ?_; cases f <;> first | rfl | exact absurd hl (by decide) | simp at hf
  · simp only [mayFetch, Bool.and_eq_true, decide_eq_true_eq, Bool.not_eq_true'] at hmay
    obtain ⟨⟨⟨hne, hidle⟩, -⟩, -⟩ := hmay
    have hfetch : (outstanding s).filterMap (·.fetchIndex) = [] := by simpa [hidle] using h.fetch
    refine { h with events := ?_, fetch := ?_, pending := fun _ => hne }
    · rw [outstanding_placeAccess, List.filterMap_append, List.filterMap_cons_none rfl, List.filterMap_nil, List.append_nil]
      exact h.events
    · rw [outstanding_placeAccess, List.filterMap_append]
      exact (congrArg (· ++ _) hfetch).trans rfl

/-- The rings while an order that has been fetched is taken. -/
structure OrderTaken (s : State) : Prop where
  rings   : RingsCore s
  idle    : s.orders.fetching = false
  pending : s.orders.heldPost ≠ s.orders.take

theorem OrderTaken.fetchDone {s : State} {o : OrderSlot} (h : RingsCore s) (ho : fetchedOrder s = some o) :
    OrderTaken (fetchDone s) := by
  obtain ⟨i, hg⟩ : ∃ i, s.port.grant = some (.control (.fetch i)) := by
    unfold fetchedOrder at ho
    split at ho
    · exact ⟨_, ‹_›⟩
    · cases ho
  have hout := outstanding_of_control hg
  have hfetch := h.fetch
  rw [hout] at hfetch
  split at hfetch
  · rename_i hfetching
    have hrest : s.port.control.filterMap (·.fetchIndex) = [] := (List.cons.inj hfetch).2
    refine ⟨{ h with events := ?_, fetch := hrest, pending := nofun }, rfl, h.pending hfetching⟩
    have hev := h.events
    rw [hout] at hev
    exact hev
  · cases hfetch

theorem OrderTaken.of_touches {l : List Aspect} {s t : State} (h : OrderTaken s) (ht : Touches l s t)
    (hl : apart l [.rings, .fetching, .heldPost, .take] = true) : OrderTaken t := by
  have hfetching : t.orders.fetching = s.orders.fetching := ht.same_of_apart hl (f := .fetching) (by decide)
  have hpost : t.orders.heldPost = s.orders.heldPost := ht.same_of_apart hl (f := .heldPost) (by decide)
  have htake : t.orders.take = s.orders.take := ht.same_of_apart hl (f := .take) (by decide)
  exact ⟨ht.same_of_apart hl (f := .rings) (by decide) h.rings, hfetching ▸ h.idle, by rw [hpost, htake]; exact h.pending⟩

theorem OrderTaken.answer {s : State} (h : OrderTaken s) (a : Answer) : RingsCore (answerAndAdvance (s, a)) := by
  have hplaced : RingsCore (placeAnswer s.orders.take a s) := h.rings.place rfl rfl
  have hroom : ringDistance s.orders.heldPost (s.orders.take + 1) ≤ 64 := by
    have hposted := h.rings.posted
    have hne := h.pending
    simp only [ringDistance] at *
    bv_omega
  have hfetch := h.rings.fetch
  simp only [h.idle] at hfetch
  refine { hplaced with fetch := ?_, posted := hroom, pending := fun hf => ?_ }
  · refine Eq.trans ?_ (if_neg (by simp [answerAndAdvance, placeAnswer, placeAccess, h.idle])).symm
    have hout : outstanding (answerAndAdvance (s, a)) = outstanding s ++ [.answer s.orders.take a] := outstanding_placeAccess ..
    rw [hout, List.filterMap_append, hfetch]
    rfl
  · have hidle := h.idle
    simp only [answerAndAdvance, placeAnswer, placeAccess] at hf
    rw [hidle] at hf
    cases hf

/-- The end of a fetch, an act apart from the rings, and the answer. -/
theorem takenOrder_touches {l : List Aspect} {s t : State} {o : OrderSlot} (ho : fetchedOrder s = some o) (ht : Touches l (fetchDone s) t)
    (hl : apart l [.rings, .fetching, .heldPost, .take] = true) (a : Answer) :
    Touches ([.grant, .fetching, .control, .take] ++ l) s (answerAndAdvance (t, a)) := by
  refine .restore .rings ⟨fun f hf => ?_⟩ fun h => ((OrderTaken.fetchDone h ho).of_touches ht hl).answer a
  simp only [List.cons_append, List.nil_append, List.mem_cons, not_or] at hf
  obtain ⟨hrings, hgrant, hfetching, hcontrol, htake, hl⟩ := hf
  exact Aspect.same_trans (Aspect.same_trans ((fetchDone_touches s).same f (by simp [*])) (ht.same f hl))
    ((answerAndAdvance_touches t a).same f (by simp [*]))

theorem takeUnknown_touches {s u : State} (hu : takeUnknown s = some u) : Touches [.grant, .fetching, .control, .take] s u := by
  obtain ⟨⟨o, ho⟩, rfl⟩ := takeUnknown_some hu
  exact takenOrder_touches (l := []) ho (.refl _) rfl _

/-- The record's write leaves the outstanding ones, and the written produce index rises past it. -/
theorem RingsCore.written {s : State} (h : RingsCore s) {r : EventRecord} (hg : s.port.grant = some (.control (.event r))) (e : Events)
    (hproduce : e.produce = s.events.produce) (hconsume : e.consume = s.events.consume) (hwritten : e.written = r.index + 1) :
    RingsCore { freePort s with events := e } := by
  have hev := h.events
  rw [outstanding_of_control hg] at hev
  obtain hd | ⟨n, hd⟩ : ringDistance s.events.produce s.events.written = 0 ∨
      ∃ n, ringDistance s.events.produce s.events.written = n + 1 := by cases ringDistance _ _ <;> simp
  · rw [hd] at hev; cases hev
  · rw [hd, List.range_succ_eq_map, List.map_cons, List.map_map] at hev
    obtain ⟨hindex, hrest⟩ := List.cons.inj hev
    have hindex : r.index = s.events.written := by simpa using hindex
    have hcounted := h.counted
    have hbounded := h.bounded
    simp only [occupancy] at hcounted hbounded
    have hleft : ringDistance s.events.produce (s.events.written + 1) = n ∧
        ringDistance (s.events.written + 1) s.events.consume = ringDistance s.events.written s.events.consume + 1 := by
      simp only [ringDistance] at *
      bv_omega
    have hfetch := h.fetch
    rw [outstanding_of_control hg] at hfetch
    refine ⟨?_, ?_, ?_, hfetch, h.posted, h.pending⟩
    · rw [hproduce, hwritten, hindex, hleft.1]
      refine Eq.trans hrest (List.map_congr_left fun k _ => ?_)
      simp only [Function.comp]
      bv_omega
    · simp only [occupancy, hproduce, hwritten, hconsume, hindex, hleft]
      omega
    · simpa only [occupancy, hproduce, hconsume] using hbounded

theorem eventPerformed_touches {s u : State} (hu : eventPerformed s = some u) : Touches [.mem, .grant, .written, .attention] s u := by
  obtain ⟨r, hg, rfl⟩ := eventPerformed_some hu
  obtain ⟨hproduce, hnext, hconsume, hwritten⟩ := s.events.recordWritten_same r.index r.event.isAlarm
  have hw : Touches [.mem] s (controlWrite (eventAddress r.index) (r.bytes.map some) s) := controlWrite_touches ..
  refine .restore .rings (.restore .canonical (.of_fields fun f hf hl => ?_) fun h => have hc := hw.canonical h; { hc with }) fun h =>
    (hw.rings h).written hg _ hproduce hconsume hwritten
  cases f <;> first | rfl | exact absurd hl (by decide) | assumption | simp at hf

theorem headerPerformed_touches {s u : State} (hu : headerPerformed s = some u) : Touches [.mem, .grant] s u := by
  obtain ⟨whole, w, hg, rfl⟩ := headerPerformed_some hu
  have hw : Touches [.mem] s (controlWrite 0 (headerBytes whole w) s) := controlWrite_touches ..
  refine .restore .rings (hw.then (freePort_touches _)) fun h => (hw.rings h).of_outstanding (by intro f hf; fin_cases hf <;> rfl) ?_ ?_
  all_goals
    rw [outstanding_of_control (s := controlWrite 0 (headerBytes whole w) s) (by simpa using hg)]
    rfl

theorem stallExpired_touches {page : Nat} {s u : State} (hu : stallExpired page s = some u) : Touches (.time :: ending) s u := by
  obtain ⟨t, -, rfl⟩ := Option.map_eq_some_iff.mp hu
  exact (reachTime_touches ..).then (settleEnding_touches ..)

theorem provisioningExpired_touches {s u : State} (hu : provisioningExpired s = some u) : Touches [.time, .supRest, .control, .produce, .nextSeq] s u := by
  obtain ⟨r, -, rfl⟩ := Option.map_eq_some_iff.mp hu
  dsimp only
  refine Touches.then (l := .time :: .supRest :: posting) (m := [.supRest]) ?_ (modifySup_touches _ _ fun _ => ⟨rfl, rfl, rfl, rfl⟩)
  refine Touches.then (l := [.time, .supRest]) (m := posting) ?_ (postEvent_touches ..)
  exact (reachTime_touches ..).then (modifySup_touches _ _ fun _ => ⟨rfl, rfl, rfl, rfl⟩)

theorem pulseEnded_touches {s u : State} (hu : pulseEnded s = some u) : Touches [.time, .supRest] s u := by
  simp only [pulseEnded] at hu
  split at hu
  · exact Option.some.inj hu ▸ (reachTime_touches ..).then (modifyCtlrst_touches ..)
  · cases hu

theorem keepaliveExpired_touches {s u : State} (hu : keepaliveExpired s = some u) : Touches (.time :: locking) s u := by
  simp only [keepaliveExpired] at hu
  split at hu
  · exact Option.some.inj hu ▸ (reachTime_touches ..).then (enterLockdown_touches ..)
  · cases hu

theorem lineSettled_touches {line : Line} {s u : State} (hu : lineSettled line s = some u) : Touches (.time :: settling) s u := by
  cases line with
  | presence n =>
    obtain ⟨r, -, rfl⟩ := Option.map_eq_some_iff.mp hu
    have ht : Touches (.time :: settling) s { reachTime r 500 s with
        supply := { (reachTime r 500 s).supply with presenceTimers := (reachTime r 500 s).supply.presenceTimers.set n none } } := by
      refine (reachTime_touches s r 500).then (m := [.timers]) ?_
      refine .of_fields fun f hf hl => ?_; cases f <;> first | rfl | exact absurd hl (by decide) | simp at hf
    exact .ite (fun _ => ht.then (presenceRose_touches ..)) fun _ => ht.then (presenceFell_touches ..)
  | door =>
    obtain ⟨r, -, rfl⟩ := Option.map_eq_some_iff.mp hu
    have ht : Touches (.time :: settling) s { reachTime r 500 s with supply := { (reachTime r 500 s).supply with doorTimer := none } } := by
      refine (reachTime_touches s r 500).then (m := [.timers]) ?_
      refine .of_fields fun f hf hl => ?_; cases f <;> first | rfl | exact absurd hl (by decide) | simp at hf
    exact .ite (fun _ => ht.then (doorShut_touches _)) fun _ => ht.then (doorOpened_touches _)

theorem probeDelayExpired_touches {n : Plane} {s u : State} (hu : probeDelayExpired n s = some u) : Touches (.time :: sending) s u := by
  obtain ⟨t, -, rfl⟩ := Option.map_eq_some_iff.mp hu
  have ht : Touches (.time :: sending) s (modifySlot n (fun r => { r with probeDelay := none }) (reachTime t 500 s)) :=
    (reachTime_touches ..).then (modifySlot_touches ..)
  exact .ite (fun _ => ht.then (beginIdent_touches ..)) fun _ => ht

theorem reprobeExpired_touches {n : Plane} {s u : State} (hu : reprobeExpired n s = some u) : Touches (.time :: sending) s u := by
  obtain ⟨t, -, rfl⟩ := Option.map_eq_some_iff.mp hu
  have ht : Touches (.time :: sending) s (modifySlot n (fun r => { r with reprobe := none }) (reachTime t 2000 s)) :=
    (reachTime_touches ..).then (modifySlot_touches ..)
  exact .ite (fun _ => ht.then (beginIdent_touches ..)) fun _ => ht

theorem frameSent_touches {n : Plane} {s u : State} (hu : frameSent n s = some u) : Touches [.slots] s u := by
  simp only [frameSent] at hu
  split at hu <;> cases hu
  exact modifySlot_touches ..

theorem frameReceived_touches {n : Plane} {chars : List LinkChar} {s u : State} (hu : frameReceived n chars s = some u) : Touches judging s u := by
  obtain ⟨r, f, -, -, -, -, rfl⟩ := frameReceived_some hu
  exact (modifySlot_touches ..).then (judgeAnswer_touches ..)

theorem windowExpired_touches {n : Plane} {s u : State} (hu : windowExpired n s = some u) : Touches (.time :: answering) s u := by
  obtain ⟨t, -, rfl⟩ := Option.map_eq_some_iff.mp hu
  exact ((reachTime_touches ..).then (k := .time :: answering) (modifySlot_touches ..)).then (failAttempt_touches ..)

theorem storeWriteDone_touches {good : Bool} {s u : State} (hu : storeWriteDone good s = some u) : Touches [.write, .lastWasFold, .failed, .dirty, .storedCounts, .storedSettings, .storedTotals, .storedTariff,
      .storedRest, .storedSeen, .foldReported, .device, .startWaiting, .supRest, .control, .produce, .nextSeq, .deferred] s u := by
  obtain ⟨w, n, -, ⟨-, rfl⟩ | ⟨-, -, rfl⟩ | ⟨-, -, rfl⟩⟩ := storeWriteDone_some hu
  · exact (commitWrite_touches ..).mono
  · refine Touches.mono (l := [.write]) ?_
    refine .of_fields fun f hf hl => ?_; cases f <;> first | rfl | exact absurd hl (by decide) | simp at hf
  · exact .ite (fun _ => (failStore_touches ..).mono) fun _ => (failStore_touches ..).then (reportFold_touches _)

theorem take_touches {c : Instr} {f : State → Option State} {s u : State} (hf : takeOf c = some f) (hu : f s = some u) :
    Touches (footprintOf c) s u := by
  cases c <;> cases hf 
  case transferAccept => exact acceptTransfer_touches hu
  case memoryGrant => exact memoryGrant_touches hu
  case linkAccessPerformed => exact linkAccess_touches hu
  case scrubLinePerformed => exact scrubPerformed_touches hu
  case orderFetch => exact orderFetch_touches hu
  case unknownOrder => exact takeUnknown_touches hu
  case eventWritePerformed => exact eventPerformed_touches hu
  case headerWritePerformed => exact headerPerformed_touches hu
  case stallTimerExpiry => exact stallExpired_touches hu
  case provisioningTimerExpiry => exact provisioningExpired_touches hu
  case ctlrstPulseEnd => exact pulseEnded_touches hu
  case keepaliveExpiry => exact keepaliveExpired_touches hu
  case lineSettleExpiry => exact lineSettled_touches hu
  case probeDelayExpiry => exact probeDelayExpired_touches hu
  case reprobeTimerExpiry => exact reprobeExpired_touches hu
  case supplyFrameSent => exact frameSent_touches hu
  case supplyFrameReceived => exact frameReceived_touches hu
  case answerWindowExpiry => exact windowExpired_touches hu
  case storeWriteDone => exact storeWriteDone_touches hu

theorem line_touches {c : Instr} {same : State → Bool} {raw : State → State} (hr : rawOf c = some (same, raw)) (s : State) :
    Touches [.lines] s (raw s) ∧ Touches (footprintOf c) s (lineOf? c (raw s)) := by
  cases c <;> cases hr <;> dsimp only [footprintOf]
  case pfwChange a =>
    have hl : Touches [.lines] s { s with lines := { s.lines with pfw := a } } := by
      refine .of_fields fun f hf hl => ?_; cases f <;> first | rfl | exact absurd hl (by decide) | simp at hf
    refine ⟨hl, hl.then (m := [.pfw, .seen, .dirty]) ?_⟩
    have ht : ∀ t, Touches [.pfw] t (modifySup (fun u => { u with pfw := a }) t) := fun t => by
      refine .of_fields fun f hf hl => ?_; cases f <;> first | rfl | exact absurd hl (by decide) | simp at hf
    exact .ite (fun _ => (ht _).then (oweAll_touches _)) fun _ => (ht _).mono
  case lineRawChange line level =>
    exact ⟨setRaw_touches .., (setRaw_touches ..).then (noteRaw_touches ..)⟩

/-! ## The take of an order -/

theorem footprintOf_apart_of_order {c : Instr} {m : OrderMeaning} (hm : orderOf c = some m) :
    apart (footprintOf c) [.rings, .fetching, .heldPost, .take] = true := by
  cases c <;> first | rfl | cases hm

/-- What the take of an order may change: its fetch ends, its act, its answer. -/
theorem order_touches {c : Instr} {m : OrderMeaning} {s : State} {o : OrderSlot} (hm : orderOf c = some m) (ho : fetchedOrder s = some o) :
    Touches ([.grant, .fetching, .control, .take] ++ footprintOf c) s
      (answerAndAdvance (checked (commonChecks m.accepts o s) (fetchDone s) (m.act o.params))) :=
  takenOrder_touches ho (checked_touches _ (act_touches hm o.params (fetchDone s))) (footprintOf_apart_of_order hm) _

/-! ## How a law is kept -/

/-- What a law needs to be kept by every step. Between the take of a command and the take's end a weaker law `Q` may hold. -/
structure Kept (P Q : State → Prop) : Prop where
  quiet : ∀ {s t}, Touches [.pending, .time] s t → P s → P t
  close : ∀ {s}, Q s → P (closeTake s)
  take  : ∀ {c f s u}, takeOf c = some f → s.power = .on → f s = some u → P s → Q u
  order : ∀ {c m s o}, orderOf c = some m → s.power = .on → fetchedOrder s = some o → P s →
    Q (answerAndAdvance (checked (commonChecks m.accepts o s) (fetchDone s) (m.act o.params)))
  line  : ∀ {c same raw s}, rawOf c = some (same, raw) → s.power = .on → same s = false → P s → Q (lineOf? c (raw s))
  raw   : ∀ {c same raw s}, rawOf c = some (same, raw) → s.power ≠ .on → P s → P (raw s)
  reset : ∀ cold cut {s}, P s → Q (afterReset cold cut s)
  warm  : ∀ cut {s}, P s → P { afterReset false cut s with power := .held }
  loss  : ∀ cut {s}, P s → P (lost cut s)

theorem Kept.transition {P Q : State → Prop} (k : Kept P Q) {c : Instr} {s t : State} (h : P s) (ht : Transition c s t) : P t := by
  cases ht with
  | idle => exact h
  | take hp hf hu => exact k.close (k.take hf hp hu h)
  | order hp hm ho => exact k.close (k.order hm hp ho h)
  | line hp hr hs => exact k.close (k.line hr hp hs h)
  | raw hp hr => exact k.raw hr hp h
  | powerOn cut => exact k.close (k.reset true cut h)
  | warmReset cut hp => exact k.warm cut h
  | release hp => exact k.close (k.reset false _ h)
  | loss cut => exact k.loss cut h

theorem tick_touches (s : State) : Touches [.pending, .time] s (tick s) := by
  unfold tick
  refine .ite (fun _ => ?_) fun _ => .refl s
  refine .of_fields fun f hf hl => ?_; cases f <;> first | rfl | exact absurd hl (by decide) | simp at hf

theorem setPending_touches (s : State) (q : List Instr) : Touches [.pending, .time] s { s with pending := q } := by
  refine .of_fields fun f hf hl => ?_; cases f <;> first | rfl | exact absurd hl (by decide) | simp at hf

/-- A law that is kept stands after every step. -/
theorem Kept.step {P Q : State → Prop} (k : Kept P Q) {s t : State} (h : P s) (ht : step s = .next t) : P t := by
  unfold Machine.step at ht
  split at ht
  · cases ht
    exact k.quiet (tick_touches s) h
  · exact k.transition (k.quiet (setPending_touches s _) h) (exec_transition ht)

/-- The take of an order keeps what the fetch's end, the order's act and its answer keep. -/
theorem order_keeps {Q : State → Prop} {m : OrderMeaning} {o : OrderSlot} {s : State} (hfetch : Q (fetchDone s))
    (hact : Q (fetchDone s) → Q (m.act o.params (fetchDone s)).1) (hanswer : ∀ t a, Q t → Q (answerAndAdvance (t, a))) :
    Q (answerAndAdvance (checked (commonChecks m.accepts o s) (fetchDone s) (m.act o.params))) := by
  obtain ⟨a, -, hx⟩ | ⟨-, hx⟩ := checked_cases (commonChecks m.accepts o s) (fetchDone s) (m.act o.params) <;> rw [hx]
  · exact hanswer _ _ hfetch
  · exact hanswer _ _ (hact hfetch)

end Sys2Proof.Machine
end

section
/-! What becomes of the pages and of the job record where pages are dropped or settled. -/

namespace Sys2Proof.Machine

set_option Elab.async false

/-! ## Single pages -/

theorem pageOf_of_touches {l : List Aspect} {s t : State} (h : Touches l s t) (k : Nat) (hl : Aspect.pages ∉ l := by decide +kernel) :
    pageOf t k = pageOf s k := congrArg (fun x => Table.get none x k) (h.same .pages hl)

theorem jobOf_of_touches {l : List Aspect} {s t : State} (h : Touches l s t) (j : Nat) (hl : Aspect.jobs ∉ l := by decide +kernel) :
    jobOf t j = jobOf s j := congrArg (fun x => Table.get Job.fresh x j) (h.same .jobs hl)

theorem accountOf_of_touches {l : List Aspect} {s t : State} (h : Touches l s t) (a : Nat)
    (hl : Aspect.accounts ∉ l := by decide +kernel) : accountOf t a = accountOf s a :=
  congrArg (fun x => Table.get Account.blank x a) (h.same .accounts hl)

theorem frameOf_of_touches {l : List Aspect} {s t : State} (h : Touches l s t) (f : Nat)
    (hl : Aspect.entries ∉ l := by decide +kernel) : frameOf t f = frameOf s f :=
  congrArg (fun x => Table.get FrameEntry.free x f) (h.same .entries hl)

theorem slotOf_of_touches {l : List Aspect} {s t : State} (h : Touches l s t) (n : Plane)
    (hl : Aspect.slots ∉ l := by decide +kernel) : slotOf t n = slotOf s n :=
  congrArg (fun x => Quad.get x n) (h.same .slots hl)

theorem pageOf_dropPage (slot : Nat) (s : State) (k : Nat) : pageOf (dropPage slot s) k = if slot = k then none else pageOf s k := by
  unfold dropPage
  split
  · rename_i p _
    rw [pageOf_setPage, pageOf_of_touches ((releaseTicket_touches s p).then (k := [.entries, .accounts, .reservations])
      (unmarkFrames_touches ..))]
  · split
    · subst slot; assumption
    · rfl

theorem pageOf_settlePage (slot : Nat) (o : Outcome) (s : State) (k : Nat) :
    pageOf (settlePage slot o s) k = if slot = k then none else pageOf s k := by
  unfold settlePage
  split
  · split
    · subst slot; assumption
    · rfl
  · rename_i p _
    dsimp only
    rw [pageOf_setPage, pageOf_of_touches (unmarkFrames_touches ..), pageOf_of_touches (postEvent_touches ..)]
    congr 1
    split
    · rw [pageOf_of_touches (settleDebits_touches ..), pageOf_of_touches (chargePage_touches ..),
        pageOf_of_touches (settleResidues_touches ..)]
    · rfl

/-! ## Runs of pages -/

/-- Pages dropped one after another, each counted in the job's pages-dropped tally. -/
theorem pageOf_dropped (j : Nat) (l : List Nat) (s : State) (k : Nat) :
    pageOf (l.foldl (fun t slot => tallyDropped j (dropPage slot t)) s) k = if k ∈ l then none else pageOf s k := by
  induction l generalizing s with
  | nil => simp
  | cons x l ih =>
    rw [List.foldl_cons, ih, pageOf_of_touches (tallyDropped_touches ..), pageOf_dropPage]
    by_cases hx : x = k
    · simp [hx]
    · simp [hx, Ne.symm hx]

theorem pageOf_aborted (j : Nat) (l : List Nat) (s : State) (k : Nat) :
    pageOf (l.foldl (fun t slot => tallyAborted j (settlePage slot .aborted t)) s) k = if k ∈ l then none else pageOf s k := by
  induction l generalizing s with
  | nil => simp
  | cons x l ih =>
    rw [List.foldl_cons, ih, pageOf_of_touches (tallyAborted_touches ..), pageOf_settlePage]
    by_cases hx : x = k
    · simp [hx]
    · simp [hx, Ne.symm hx]

theorem jobOf_dropped (j : Nat) (l : List Nat) (s : State) (i : Nat) :
    jobOf (l.foldl (fun t slot => tallyDropped j (dropPage slot t)) s) i =
      if j = i then { jobOf s j with dropped := (jobOf s j).dropped + l.length } else jobOf s i := by
  induction l generalizing s with
  | nil => by_cases h : j = i <;> simp [h]
  | cons x l ih =>
    rw [List.foldl_cons, ih]
    simp only [tallyDropped, jobOf_setJob, jobOf_of_touches (dropPage_touches _ x), if_true, List.length_cons]
    by_cases h : j = i
    · simp [h]; omega
    · simp [h]

theorem jobOf_aborted (j : Nat) (l : List Nat) (s : State) (i : Nat) :
    jobOf (l.foldl (fun t slot => tallyAborted j (settlePage slot .aborted t)) s) i =
      if j = i then { jobOf s j with aborted := (jobOf s j).aborted + l.length } else jobOf s i := by
  induction l generalizing s with
  | nil => by_cases h : j = i <;> simp [h]
  | cons x l ih =>
    rw [List.foldl_cons, ih]
    simp only [tallyAborted, jobOf_setJob, jobOf_of_touches (settlePage_touches _ x .aborted), if_true, List.length_cons]
    by_cases h : j = i
    · simp [h]; omega
    · simp [h]

/-! ## The pages of a job -/

/-- A slot holds a page of a job's present opening that `f` picks. -/
theorem mem_pagesOf {s : State} {j : Nat} {f : Page → Bool} {slot : Nat} :
    slot ∈ pagesOf s j f ↔
      slot < 32 ∧ ∃ p, pageOf s slot = some p ∧ p.job = j ∧ p.generation = (jobOf s j).generation ∧ f p = true := by
  simp only [pagesOf, liveFor, List.mem_filter, List.mem_range]
  cases pageOf s slot with
  | none => simp
  | some p =>
    by_cases h : p.job = j ∧ p.generation = (jobOf s j).generation
    · simp [h]
    · simp only [Option.bind_some, if_neg h, Option.any_none, Option.some.injEq, exists_eq_left']
      tauto

theorem pageInPrint_iff {s : State} {j : Nat} :
    pageInPrint s j = true ↔ ∃ slot, slot ∈ pagesOf s j Page.inPrint := by
  unfold pageInPrint
  cases h : pagesOf s j Page.inPrint with
  | nil => simp
  | cons x l => exact ⟨fun _ => ⟨x, by simp⟩, fun _ => rfl⟩

theorem dropPages_page (j : Nat) (s : State) (k : Nat) :
    pageOf (dropPages j s) k = if k ∈ pagesOf s j (fun p => !p.inPrint) then none else pageOf s k := pageOf_dropped ..

theorem dropPages_job (j : Nat) (s : State) (i : Nat) :
    jobOf (dropPages j s) i =
      if j = i then { jobOf s j with dropped := (jobOf s j).dropped + (pagesOf s j fun p => !p.inPrint).length } else jobOf s i :=
  jobOf_dropped ..

theorem abortPages_page (j : Nat) (s : State) (k : Nat) :
    pageOf (abortPages j s) k = if k ∈ pagesOf s j Page.inPrint then none else pageOf s k := pageOf_aborted ..

theorem abortPages_job (j : Nat) (s : State) (i : Nat) :
    jobOf (abortPages j s) i =
      if j = i then { jobOf s j with aborted := (jobOf s j).aborted + (pagesOf s j Page.inPrint).length } else jobOf s i :=
  jobOf_aborted ..

theorem dropPages_generation (j : Nat) (s : State) (i : Nat) : (jobOf (dropPages j s) i).generation = (jobOf s i).generation := by
  rw [dropPages_job]; split
  · subst i; rfl
  · rfl

theorem abortPages_generation (j : Nat) (s : State) (i : Nat) : (jobOf (abortPages j s) i).generation = (jobOf s i).generation := by
  rw [abortPages_job]; split
  · subst i; rfl
  · rfl

/-- Of a job whose other pages are dropped, the pages in print stay. -/
theorem mem_pagesOf_dropPages {s : State} {j slot : Nat} {f : Page → Bool} :
    slot ∈ pagesOf (dropPages j s) j f ↔ slot ∈ pagesOf s j (fun p => p.inPrint && f p) := by
  simp only [mem_pagesOf, dropPages_page, dropPages_generation]
  constructor
  · rintro ⟨hslot, p, hp, hjob, hgen, hf⟩
    split at hp
    · cases hp
    · rename_i hout
      refine ⟨hslot, p, hp, hjob, hgen, ?_⟩
      have : p.inPrint = true := by
        by_contra hprint
        exact hout ⟨hslot, p, hp, hjob, hgen, by simpa using hprint⟩
      simp [this, hf]
  · rintro ⟨hslot, p, hp, hjob, hgen, hf⟩
    simp only [Bool.and_eq_true] at hf
    refine ⟨hslot, p, ?_, hjob, hgen, hf.2⟩
    rw [if_neg, hp]
    rintro ⟨-, q, hq, -, -, hprint⟩
    rw [hp] at hq
    cases hq
    simp [hf.1] at hprint

theorem pageInPrint_dropPages (j : Nat) (s : State) : pageInPrint (dropPages j s) j = pageInPrint s j := by
  rw [Bool.eq_iff_iff, pageInPrint_iff, pageInPrint_iff]
  simp only [mem_pagesOf_dropPages, Bool.and_self]

/-- After the pages in print are settled and the others dropped, no page of the job's opening is left. -/
theorem no_page_left (j : Nat) (s : State) (slot : Nat) (f : Page → Bool) : slot ∉ pagesOf (dropPages j (abortPages j s)) j f := by
  rw [mem_pagesOf_dropPages, mem_pagesOf]
  simp only [abortPages_page, abortPages_generation]
  rintro ⟨hslot, p, hp, hjob, hgen, hf⟩
  simp only [Bool.and_eq_true] at hf
  split at hp
  · cases hp
  · rename_i hout
    exact hout (mem_pagesOf.mpr ⟨hslot, p, hp, hjob, hgen, hf.1⟩)

end Sys2Proof.Machine
end

section
/-! The laws that every operation keeps one by one: canonical data (O52), the rings (O57), and admission (O19); with the bounds and the views of O52. -/

namespace Sys2Proof.Machine

set_option Elab.async false

/-! ## Canonical data -/

theorem canonical_not_mem_footprintOf (c : Instr) : Aspect.canonical ∉ [Aspect.grant, .fetching, .control, .take] ++ footprintOf c := by
  cases c <;> (dsimp only [footprintOf]; decide +kernel)

theorem cutMemory_touches (cut : ResetCut) (s : State) : Touches [.mem] s (cutMemory cut s) := by
  unfold cutMemory
  split
  · exact .ite (fun _ => portWrite_touches ..) fun _ => .refl s
  · split
    · exact portWrite_touches ..
    · exact .refl s
  · exact .refl s

/-- A cut store is the store, or the store after the write in progress has committed. -/
theorem cutStore_cases (cut : ResetCut) (s : State) :
    cutStore cut s = s.store ∨ ∃ w n, s.meter.write = some (w, n) ∧ cutStore cut s = committed w s := by
  unfold cutStore
  split
  · split
    · exact .inr ⟨_, _, ‹_›, rfl⟩
    · exact .inl rfl
  · exact .inl rfl

theorem cutStore_canonical {s : State} (h : Canonical s) (cut : ResetCut) :
    Table.wf CountsBlock.blank (cutStore cut s).counts = true ∧ Table.wf AccountSettings.blank (cutStore cut s).settings = true := by
  obtain hs | ⟨w, n, -, hs⟩ := cutStore_cases cut s <;> rw [hs]
  · exact ⟨h.counts, h.settings⟩
  · have := commitWrite_canonical h w
    exact ⟨this.counts, this.settings⟩

theorem afterReset_canonical {s : State} (h : Canonical s) (cold : Bool) (cut : ResetCut) : Canonical (afterReset cold cut s) where
  mem := ((cutMemory_touches cut s).canonical h).mem
  frames := rfl
  jobs := rfl
  pages := rfl
  accounts := Table.wf_ofFn _ _ _
  counts := (cutStore_canonical h cut).1
  settings := (cutStore_canonical h cut).2

theorem lost_canonical {s : State} (h : Canonical s) (cut : ResetCut) : Canonical (lost cut s) :=
  have hc := (cutMemory_touches cut s).canonical h
  { hc with counts := (cutStore_canonical h cut).1, settings := (cutStore_canonical h cut).2 }

theorem canonical_kept : Kept Canonical Canonical where
  quiet ht h := ht.canonical h
  close h := (closeTake_touches _).canonical h
  take {c _ _ _} hf _ hu h := (take_touches hf hu).canonical h fun hx => canonical_not_mem_footprintOf c (List.mem_append_right _ hx)
  order {c _ _ _} hm _ ho h := (order_touches hm ho).canonical h (canonical_not_mem_footprintOf c)
  line {c _ _ _} hr _ _ h := (line_touches hr _).2.canonical h fun hx => canonical_not_mem_footprintOf c (List.mem_append_right _ hx)
  raw hr _ h := (line_touches hr _).1.canonical h
  reset cold cut _ h := afterReset_canonical h cold cut
  warm cut _ h := { afterReset_canonical h false cut with }
  loss cut _ h := lost_canonical h cut

/-! ## Bounds -/

/-- A law is kept by an order where it is kept by what the order does after its checks. -/
theorem checked_keeps {Q : State → Prop} {checks : List (Bool × Answer)} {s : State} {act : State → State × Answer} (hs : Q s)
    (hact : (∀ c ∈ checks, c.1 = false) → Q (act s).1) : Q (checked checks s act).1 := by
  obtain ⟨a, -, hx⟩ | ⟨hnone, hx⟩ := checked_cases checks s act <;> rw [hx]
  · exact hs
  · exact hact (firstRefusal_none.mp hnone)

theorem Bounded.defer {s : State} (h : Bounded s) (i : Index) {o : DeferredObject} (hroom : s.orders.deferred.length < 8)
    (ho : ∀ j, o = .closeJob j → j < 16) : Bounded (deferOrder i o s) := by
  refine ⟨h.guard, ?_, fun d hd j hj => ?_⟩
  · simpa [deferOrder] using hroom
  · simp only [deferOrder, List.mem_append, List.mem_singleton] at hd
    obtain hd | rfl := hd
    · exact h.closes d hd j hj
    · exact ho j hj

theorem closeJobOrder_bounded {s : State} (h : Bounded s) (ps : List Nat) : Bounded (closeJobOrder ps s).1 := by
  refine checked_keeps h fun hchecks => ?_
  simp only [List.mem_cons, List.not_mem_nil, or_false, forall_eq_or_imp, forall_eq, decide_eq_false_iff_not, Bool.and_eq_false_imp] at hchecks
  obtain ⟨hj, -, -, hroom⟩ := hchecks
  have hdrop := dropPages_touches s (arg ps 1)
  have hdropped : Bounded (dropPages (arg ps 1) s) := hdrop.bounded h
  dsimp only
  split
  · rename_i o hprint _
    rw [pageInPrint_dropPages] at hprint
    have hlen : (dropPages (arg ps 1) s).orders.deferred = s.orders.deferred := hdrop.at .deferred
    refine Bounded.defer ((setJob_touches ..).bounded hdropped) _ ?_ fun j hj' => by cases hj'; omega
    have := hroom hprint
    simp only [setJob_orders, hlen]
    omega
  · exact (releaseJob_touches ..).bounded hdropped

theorem probeSlotOrder_bounded {s : State} (h : Bounded s) (ps : List Nat) : Bounded (probeSlotOrder ps s).1 := by
  unfold probeSlotOrder
  split
  · exact h
  · refine checked_keeps h fun hchecks => ?_
    simp only [List.mem_cons, List.not_mem_nil, or_false, forall_eq_or_imp, forall_eq, decide_eq_false_iff_not] at hchecks
    obtain ⟨-, hroom⟩ := hchecks
    have hdeferred : ∀ n, Bounded (deferOrder s.orders.take (.probeSlot n) s) := fun n => h.defer _ (by omega) nofun
    dsimp only
    split
    · exact (beginIdent_touches ..).bounded (hdeferred _)
    · exact hdeferred _

theorem modifySup_bounded {s : State} (h : Bounded s) (f : Supervision → Supervision) : Bounded (modifySup f s) :=
  ⟨h.guard, h.deferred, h.closes⟩

theorem startOrder_bounded {s : State} (h : Bounded s) (ps : List Nat) : Bounded (startOrder ps s).1 := by
  refine checked_keeps h fun hchecks => ?_
  simp only [List.mem_cons, List.not_mem_nil, or_false, forall_eq_or_imp, forall_eq, decide_eq_false_iff_not, Bool.and_eq_false_imp,
    Bool.not_eq_true'] at hchecks
  obtain ⟨-, -, -, -, hroom⟩ := hchecks
  have hsize := setMemorySize_touches s (arg ps 1)
  have hresized : Bounded (setMemorySize (arg ps 1) s) := hsize.bounded h
  have hlen : (setMemorySize (arg ps 1) s).orders.deferred = s.orders.deferred := hsize.at .deferred
  have hreport : (setMemorySize (arg ps 1) s).meter.foldReported = s.meter.foldReported := hsize.at .foldReported
  dsimp only
  split
  · exact (enterRun_touches _).bounded (modifySup_bounded hresized _)
  · rename_i hfold
    refine Bounded.defer (modifySup_bounded (modifySup_bounded hresized _) _) _ ?_ nofun
    simp only [modifySup, hreport, Bool.not_eq_true] at hfold
    have := hroom hfold
    simp only [modifySup, hlen]
    omega

theorem memoryGrant_bounded {s u : State} (hu : memoryGrant s = some u) (h : Bounded s) : Bounded u := by
  obtain ⟨-, ⟨-, rfl⟩ | ⟨-, rfl⟩ | ⟨-, rfl⟩⟩ := memoryGrant_some hu
  · refine ⟨?_, h.deferred, h.closes⟩
    simp only [grantLink, linkGuard]
    split <;> omega
  · unfold grantControl
    split
    · exact h
    · dsimp only
      split <;> exact ⟨Nat.zero_le _, h.deferred, h.closes⟩
  · unfold grantScrub
    split
    · exact ⟨Nat.zero_le _, h.deferred, h.closes⟩
    · exact h

theorem cleared_bounded (cold : Bool) (cut : ResetCut) (s : State) : Bounded (afterReset cold cut s) :=
  ⟨Nat.zero_le _, Nat.zero_le _, nofun⟩

theorem bounded_kept : Kept Bounded Bounded where
  quiet ht h := ht.bounded h
  close h := (closeTake_touches _).bounded h
  take {c _ _ _} hf _ hu h := by
    by_cases hx : Aspect.bounded ∈ footprintOf c
    · cases c
      case memoryGrant => cases hf; exact memoryGrant_bounded hu h
      all_goals first | exact absurd hx (by dsimp only [footprintOf]; decide +kernel) | cases hf
    · exact (take_touches hf hu).same .bounded hx h
  order {c m s o} hm _ ho h := by
    refine order_keeps ((fetchDone_touches s).bounded h) (fun h => ?_) fun t a h => (answerAndAdvance_touches t a).bounded h
    by_cases hx : Aspect.bounded ∈ footprintOf c
    · cases c
      case closeJob => cases hm; exact closeJobOrder_bounded h _
      case probeSlot => cases hm; exact probeSlotOrder_bounded h _
      case start => cases hm; exact startOrder_bounded h _
      all_goals first | exact absurd hx (by dsimp only [footprintOf]; decide +kernel) | cases hm
    · exact (act_touches hm o.params _).same .bounded hx h
  line {c _ _ _} hr _ _ h := by
    refine (line_touches hr _).2.same .bounded ?_ h
    cases c <;> first | (dsimp only [footprintOf]; decide +kernel) | cases hr
  raw hr _ h := (line_touches hr _).1.bounded h
  reset cold cut _ _ := cleared_bounded cold cut _
  warm cut _ _ := { cleared_bounded false cut _ with }
  loss cut _ h :=
    have hcut := (cutMemory_touches cut _).bounded h
    { hcut with }

/-! ## Views -/

/-- SET VIEW sets no pinned entry and no view that makes no sense for its class (R10). -/
theorem setViewOrder_lawful {s : State} (h : ViewsLawful s) (ps : List Nat) : ViewsLawful (setViewOrder ps s).1 := by
  unfold setViewOrder
  split
  · exact h
  · exact h
  · exact h
  · rename_i cls src v _ _ _
    refine checked_keeps h fun hchecks => ?_
    simp only [List.mem_cons, List.not_mem_nil, or_false, forall_eq_or_imp, forall_eq] at hchecks
    obtain ⟨hsense, hpin⟩ := hchecks
    intro d k
    rw [ViewTable.look_put]
    by_cases hdk : d = cls ∧ k = src
    · obtain ⟨rfl, rfl⟩ := hdk
      simp [hpin, hsense]
    · rw [if_neg hdk]
      exact h d k

theorem viewsLawful_of_touches {l : List Aspect} {s t : State} (ht : Touches l s t) (hl : Aspect.views ∉ l) (h : ViewsLawful s) :
    ViewsLawful t := by
  have hviews : t.views = s.views := ht.same .views hl
  simpa only [ViewsLawful, hviews] using h

theorem viewsLawful_default {s : State} (h : s.views = ViewTable.default) : ViewsLawful s := by
  intro c src
  rw [h]
  cases c <;> cases src <;> decide

theorem viewsLawful_kept : Kept ViewsLawful ViewsLawful where
  quiet ht h := viewsLawful_of_touches ht (by decide) h
  close h := viewsLawful_of_touches (closeTake_touches _) (by decide +kernel) h
  take {c _ _ _} hf _ hu h := by
    refine viewsLawful_of_touches (take_touches hf hu) ?_ h
    cases c <;> first | (dsimp only [footprintOf]; decide +kernel) | cases hf
  order {c m s o} hm _ ho h := by
    refine order_keeps (viewsLawful_of_touches (fetchDone_touches s) (by decide) h) (fun h => ?_) fun t a h =>
      viewsLawful_of_touches (answerAndAdvance_touches t a) (by decide) h
    by_cases hx : Aspect.views ∈ footprintOf c
    · cases c
      case setView => cases hm; exact setViewOrder_lawful h _
      all_goals exact absurd hx (by dsimp only [footprintOf]; decide +kernel)
    · exact viewsLawful_of_touches (act_touches hm o.params _) hx h
  line {c _ _ _} hr _ _ h := by
    refine viewsLawful_of_touches (line_touches hr _).2 ?_ h
    cases c <;> first | (dsimp only [footprintOf]; decide +kernel) | cases hr
  raw hr _ h := viewsLawful_of_touches (line_touches hr _).1 (by decide) h
  reset _ _ _ _ := viewsLawful_default rfl
  warm _ _ _ := viewsLawful_default rfl
  loss cut s h := (viewsLawful_of_touches (cutMemory_touches cut s) (by decide) h :)

/-! ## The rings -/

theorem RingsLaw.core {s : State} (h : RingsLaw s) : RingsCore s := ⟨h.events, h.counted, h.bounded, h.fetch, h.posted, h.pending⟩

/-- At the end of a take the header words are those of the last header write placed, or one waits. -/
theorem placeHeader_header (s : State) :
    headerWords (placeHeader s) = (placeHeader s).orders.lastHeader ∨ (placeHeader s).port.control.any (·.isHeader) = true := by
  unfold placeHeader
  split
  · right
    simp [placeAccess, ControlAccess.isHeader]
  · rename_i h
    by_cases hw : headerWords s = s.orders.lastHeader
    · exact .inl hw
    · exact .inr (by simpa [hw] using h)

theorem RingsCore.closeTake {s : State} (h : RingsCore s) : RingsLaw (closeTake s) :=
  have hcore := (closeTake_touches s).rings h
  { hcore with header := placeHeader_header (advanceStore s) }

theorem rings_not_mem_footprintOf (c : Instr) : Aspect.rings ∉ [Aspect.grant, .fetching, .control, .take] ++ footprintOf c := by
  cases c <;> (dsimp only [footprintOf]; decide +kernel)

theorem power_not_mem_footprintOf (c : Instr) : Aspect.power ∉ [Aspect.grant, .fetching, .control, .take] ++ footprintOf c := by
  cases c <;> (dsimp only [footprintOf]; decide +kernel)

theorem afterReset_rings (cold : Bool) (cut : ResetCut) (s : State) : RingsCore (afterReset cold cut s) :=
  ⟨(by decide : ([] : List Index) = (List.range (ringDistance 0 0)).map fun k => (0 : Index) + BitVec.ofNat 16 k),
    (by decide : ringDistance 0 0 + ringDistance 0 0 = ringDistance 0 0), (by decide : ringDistance 0 0 ≤ 256), rfl, (by decide : ringDistance 0 0 ≤ 64), nofun⟩

theorem rings_kept : Kept (fun s => s.power = .on → RingsLaw s) RingsCore where
  quiet {s t} ht h hp := by
    have hpower : t.power = s.power := ht.at .power
    have hs := h (hpower ▸ hp)
    have hwords : headerWords t = headerWords s := by
      simp only [headerWords, slotOf, freeCount, show t.orders.take = _ from ht.at .take, show t.events.written = _ from ht.at .written,
        show t.sup.device = _ from ht.at .device, show t.sup.cold = _ from ht.at .cold, show t.supply.slots = _ from ht.at .slots,
        show t.store.journal = _ from ht.at .journal, show t.meter.reservations = _ from ht.at .reservations]
    have hcontrol : t.port.control = s.port.control := ht.at .control
    have hlast : t.orders.lastHeader = s.orders.lastHeader := ht.at .lastHeader
    have hcore := ht.rings hs.core
    exact { hcore with header := by rw [hwords, hcontrol, hlast]; exact hs.header }
  close h _ := h.closeTake
  take {c _ _ _} hf hp hu h := (take_touches hf hu).rings (h hp).core fun hx => rings_not_mem_footprintOf c (List.mem_append_right _ hx)
  order {c _ _ _} hm hp ho h := (order_touches hm ho).rings (h hp).core (rings_not_mem_footprintOf c)
  line {c _ _ _} hr hp _ h := (line_touches hr _).2.rings (h hp).core fun hx => rings_not_mem_footprintOf c (List.mem_append_right _ hx)
  raw {c same raw s} hr hp _ hon := by
    have hpower : (raw s).power = s.power := (line_touches hr s).1.at .power
    exact absurd (hpower ▸ hon) hp
  reset cold cut s _ := afterReset_rings cold cut s
  warm _ _ _ := nofun
  loss _ _ _ := nofun

/-! ## Admission -/

theorem Touches.printsIn {l : List Aspect} {s t : State} (h : Touches l s t) {slot : Nat} (ht : printsIn t slot)
    (hf : Aspect.printing ∉ l := by decide +kernel) : printsIn s slot := h.same .printing hf slot ht

/-- A page that awaits its first print read, and that no reason of R68 withholds. -/
structure Admissible (s : State) (slot : Nat) (p : Page) : Prop where
  page    : pageOf s slot = some p
  waiting : p.inPrint = false
  admits  : withholding p s = none

/-- The state of an admitted page. -/
def admittedState (p : Page) (s : State) : PageState :=
  match p.state with
  | .ticketed c => .printing c s.time
  | _ => .printing (captureTariff s p.sizeClass p.colour) s.time

theorem pageOf_admitPage (slot : Nat) (p : Page) (s : State) (k : Nat) :
    pageOf (admitPage slot p s) k = if slot = k then some { p with state := admittedState p s } else pageOf s k := by
  unfold admitPage
  dsimp only
  split
  · rename_i c hstate
    rw [pageOf_of_touches (raiseInflight_touches ..), pageOf_of_touches (lowerHeld_touches ..), pageOf_setPage]
    simp only [admittedState, hstate]
  · rename_i hstate
    rw [pageOf_of_touches (reserve_touches _), pageOf_of_touches (raiseInflight_touches ..), pageOf_setPage]
    simp only [admittedState]

theorem printsIn_takeAdmission {slot : Nat} {p : Page} {s : State} {k : Nat} (hp : pageOf s slot = some p)
    (h : printsIn (takeAdmission slot p s) k) : printsIn s k ∨ Admissible s k p := by
  unfold takeAdmission at h
  split at h
  · exact .inl h
  · rename_i hprint
    split at h
    · exact .inl ((withholdPage_touches ..).printsIn h)
    · rename_i hadmit
      obtain ⟨q, hq, hprinting⟩ := h
      rw [pageOf_admitPage] at hq
      split at hq
      · subst k
        exact .inr ⟨hp, by simpa using hprint, hadmit⟩
      · exact .inl ⟨q, hq, hprinting⟩

theorem printsIn_takePrintRead {slot j : Nat} {g : Index} {lo : Nat} {plain : List Byte} {s : State} {k : Nat}
    (h : printsIn (takePrintRead slot j g lo plain s).1 k) : printsIn s k ∨ ∃ p, Admissible s k p := by
  unfold takePrintRead at h
  dsimp only at h
  split at h
  · exact .inl h
  · rename_i p hlive
    have hp : pageOf s slot = some p := by
      obtain ⟨q, hq, hx⟩ := Option.bind_eq_some_iff.mp hlive
      split at hx
      · rw [← Option.some.inj hx]; exact hq
      · cases hx
    split at h
    · have hadmission : ∀ k, printsIn (takeAdmission slot p s) k → printsIn s k ∨ ∃ p, Admissible s k p := fun k hk =>
        (printsIn_takeAdmission hp hk).imp_right fun ha => ⟨p, ha⟩
      split at h
      · exact hadmission k h
      · exact hadmission k ((Touches.foldl (fun _ _ => servePlane_touches ..) _ _).printsIn ((testComplete_touches ..).printsIn h))
    · exact .inl h

theorem printsIn_readUnder {v : Service} {stored : List Byte} {s : State} {k : Nat} (h : printsIn (readUnder v stored s).1 k) :
    printsIn s k ∨ ∃ p, Admissible s k p := by
  unfold readUnder at h
  split at h
  · exact .inl h
  · exact printsIn_takePrintRead h
  · exact .inl h

theorem printsIn_linkPerformed {v : Service} {a : LinkAccess} {s : State} {k : Nat} (h : printsIn (linkPerformed v a s) k) :
    printsIn s k ∨ ∃ p, Admissible s k p := by
  unfold linkPerformed at h
  dsimp only at h
  split at h
  · obtain h | ⟨p, hp⟩ := printsIn_readUnder ((freePort_touches _).printsIn ((endService_touches ..).printsIn h))
    · exact .inl h
    · exact .inr ⟨p, { hp with }⟩
  · exact .inl h
  · exact .inl ((portWrite_touches ..).printsIn ((freePort_touches _).printsIn ((endService_touches ..).printsIn h)))

/-- Only the performance of a link access brings a page to print. -/
theorem printsIn_of_exec {c : Instr} {s t : State} {slot : Nat} (h : exec c s = .next t) (ht : printsIn t slot) :
    printsIn s slot ∨ (c = .linkAccessPerformed ∧ ∃ p, Admissible s slot p) := by
  have hquiet : ∀ {u : State} {x : List Aspect}, Aspect.printing ∉ x → Touches x s u → printsIn (closeTake u) slot → printsIn s slot :=
    fun hx htouch hu => htouch.printsIn ((closeTake_touches _).printsIn hu) hx
  cases exec_transition h with
  | idle => exact .inl ht
  | take hp hf hu =>
    by_cases hc : c = .linkAccessPerformed
    · subst hc
      cases hf
      obtain ⟨-, v, a, -, -, rfl⟩ := linkAccess_some hu
      exact (printsIn_linkPerformed ((closeTake_touches _).printsIn ht)).imp_right fun hp => ⟨rfl, hp⟩
    · refine .inl (hquiet ?_ (take_touches hf hu) ht)
      cases c <;> first | (dsimp only [footprintOf]; decide +kernel) | exact absurd rfl hc
  | order hp hm ho =>
    refine .inl (hquiet ?_ (order_touches hm ho) ht)
    cases c <;> first | (dsimp only [footprintOf]; decide +kernel) | cases hm
  | line hp hr hs =>
    refine .inl (hquiet ?_ (line_touches hr _).2 ht)
    cases c <;> first | (dsimp only [footprintOf]; decide +kernel) | cases hr
  | raw hp hr => exact .inl ((line_touches hr s).1.printsIn ht)
  | powerOn cut => exact .inl (((closeTake_touches _).printsIn ht).elim nofun)
  | warmReset cut hp => exact .inl (ht.elim nofun)
  | release hp => exact .inl (((closeTake_touches _).printsIn ht).elim nofun)
  | loss cut => exact .inl ((cutMemory_touches cut s).printsIn ht)

theorem inWork_iff (d : DeviceState) : inWork d = true ↔ d = .run ∨ d = .service := by cases d <;> simp [inWork]

theorem SlotState.usable_iff (st : SlotState) :
    st.usable = true ↔ st ≠ .absent ∧ st ≠ .exhausted ∧ ∀ r, st ≠ .rejected r := by cases st <;> simp [SlotState.usable]

/-- Every slot that the planes of a colour require is usable. -/
theorem slotsUsable_iff (s : State) (c : Colour) :
    slotsUsable s c = true ↔ ∀ n : Plane, n = 0 ∨ c = .colour → (slotOf s n).state.usable = true := by
  cases c
  · simp [slotsUsable, planesOf]
  · simp only [slotsUsable, planesOf, List.all_cons, List.all_nil, Bool.and_true, Bool.and_eq_true, or_true, true_implies]
    exact ⟨fun ⟨h0, h1, h2, h3⟩ n => by fin_cases n <;> assumption, fun h => ⟨h 0, h 1, h 2, h 3⟩⟩

/-- No reason withholds a page exactly when each of R68's conditions holds. -/
theorem withholding_eq_none_iff (p : Page) (s : State) :
    withholding p s = none ↔
      inWork s.sup.device = true ∧ s.sup.pfw = false ∧ (jobOf s p.job).isActive = true ∧ slotsUsable s p.colour = true ∧
        (p.isTicketed = false → (accountOf s (accountNumber s p)).settings.state = .active ∧
          (accountOf s (accountNumber s p)).allows (pageTariff s p) = true ∧ freeCount s ≠ 0) := by
  rw [withholding, Option.map_eq_none_iff, List.find?_eq_none]
  simp only [withholdingReasons, List.forall_mem_cons, List.not_mem_nil, false_implies, implies_true, and_true, Bool.not_eq_true,
    Bool.not_eq_false', Bool.and_eq_false_imp, Bool.not_eq_true', decide_eq_false_iff_not, ne_eq, not_not]
  tauto

end Sys2Proof.Machine

namespace Sys2Proof.Proofs

open Sys2Proof.Machine

/-- Settles O19: a page comes to print through the guard of an admission alone, whatever the command. -/
theorem admissionIsGuarded : Obligations.AdmissionIsGuarded := by
  unfold Obligations.AdmissionIsGuarded
  intro c s t slot p hexec hp hprinting hbefore
  obtain ⟨q, hq, hprints⟩ | ⟨hc, q, hpage, hwaiting, hadmits⟩ := printsIn_of_exec hexec ⟨p, hp, hprinting⟩
  · rw [hbefore q hq] at hprints
    cases hprints
  · obtain ⟨hdevice, hpfw, hactive, hslots, hunticketed⟩ := (withholding_eq_none_iff q s).mp hadmits
    refine ⟨hc, q, hpage, (inWork_iff _).mp hdevice, hpfw, hactive, fun n hn => ?_, ?_⟩
    · exact (SlotState.usable_iff _).mp ((slotsUsable_iff s q.colour).mp hslots n hn)
    · cases hstate : q.state with
      | staged =>
        obtain ⟨haccount, hallows, hfree⟩ := hunticketed (by simp [Page.isTicketed, hstate])
        exact .inr ⟨rfl, haccount, hallows, Nat.pos_of_ne_zero hfree⟩
      | ticketed cap => exact .inl ⟨cap, rfl⟩
      | printing | withheld => simp [Page.inPrint, hstate] at hwaiting

/-- Settles O52: each of the three laws is kept by every operation, for canonical data operation by operation, and for the bounds and the views by
the few that touch them. -/
theorem canonicalDataAndViewsKept : Obligations.CanonicalDataAndViewsKept := by
  unfold Obligations.CanonicalDataAndViewsKept
  exact fun s t ht => ⟨fun h => canonical_kept.step h ht, fun h => bounded_kept.step h ht, fun h => viewsLawful_kept.step h ht⟩

/-- Settles O57: every operation keeps the rings, and the end of a take places the header write. -/
theorem ringsLawKept : Obligations.RingsLawKept := by
  unfold Obligations.RingsLawKept
  exact fun s t h ht => rings_kept.step h ht

end Sys2Proof.Proofs
end

section
/-! How a law of pages, jobs and frames is kept: from what a law says of single pages and of a job's release follows what it says of purges, of a page's
end, of print reads and of the orders that release jobs. -/

namespace Sys2Proof.Machine

set_option Elab.async false

/-- The aspects that purges and print reads change beyond pages, jobs, frames and meters. -/
abbrev quietFields : List Aspect :=
  [.pending, .time, .control, .produce, .nextSeq, .deferred, .device, .startWaiting, .supRest, .foldReported, .cold, .fetching, .take, .lastHeader, .bounded]

/-- A law that reads the aspects of a list, with what it says of single pages and of single jobs. -/
structure PageLaw (F : List Aspect) (P : State → Prop) : Prop where
  reads : ∀ {s t : State}, (∀ f ∈ F, f.same s t) → P s → P t
  quiet : apart quietFields F = true
  dropped : ∀ {s : State} {slot : Nat} {p : Page}, P s → pageOf s slot = some p → p.inPrint = false → P (dropPage slot s)
  settled : ∀ {s : State} {slot : Nat} {p : Page} {o : Outcome}, P s → pageOf s slot = some p → p.inPrint = true → o.charged = true →
    P (settlePage slot o s)
  tallied : ∀ {s : State} (j d a : Nat), P s → P (setJob j { jobOf s j with dropped := d, aborted := a } s)
  closing : ∀ {s : State} {j : Nat} {o : Opening} (i : Index), P s → (jobOf s j).state = .active o →
    (∀ slot p, slot < 32 → pageOf s slot = some p → p.job = j → p.generation = (jobOf s j).generation → p.inPrint = true) →
    P (setJob j { jobOf s j with state := .closing o i } s)
  released : ∀ {s : State} {j : Nat} (cause : ReleaseCause), P s → (∀ slot, slot ∉ pagesOf s j Page.inPrint) →
    ((jobOf s j).isClosing = true ∨ ∀ slot f, slot ∉ pagesOf s j f) → P (releaseJob j cause s)
  admitted : ∀ {s : State} {slot : Nat} {p : Page}, P s → pageOf s slot = some p → P (takeAdmission slot p s)
  served : ∀ {s : State} (slot lo : Nat) (plain : List Byte) (n : Plane), P s → P (servePlane slot lo plain s n)

namespace PageLaw

variable {F : List Aspect} {P : State → Prop} (L : PageLaw F P)
include L

/-- A change apart from what the law reads keeps it. -/
theorem touched {l : List Aspect} {s t : State} (ht : Touches l s t) (h : P s) (hl : apart l F = true) : P t :=
  L.reads (fun _ hf => ht.same_of_apart hl hf) h

/-- A change of quiet fields keeps the law. -/
theorem quieted {l : List Aspect} {s t : State} (ht : Touches l s t) (h : P s) (hl : within l quietFields = true := by decide +kernel) :
    P t :=
  L.reads (fun f hf => ht.same f fun hx => by
    have := List.all_eq_true.mp L.quiet f (mem_of_within hl hx)
    simp only [decide_eq_true_eq] at this
    exact this hf) h

/-! ## Runs of pages -/

omit L in
/-- A step for each page of a run, where a step changes its own page alone. -/
theorem foldl_pages {step : State → Nat → State} {good : Page → Prop}
    (hpage : ∀ t x k, x ≠ k → pageOf (step t x) k = pageOf t k)
    (hstep : ∀ t x p, P t → pageOf t x = some p → good p → P (step t x)) (l : List Nat) (s : State) (hl : l.Nodup)
    (hgood : ∀ x ∈ l, ∃ p, pageOf s x = some p ∧ good p) (h : P s) : P (l.foldl step s) := by
  induction l generalizing s with
  | nil => exact h
  | cons x l ih =>
    obtain ⟨hx, hl⟩ := List.nodup_cons.mp hl
    obtain ⟨p, hp, hg⟩ := hgood x (by simp)
    refine ih (step s x) hl (fun y hy => ?_) (hstep s x p h hp hg)
    obtain ⟨q, hq, hgq⟩ := hgood y (by simp [hy])
    exact ⟨q, by rw [hpage s x y (fun hxy => hx (hxy ▸ hy)), hq], hgq⟩

omit L in
theorem nodup_pagesOf (s : State) (j : Nat) (f : Page → Bool) : (pagesOf s j f).Nodup := List.Nodup.filter _ List.nodup_range

theorem tallyDropped {s : State} (h : P s) (j : Nat) : P (tallyDropped j s) := L.tallied j _ (jobOf s j).aborted h

theorem tallyAborted {s : State} (h : P s) (j : Nat) : P (tallyAborted j s) := L.tallied j (jobOf s j).dropped _ h

theorem dropPages {s : State} (h : P s) (j : Nat) : P (dropPages j s) := by
  refine foldl_pages (good := fun p => p.inPrint = false) (fun t x k hx => ?_) (fun t x p ht hp hg => L.tallyDropped (L.dropped ht hp hg) j)
    _ s (nodup_pagesOf ..) (fun x hx => ?_) h
  · rw [pageOf_of_touches (tallyDropped_touches ..), pageOf_dropPage, if_neg hx]
  · obtain ⟨-, p, hp, -, -, hprint⟩ := mem_pagesOf.mp hx
    exact ⟨p, hp, by simpa using hprint⟩

theorem abortPages {s : State} (h : P s) (j : Nat) : P (abortPages j s) := by
  refine foldl_pages (good := fun p => p.inPrint = true) (fun t x k hx => ?_) (fun t x p ht hp hg => L.tallyAborted (L.settled ht hp hg rfl) j)
    _ s (nodup_pagesOf ..) (fun x hx => ?_) h
  · rw [pageOf_of_touches (tallyAborted_touches ..), pageOf_settlePage, if_neg hx]
  · obtain ⟨-, p, hp, -, -, hprint⟩ := mem_pagesOf.mp hx
    exact ⟨p, hp, hprint⟩

/-! ## Purges -/

theorem purgeSlot {s : State} (h : P s) (j : Nat) (cause : ReleaseCause) : P (purgeSlot j cause s) :=
  L.released cause (L.dropPages (L.abortPages h j) j) (fun slot => no_page_left j s slot _) (.inr (no_page_left j s))

theorem purgeJobOrder {s : State} (h : P s) (ps : List Nat) : P (purgeJobOrder ps s).1 :=
  checked_keeps h fun _ => L.quieted (answerClose_touches ..) (L.purgeSlot h _ _)

theorem purgeTurn {s : State} (h : P s) (cause : ReleaseCause) (code : Code) (j : Nat) : P (purgeTurn cause code s j) := by
  refine L.quieted (answerCloses_touches ..) ?_
  split
  · exact h
  · exact L.purgeSlot h j cause

theorem purgeAll {s : State} (h : P s) (cause : ReleaseCause) (code : Code) : P (purgeAll cause code s) := by
  unfold Machine.purgeAll
  generalize List.range 16 = l
  induction l generalizing s with
  | nil => exact h
  | cons j l ih => exact ih (L.purgeTurn h cause code j)

theorem enterLockdown {s : State} (h : P s) (cause : StateCause) : P (enterLockdown cause s) := by
  have hsup : Touches [.device, .supRest] s (modifySup (fun u => { u with device := .lockdown, keepalive := none }) s) := by
    refine .of_fields fun f hf hl => ?_; cases f <;> first | rfl | exact absurd hl (by decide) | simp at hf
  refine L.quieted (postStateChange_touches ..) (L.quieted (modifyCtlrst_touches _ .held) (L.quieted (answerDeferred_touches ..) ?_))
  exact L.purgeAll (L.quieted hsup h) .lockdown .aborted

theorem keepaliveExpired {s u : State} (h : P s) (hu : keepaliveExpired s = some u) : P u := by
  unfold Machine.keepaliveExpired at hu
  split at hu
  · exact Option.some.inj hu ▸ L.enterLockdown (L.quieted (reachTime_touches ..) h) _
  · cases hu

theorem keepaliveOrder {s : State} (h : P s) (ps : List Nat) : P (keepaliveOrder ps s).1 := by
  unfold Machine.keepaliveOrder
  split
  · dsimp only
    split
    · dsimp only; exact L.enterLockdown h _
    · split
      · exact L.quieted (modifySup_touches (fun u => { u with keepalive := some s.time }) s fun _ => ⟨rfl, rfl, rfl, rfl⟩) h
      · dsimp only; exact L.enterLockdown h _
  · exact h

theorem endServiceOrder {s : State} (h : P s) (ps : List Nat) : P (endServiceOrder ps s).1 := by
  unfold Machine.endServiceOrder
  dsimp only
  exact L.quieted (postStateChange_touches ..) (L.quieted (enterProvision_touches _) (L.purgeAll h .purge .done))

/-! ## The end of a page -/

theorem settleEnding {s : State} {slot : Nat} {p : Page} (h : P s) (hp : pageOf s slot = some p) (hprint : p.inPrint = true)
    {o : Outcome} (ho : o.charged = true) : P (settleEnding slot o s) := by
  unfold Machine.settleEnding
  rw [hp]
  have hsettled := L.settled h hp hprint ho
  dsimp only
  split
  · rename_i i hstate
    split
    · exact hsettled
    · rename_i hnone
      refine L.quieted (answerClose_touches ..) (L.released _ hsettled (fun x hx => hnone (pageInPrint_iff.mpr ⟨x, hx⟩)) (.inl ?_))
      simp [Job.isClosing, hstate]
  · exact hsettled

theorem stallExpired {s u : State} {slot : Nat} (h : P s) (hu : stallExpired slot s = some u) : P u := by
  obtain ⟨t, ht, rfl⟩ := Option.map_eq_some_iff.mp hu
  obtain ⟨p, hp, hprogress⟩ := Option.bind_eq_some_iff.mp ht
  have hreach := reachTime_touches s t (1000 * s.sup.stallSeconds)
  refine L.settleEnding (L.quieted hreach h) ((pageOf_of_touches hreach slot).trans hp) ?_ rfl
  cases hstate : p.state <;> simp [Page.progress, hstate] at hprogress <;> simp [Page.inPrint, hstate]

theorem testComplete {s : State} (h : P s) (slot : Nat) : P (testComplete slot s) := by
  unfold Machine.testComplete
  split
  · split
    · rename_i hc
      exact L.settleEnding h ‹_› (Bool.and_eq_true .. ▸ hc).1 rfl
    · exact h
  · exact h

/-! ## Print reads -/

theorem takePrintRead {s : State} (h : P s) (slot j : Nat) (g : Index) (lo : Nat) (plain : List Byte) :
    P (takePrintRead slot j g lo plain s).1 := by
  unfold Machine.takePrintRead
  dsimp only
  split
  · exact h
  · rename_i p hlive
    split
    · have hadmitted := L.admitted h (pageOf_of_liveFor hlive)
      split
      · exact hadmitted
      · refine L.testComplete ?_ slot
        rename_i q _
        generalize planesOf q.colour = l
        revert hadmitted
        generalize takeAdmission slot p s = t
        intro ht
        induction l generalizing t with
        | nil => exact ht
        | cons n l ih => exact ih _ (L.served slot lo plain n ht)
    · exact h

theorem readUnder {s : State} (h : P s) (v : Service) (stored : List Byte) : P (readUnder v stored s).1 := by
  unfold Machine.readUnder
  split
  · exact h
  · exact L.takePrintRead h ..
  · exact h

/-! ## CLOSE JOB -/

theorem closeJobOrder {s : State} (h : P s) (ps : List Nat) : P (closeJobOrder ps s).1 := by
  refine checked_keeps h fun hchecks => ?_
  simp only [List.mem_cons, List.not_mem_nil, or_false, forall_eq_or_imp, forall_eq, Bool.not_eq_false'] at hchecks
  obtain ⟨-, -, hactive, -⟩ := hchecks
  have hdropped := L.dropPages h (arg ps 1)
  have hactive' : (jobOf (Machine.dropPages (arg ps 1) s) (arg ps 1)).isActive = true := by
    rw [dropPages_job, if_pos rfl]
    exact hactive
  dsimp only
  split
  · rename_i o _ hopening
    refine L.quieted (deferOrder_touches ..) (L.closing _ hdropped ?_ fun slot p hslot hp hjob hgen => ?_)
    · revert hactive' hopening
      cases hstate : (jobOf (Machine.dropPages (arg ps 1) s) (arg ps 1)).state <;> simp [Job.isActive, Job.opening, hstate]
    · have hmem : slot ∈ pagesOf (Machine.dropPages (arg ps 1) s) (arg ps 1) fun _ => true :=
        mem_pagesOf.mpr ⟨hslot, p, hp, hjob, hgen, rfl⟩
      obtain ⟨-, q, hq, -, -, hprint⟩ := mem_pagesOf.mp (mem_pagesOf_dropPages.mp hmem)
      rw [dropPages_page] at hp
      split at hp
      · cases hp
      · rw [hp] at hq
        cases hq
        simpa using hprint
  · rename_i hnot
    have hnone : pageInPrint s (arg ps 1) = false := by
      by_contra hprint
      obtain ⟨o, ho⟩ : ∃ o, (jobOf (Machine.dropPages (arg ps 1) s) (arg ps 1)).opening = some o := by
        revert hactive'
        cases hstate : (jobOf (Machine.dropPages (arg ps 1) s) (arg ps 1)).state <;> simp [Job.isActive, Job.opening, hstate]
      exact hnot o (by simpa [pageInPrint_dropPages] using hprint) ho
    refine L.released _ hdropped (fun slot hslot => ?_) (.inr fun slot f hslot => ?_)
    all_goals
      have hprint : pageInPrint s (arg ps 1) = true := by
        rw [mem_pagesOf_dropPages] at hslot
        obtain ⟨h32, p, hp, hjob, hgen, hf⟩ := mem_pagesOf.mp hslot
        exact pageInPrint_iff.mpr ⟨slot, mem_pagesOf.mpr ⟨h32, p, hp, hjob, hgen, (Bool.and_eq_true .. ▸ hf).1⟩⟩
      rw [hnone] at hprint
      cases hprint

/-! ## A performed access of a part -/

theorem linkPerformed {s : State} (h : P s) (v : Service) (a : LinkAccess) (hF : apart [.openReads, .service, .mem] F = true)
    (hfree : ∀ t, t.port.grant = s.port.grant → P t → P (freePort t)) (hend : ∀ t data, P t → P (endService v data t)) :
    P (linkPerformed v a s) := by
  have happart : ∀ f ∈ [Aspect.openReads, .service, .mem], f ∉ F := fun f hf => of_decide_eq_true (List.all_eq_true.mp hF f hf)
  have hcounted : P { s with openReads := s.openReads + 1 } := by
    refine L.touched (l := [.openReads]) ?_ h (by simpa [apart] using happart .openReads (by decide))
    refine .of_fields fun f hf hl => ?_; cases f <;> first | rfl | exact absurd hl (by decide) | simp at hf
  unfold Machine.linkPerformed
  dsimp only
  split
  · exact hend _ _ (hfree _ ((readUnder_touches ..).at .grant) (L.readUnder hcounted _ _))
  · refine L.touched (l := [.service]) ?_ hcounted (by simpa [apart] using happart .service (by decide))
    refine .of_fields fun f hf hl => ?_; cases f <;> first | rfl | exact absurd hl (by decide) | simp at hf
  · exact hend _ _ (hfree _ ((portWrite_touches ..).at .grant)
      (L.touched (portWrite_touches ..) h (by simpa [apart] using happart .mem (by decide))))

end PageLaw

/-! ## What a dropped and a settled page leave -/

theorem pages_setPage (slot : Nat) (r : Option Page) (s : State) : (setPage slot r s).pages = Table.set none s.pages slot r := rfl

theorem dropPage_touches_of {s : State} {slot : Nat} {p : Page} (hp : pageOf s slot = some p) :
    Touches [.pages, .entries] (releaseTicket p s) (dropPage slot s) := by
  unfold dropPage
  rw [hp]
  exact (unmarkFrames_touches ..).then (setPage_touches_of _ _ _ nofun)

theorem dropPage_pages {s : State} {slot : Nat} {p : Page} (hp : pageOf s slot = some p) :
    (dropPage slot s).pages = Table.set none s.pages slot none := by
  unfold dropPage
  rw [hp]
  have hpages : (unmarkFrames slot (releaseTicket p s)).pages = s.pages :=
    ((releaseTicket_touches s p).then (k := [.entries, .accounts, .reservations]) (unmarkFrames_touches ..)).at .pages
  simp [setPage, hpages]

theorem settlePage_pages {s : State} {slot : Nat} {p : Page} (hp : pageOf s slot = some p) (o : Outcome) :
    (settlePage slot o s).pages = Table.set none s.pages slot none := by
  unfold settlePage
  rw [hp]
  dsimp only
  simp only [setPage]
  congr 1
  refine ((unmarkFrames_touches ..).at .pages : _).trans (((postEvent_touches ..).at .pages : _).trans ?_)
  split
  · exact (((settleResidues_touches ..).then (k := .residues :: charging) (chargePage_touches ..)).then (k := .residues :: charging ++ debiting)
      (settleDebits_touches ..)).at .pages
  · rfl

/-- The final clicks of a settlement of a PRINTING page (R79). -/
def settledClicks (s : State) (p : Page) (c : Capture) (o : Outcome) : Nat :=
  finalClicks o c (measuredColour s.coverage.settings.threshold p)

/-- The meters after the settlement of a PRINTING page (R79, R101). -/
def chargeOf (p : Page) (c : Capture) (o : Outcome) (s : State) : State :=
  chargePage (accountNumber s p) p.sizeClass (measuredColour s.coverage.settings.threshold p) c.provisional (settledClicks s p c o) o s

/-- What a settlement changes beyond the charge. -/
abbrev settledRest : List Aspect :=
  [.pages, .entries, .residues, .slots, .nonceDraws, .seen, .dirty, .control, .produce, .nextSeq]

theorem settlePage_printing {s : State} {slot : Nat} {p : Page} {c : Capture} {t : Time} (hp : pageOf s slot = some p)
    (hstate : p.state = .printing c t) {o : Outcome} (ho : o.charged = true) :
    Touches settledRest (chargeOf p c o s) (settlePage slot o s) := by
  have hcharge : Touches [.residues] (chargeOf p c o s) (chargePage (accountNumber s p) p.sizeClass
      (measuredColour s.coverage.settings.threshold p) c.provisional (settledClicks s p c o) o (settleResidues p s)) := by
    refine .of_fields fun f hf hl => ?_; cases f <;> first | rfl | exact absurd hl (by decide) | simp at hf
  have houtcome : p.outcome o = o := by simp [Page.outcome, hstate]
  have hcapture : p.capture = some c := by simp [Page.capture, hstate]
  unfold settlePage
  rw [hp]
  dsimp only
  rw [houtcome, hcapture, if_pos ho, if_pos ho, if_pos ho, Option.getD_some]
  exact (((hcharge.then (k := settledRest) (settleDebits_touches ..)).then (k := settledRest) (postEvent_touches ..)).then
    (k := settledRest) (unmarkFrames_touches ..)).then (setPage_touches_of _ _ _ nofun)

theorem settlePage_withheld {s : State} {slot : Nat} {p : Page} {r : WithheldReason} {t : Time} (hp : pageOf s slot = some p)
    (hstate : p.state = .withheld r t) (o : Outcome) :
    Touches [.pages, .entries, .control, .produce, .nextSeq] s (settlePage slot o s) := by
  have houtcome : p.outcome o = .withheld := by simp [Page.outcome, hstate]
  unfold settlePage
  rw [hp]
  dsimp only
  rw [houtcome, if_neg (by decide), if_neg (by decide), if_neg (by decide)]
  exact ((postEvent_touches s _).then (k := .entries :: posting) (unmarkFrames_touches ..)).then (setPage_touches_of _ _ _ nofun)

end Sys2Proof.Machine
end

section
/-! The journal's law (O54): entries and reservations stay within 64, and each captured page holds one reservation. -/

namespace Sys2Proof.Machine

set_option Elab.async false

/-! ## Counting the records of a table -/

/-- How many records of a table a predicate picks. -/
def Table.count {α : Type} (q : α → Bool) (t : Table α) : Nat := (t.filter fun e => q e.2).length

theorem Table.count_cons {α : Type} (q : α → Bool) (e : Nat × α) (t : Table α) :
    Table.count q (e :: t) = Table.count q t + (q e.2).toNat := by
  cases h : q e.2 <;> simp [Table.count, h]

theorem Table.count_insert {α : Type} (q : α → Bool) (k : Nat) (v : α) (t : Table α) :
    Table.count q (Table.insert k v t) = Table.count q t + (q v).toNat := by
  induction t with
  | nil => simp [Table.insert, Table.count_cons]
  | cons e t ih =>
    obtain ⟨j, w⟩ := e
    unfold Table.insert
    split
    · rw [Table.count_cons]
    · rw [Table.count_cons, Table.count_cons, ih]
      omega

theorem Table.count_erase {α : Type} {d : α} {q : α → Bool} (hd : q d = false) {t : Table α}
    (ht : t.Pairwise fun a b => a.1 < b.1) (k : Nat) :
    Table.count q (Table.erase t k) + (q (Table.get d t k)).toNat = Table.count q t := by
  induction t with
  | nil => simp [Table.erase, Table.get, Table.count, hd]
  | cons e t ih =>
    obtain ⟨j, w⟩ := e
    obtain ⟨hj, ht⟩ := List.pairwise_cons.mp ht
    by_cases hk : j = k
    · subst hk
      have herase : Table.erase t j = t := List.filter_eq_self.mpr fun e he => by
        have := hj e he
        simp only [bne_iff_ne, ne_eq]
        omega
      have : Table.erase ((j, w) :: t) j = t := by rw [← herase]; simp [Table.erase]
      rw [this, Table.count_cons]
      simp [Table.get]
    · have : Table.erase ((j, w) :: t) k = (j, w) :: Table.erase t k := by simp [Table.erase, hk]
      rw [this, Table.count_cons, Table.count_cons, ← ih ht]
      simp only [Table.get, if_neg hk]
      omega

/-- A record replaced: the count gives up the old record and takes the new one. -/
theorem Table.count_set {α : Type} [DecidableEq α] {d : α} {q : α → Bool} (hd : q d = false) {t : Table α}
    (ht : Table.wf d t = true) (k : Nat) (v : α) :
    Table.count q (Table.set d t k v) + (q (Table.get d t k)).toNat = Table.count q t + (q v).toNat := by
  have herase := Table.count_erase hd ((Table.wf_iff d t).mp ht).1 k
  unfold Table.set
  split
  · subst v
    simp [herase, hd]
  · rw [Table.count_insert]
    omega

/-! ## Captures -/

/-- A page slot holds a capture. -/
def captures (r : Option Page) : Bool := (r.bind Page.capture).isSome

theorem capturedPages_of_pages {s t : State} (h : t.pages = s.pages) : capturedPages t = capturedPages s := by
  simp [capturedPages, h]

theorem capturedPages_set {s t : State} {slot : Nat} {r : Option Page} (h : Table.wf none s.pages = true)
    (ht : t.pages = Table.set none s.pages slot r) :
    capturedPages t + (captures (pageOf s slot)).toNat = capturedPages s + (captures r).toNat := by
  have hset := Table.count_set (q := captures) rfl h slot r
  rw [← ht] at hset
  exact hset

/-! ## The law -/

/-- The fields that the journal's law reads. -/
abbrev journalFields : List Aspect := [.pages, .reservations, .journal]

theorem JournalLaw.of_same {s t : State} (h : ∀ f ∈ journalFields, f.same s t) (hs : JournalLaw s) : JournalLaw t := by
  have hpages : t.pages = s.pages := h .pages (by decide)
  have hreserved : t.meter.reservations = s.meter.reservations := h .reservations (by decide)
  have hjournal : t.store.journal = s.store.journal := h .journal (by decide)
  exact ⟨hpages ▸ hs.tables, by rw [hjournal, hreserved]; exact hs.room, by rw [hreserved, capturedPages_of_pages hpages]; exact hs.reserved⟩

/-- A page record replaced, with the reservations and entries that its capture asks for. -/
theorem JournalLaw.withPage {s t : State} (h : JournalLaw s) {slot : Nat} {r : Option Page} (ht : t.pages = Table.set none s.pages slot r)
    (hreserved : t.meter.reservations + (captures (pageOf s slot)).toNat = s.meter.reservations + (captures r).toNat)
    (hroom : t.store.journal.length + t.meter.reservations ≤ 64) : JournalLaw t := by
  have hcount := capturedPages_set h.tables ht
  have hs := h.reserved
  exact ⟨ht ▸ Table.wf_set h.tables _ _, hroom, by omega⟩

/-- A page that holds a capture holds a reservation. -/
theorem JournalLaw.reservation {s : State} (h : JournalLaw s) {slot : Nat} (hp : captures (pageOf s slot) = true) :
    1 ≤ s.meter.reservations := by
  have hcount := capturedPages_set h.tables (pages_setPage slot none s)
  rw [hp, show captures none = false from rfl] at hcount
  simp only [Bool.toNat_true, Bool.toNat_false] at hcount
  have := h.reserved
  omega

theorem captures_some (p : Page) : captures (some p) = p.capture.isSome := rfl

theorem releaseTicket_reservations (p : Page) (s : State) :
    (releaseTicket p s).meter.reservations = s.meter.reservations - p.isTicketed.toNat := by
  cases hstate : p.state <;> simp [releaseTicket, Page.isTicketed, hstate, lowerHeld, unreserve]

theorem chargePage_reservations (a : Nat) (c : Plane) (col : Colour) (provisional clicks : Nat) (o : Outcome) (s : State) :
    (chargePage a c col provisional clicks o s).meter.reservations = s.meter.reservations - 1 := rfl

theorem chargePage_journal (a : Nat) (c : Plane) (col : Colour) (provisional clicks : Nat) (o : Outcome) (s : State) :
    (chargePage a c col provisional clicks o s).store.journal =
      s.store.journal ++ [⟨s.store.lastSeq + 1, .settle a c col clicks o⟩] := rfl

/-- A page that is not in print holds a capture exactly while it is TICKETED. -/
theorem Page.capture_of_waiting {p : Page} (h : p.inPrint = false) : p.capture.isSome = p.isTicketed := by
  cases hstate : p.state <;> simp [Page.inPrint, hstate] at h <;> simp [Page.capture, Page.isTicketed, hstate]

theorem JournalLaw.dropPage {s : State} (h : JournalLaw s) {slot : Nat} {p : Page} (hp : pageOf s slot = some p)
    (hwaiting : p.inPrint = false) : JournalLaw (dropPage slot s) := by
  have hrest := dropPage_touches_of hp
  have hreserved : (Machine.dropPage slot s).meter.reservations = _ := hrest.at .reservations
  have hjournal : (Machine.dropPage slot s).store.journal = _ := hrest.at .journal
  have hsame : (releaseTicket p s).store.journal = s.store.journal := (releaseTicket_touches s p).at .journal
  rw [releaseTicket_reservations] at hreserved
  have hroom := h.room
  refine h.withPage (dropPage_pages hp) ?_ (by rw [hjournal, hsame, hreserved]; omega)
  have hticket := Page.capture_of_waiting hwaiting
  rw [hreserved, hp, captures_some, hticket]
  cases hc : p.isTicketed
  · simp [captures]
  · have := h.reservation (slot := slot) (by rw [hp, captures_some, hticket, hc])
    simp [captures]
    omega

theorem JournalLaw.settlePage {s : State} (h : JournalLaw s) {slot : Nat} {p : Page} {o : Outcome} (hp : pageOf s slot = some p)
    (hprint : p.inPrint = true) (ho : o.charged = true) : JournalLaw (settlePage slot o s) := by
  have hroom := h.room
  cases hstate : p.state with
  | staged | ticketed => simp [Page.inPrint, hstate] at hprint
  | printing c t =>
    have hrest := settlePage_printing hp hstate ho
    have hreserved : (Machine.settlePage slot o s).meter.reservations = _ := hrest.at .reservations
    have hjournal : (Machine.settlePage slot o s).store.journal = _ := hrest.at .journal
    have hcapture : captures (pageOf s slot) = true := by simp [hp, captures, Page.capture, hstate]
    have hone := h.reservation hcapture
    rw [chargeOf, chargePage_reservations] at hreserved
    rw [chargeOf, chargePage_journal] at hjournal
    refine h.withPage (settlePage_pages hp o) ?_ ?_
    · rw [hreserved, hcapture]
      simp [captures]
      omega
    · rw [hjournal, hreserved]
      simp
      omega
  | withheld r t =>
    have hrest := settlePage_withheld hp hstate o
    have hreserved : (Machine.settlePage slot o s).meter.reservations = _ := hrest.at .reservations
    have hjournal : (Machine.settlePage slot o s).store.journal = _ := hrest.at .journal
    refine h.withPage (settlePage_pages hp o) ?_ (by rw [hjournal, hreserved]; exact hroom)
    simp [hreserved, hp, captures, Page.capture, hstate]

theorem JournalLaw.touched {l : List Aspect} {s t : State} (h : JournalLaw s) (ht : Touches l s t)
    (hl : apart l journalFields = true := by decide +kernel) : JournalLaw t :=
  h.of_same fun _ hf => ht.same_of_apart hl hf

/-! ## Admission and progress -/

theorem reserve_reservations (s : State) : (reserve s).meter.reservations = s.meter.reservations + 1 :=
  (noteFull_touches _ (freeCount s)).at .reservations

theorem reserve_journal (s : State) : (reserve s).store.journal = s.store.journal := (reserve_touches s).at .journal

theorem withholdPage_pages (slot : Nat) (p : Page) (r : WithheldReason) (s : State) :
    (withholdPage slot p r s).pages = Table.set none s.pages slot (some { p with state := .withheld r s.time }) :=
  ((releaseTicket_touches _ p).then (k := .accounts :: .reservations :: posting) (postEvent_touches ..)).at .pages

theorem admitPage_pages (slot : Nat) (p : Page) (s : State) :
    (admitPage slot p s).pages = Table.set none s.pages slot (some { p with state := admittedState p s }) := by
  unfold admitPage
  dsimp only
  split
  · rename_i c hstate
    simp only [admittedState, hstate]
    exact ((lowerHeld_touches ..).trans (raiseInflight_touches ..)).at .pages
  · rename_i hstate
    simp only [admittedState]
    exact ((raiseInflight_touches ..).then (k := .accounts :: .reservations :: posting) (reserve_touches _)).at .pages

theorem JournalLaw.withhold {s : State} (h : JournalLaw s) {slot : Nat} {p : Page} (hp : pageOf s slot = some p)
    (hwaiting : p.inPrint = false) (r : WithheldReason) : JournalLaw (withholdPage slot p r s) := by
  have hreserved : (withholdPage slot p r s).meter.reservations = s.meter.reservations - p.isTicketed.toNat :=
    ((postEvent_touches ..).at .reservations : _).trans (releaseTicket_reservations p _)
  have hjournal : (withholdPage slot p r s).store.journal = s.store.journal :=
    ((releaseTicket_touches _ p).then (k := .accounts :: .reservations :: posting) (postEvent_touches ..)).at .journal
  have hroom := h.room
  refine h.withPage (withholdPage_pages ..) ?_ (by rw [hjournal, hreserved]; omega)
  have hticket := Page.capture_of_waiting hwaiting
  have hnone : captures (some { p with state := .withheld r s.time }) = false := rfl
  rw [hreserved, hp, captures_some, hticket, hnone]
  cases hc : p.isTicketed
  · simp
  · have := h.reservation (slot := slot) (by rw [hp, captures_some, hticket, hc])
    simp
    omega

theorem JournalLaw.admitted {s : State} (h : JournalLaw s) {slot : Nat} {p : Page} (hp : pageOf s slot = some p)
    (hwaiting : p.inPrint = false) (hadmit : withholding p s = none) : JournalLaw (admitPage slot p s) := by
  have hroom := h.room
  have hpages := admitPage_pages slot p s
  cases hstate : p.state with
  | ticketed c =>
    have hticket : captures (pageOf s slot) = true := by simp [hp, captures, Page.capture, hstate]
    have hprinting : captures (some { p with state := admittedState p s }) = true := by
      simp [captures, Page.capture, admittedState, hstate]
    have hsame : (admitPage slot p s).meter.reservations = s.meter.reservations ∧
        (admitPage slot p s).store.journal = s.store.journal := by simp [admitPage, hstate, raiseInflight, lowerHeld]
    exact h.withPage hpages (by rw [hsame.1, hticket, hprinting]) (by rw [hsame.1, hsame.2]; exact hroom)
  | staged =>
    have hfree : freeCount s ≠ 0 :=
      (((withholding_eq_none_iff p s).mp hadmit).2.2.2.2 (by simp [Page.isTicketed, hstate])).2.2
    have hstaged : captures (pageOf s slot) = false := by simp [hp, captures, Page.capture, hstate]
    have hprinting : captures (some { p with state := admittedState p s }) = true := by
      simp [captures, Page.capture, admittedState, hstate]
    have hreserved : (admitPage slot p s).meter.reservations = s.meter.reservations + 1 := by
      simp only [admitPage, hstate, reserve_reservations]; simp [raiseInflight]
    have hjournal : (admitPage slot p s).store.journal = s.store.journal := by
      simp only [admitPage, hstate, reserve_journal]; simp [raiseInflight]
    refine h.withPage hpages (by simp [hreserved, hstaged, hprinting]) ?_
    rw [hjournal, hreserved]
    simp only [freeCount] at hfree
    omega
  | printing | withheld => simp [Page.inPrint, hstate] at hwaiting

theorem JournalLaw.takeAdmission {s : State} (h : JournalLaw s) {slot : Nat} {p : Page} (hp : pageOf s slot = some p) :
    JournalLaw (takeAdmission slot p s) := by
  unfold Machine.takeAdmission
  split
  · exact h
  · rename_i hprint
    have hwaiting : p.inPrint = false := by simpa using hprint
    split
    · exact h.withhold hp hwaiting _
    · exact h.admitted hp hwaiting ‹_›

theorem straddle_capture (p : Page) (n : Plane) (b : Nat) (plain : List Byte) (now : Time) :
    (straddle p n b plain now).capture = p.capture := by
  cases hstate : p.state <;> simp [straddle, Page.capture, PageState.progressed, hstate]

/-- A page record replaced by one of the same capture. -/
theorem JournalLaw.samePage {s : State} (h : JournalLaw s) {slot : Nat} {p q : Page} (hp : pageOf s slot = some p)
    (hq : q.capture = p.capture) : JournalLaw (setPage slot (some q) s) :=
  h.withPage (pages_setPage ..) (by simp [hp, captures_some, hq]) h.room

theorem JournalLaw.servePlane {s : State} (h : JournalLaw s) (slot lo : Nat) (plain : List Byte) (n : Plane) :
    JournalLaw (servePlane slot lo plain s n) := by
  unfold Machine.servePlane
  split
  · exact h
  · rename_i p hp
    split
    · exact h
    · dsimp only
      split_ifs
      · exact h
      · unfold noteGap
        split_ifs
        · exact h
        · exact JournalLaw.touched (h.samePage (q := { p with gapPosted := true }) hp rfl) (postEvent_touches ..)
      · exact h.samePage hp (straddle_capture ..)

theorem journalLaw_pageLaw : PageLaw journalFields JournalLaw where
  reads h hs := hs.of_same h
  quiet := rfl
  dropped h hp hw := h.dropPage hp hw
  settled h hp hw ho := h.settlePage hp hw ho
  tallied _ _ _ h := h.touched (setJob_touches ..)
  closing _ h _ _ := h.touched (setJob_touches ..)
  released cause h _ _ := h.touched (releaseJob_touches _ _ cause)
  admitted h hp := h.takeAdmission hp
  served slot lo plain n h := h.servePlane slot lo plain n

/-! ## The orders -/

/-- A FREE page slot takes a record that holds no capture. -/
theorem JournalLaw.definePageOrder {s : State} (h : JournalLaw s) (ps : List Nat) : JournalLaw (definePageOrder ps s).1 := by
  refine checked_keeps h fun hchecks => ?_
  have hfree : pageOf s ((freePage s).getD 0) = none := by
    have hsome : (freePage s).isNone = false := hchecks ((freePage s).isNone, .plain .busy 0) (by simp [defineChecks])
    obtain ⟨slot, hslot⟩ := Option.isSome_iff_exists.mp (Option.not_isNone _ ▸ congrArg (!·) hsome)
    have := List.find?_some hslot
    simpa [hslot] using this
  refine JournalLaw.touched ?_ (.foldl (fun _ _ => markFrame_touches ..) _ _)
  exact h.withPage (pages_setPage ..) (by simp [hfree, captures, definedPage, Page.capture]) h.room

/-- A page order keeps a law that its act on the page keeps. -/
theorem onPage_keeps {Q : State → Prop} {ticket : Bool} {ps : List Nat} {s : State} {act : Nat → Page → State → State × Answer}
    (hs : Q s) (hact : ∀ p, pageOf s (arg ps 3) = some p → (∀ c ∈ pageChecks ticket ps s, c.1 = false) → Q (act (arg ps 3) p s).1) :
    Q (onPage ticket ps s act).1 := by
  refine checked_keeps hs fun hchecks => ?_
  split
  · exact hact _ ‹_› hchecks
  · exact hs

theorem JournalLaw.ticketPageOrder {s : State} (h : JournalLaw s) (ps : List Nat) : JournalLaw (ticketPageOrder ps s).1 := by
  refine onPage_keeps h fun p hp _ => ?_
  split
  · rename_i hstate
    refine checked_keeps h fun hchecks => ?_
    have hfree : decide (freeCount s = 0) = false := hchecks (decide (freeCount s = 0), .plain .meter 0) (by simp)
    have hfree : freeCount s ≠ 0 := of_decide_eq_false hfree
    have hroom := h.room
    simp only [freeCount] at hfree
    dsimp only
    have hpages : (reserve (raiseHeld (accountNumber s p) (captureTariff s p.sizeClass p.colour).provisional
        (setPage (arg ps 3) (some { p with state := .ticketed (captureTariff s p.sizeClass p.colour) }) s))).pages = _ :=
      ((raiseHeld_touches ..).then (k := .accounts :: .reservations :: posting) (reserve_touches _)).at .pages
    refine h.withPage (hpages.trans (pages_setPage ..)) ?_ ?_
    · rw [reserve_reservations, hp]
      simp [raiseHeld, captures, Page.capture, hstate]
    · rw [reserve_reservations, reserve_journal]
      simp [raiseHeld]
      omega
  all_goals exact h

theorem JournalLaw.unticketPageOrder {s : State} (h : JournalLaw s) (ps : List Nat) : JournalLaw (unticketPageOrder ps s).1 := by
  refine onPage_keeps h fun p hp _ => ?_
  split
  · exact h
  · rename_i c hstate
    have hreserved := releaseTicket_reservations p (setPage (arg ps 3) (some { p with state := .staged }) s)
    have hrest := releaseTicket_touches (setPage (arg ps 3) (some { p with state := .staged }) s) p
    have hjournal : (releaseTicket p (setPage (arg ps 3) (some { p with state := .staged }) s)).store.journal = s.store.journal :=
      hrest.at .journal
    have hcapture : captures (pageOf s (arg ps 3)) = true := by simp [hp, captures, Page.capture, hstate]
    have hone := h.reservation hcapture
    have hroom := h.room
    simp only [Page.isTicketed, hstate, setPage_meter, Bool.toNat_true] at hreserved
    refine h.withPage ((hrest.at .pages : _).trans (pages_setPage ..)) ?_ (by dsimp only; rw [hjournal, hreserved]; omega)
    dsimp only
    rw [hreserved, hcapture]
    simp [captures, Page.capture]
    omega
  all_goals exact h

theorem JournalLaw.dropPageOrder {s : State} (h : JournalLaw s) (ps : List Nat) : JournalLaw (dropPageOrder ps s).1 := by
  refine onPage_keeps h fun p hp _ => ?_
  split
  · exact h
  · exact h.dropPage hp (by simpa using ‹¬ p.inPrint = true›)

/-- An entry without a page needs a free entry. -/
theorem JournalLaw.enter {s t : State} (h : JournalLaw s) (hfree : freeCount s ≠ 0) (hpages : t.pages = s.pages)
    (hreserved : t.meter.reservations = s.meter.reservations) (hjournal : t.store.journal.length = s.store.journal.length + 1) :
    JournalLaw t := by
  have hroom := h.room
  simp only [freeCount] at hfree
  exact ⟨hpages ▸ h.tables, by omega, by rw [hreserved, capturedPages_of_pages hpages]; exact h.reserved⟩

theorem JournalLaw.creditAccountOrder {s : State} (h : JournalLaw s) (ps : List Nat) : JournalLaw (creditAccountOrder ps s).1 := by
  refine checked_keeps h fun hchecks => JournalLaw.touched ?_ (noteFull_touches ..)
  have hfree : decide (freeCount s = 0) = false := hchecks (decide (freeCount s = 0), .plain .meter 0) (by simp)
  exact h.enter (by simpa using hfree) rfl rfl (by simp [appendEntry])

theorem JournalLaw.rollPeriodOrder {s : State} (h : JournalLaw s) (ps : List Nat) : JournalLaw (rollPeriodOrder ps s).1 := by
  refine checked_keeps h fun hchecks => JournalLaw.touched ?_ (noteFull_touches ..)
  have hfree : decide (freeCount s = 0) = false := hchecks (decide (freeCount s = 0), .plain .meter 0) (by simp)
  exact h.enter (by simpa using hfree) rfl rfl (by simp [appendEntry])

/-! ## Every step -/

theorem JournalLaw.closeTake {s : State} (h : JournalLaw s) : JournalLaw (closeTake s) := by
  have hrest : Touches (.write :: .lastHeader :: reporting) (if s.meter.failed then s else dropFolded s) (Machine.closeTake s) := by
    refine Touches.then (l := .write :: reporting) ?_ (placeHeader_touches _)
    unfold advanceStore
    split
    · exact .refl s
    · exact Touches.then (l := reporting) (.ite (fun _ => reportFold_touches _) fun _ => .refl _) (startWrite_touches _)
  refine JournalLaw.touched ?_ hrest
  split
  · exact h
  · have hroom := h.room
    have hlen : (dropFolded s).store.journal.length ≤ s.store.journal.length := (List.dropWhile_sublist _).length_le
    have hreserved : (dropFolded s).meter.reservations = s.meter.reservations := rfl
    exact ⟨h.tables, by omega, h.reserved⟩

theorem committed_journal (w : StoreWrite) (s : State) : (committed w s).journal = s.store.journal ∧
    (committed w s).lastSeq = s.store.lastSeq := by
  have h := commitWrite_touches s w
  exact ⟨h.at .journal, h.at .lastSeq⟩

theorem cutStore_journal (cut : ResetCut) (s : State) : (cutStore cut s).journal = s.store.journal ∧
    (cutStore cut s).lastSeq = s.store.lastSeq := by
  obtain hs | ⟨w, n, -, hs⟩ := cutStore_cases cut s <;> rw [hs]
  · exact ⟨rfl, rfl⟩
  · exact committed_journal w s

theorem JournalLaw.afterReset {s : State} (h : JournalLaw s) (cold : Bool) (cut : ResetCut) : JournalLaw (afterReset cold cut s) := by
  have hroom := h.room
  have hjournal : (Machine.afterReset cold cut s).store.journal = s.store.journal := (cutStore_journal cut s).1
  have hreserved : (Machine.afterReset cold cut s).meter.reservations = 0 := rfl
  exact ⟨rfl, by rw [hjournal, hreserved]; omega, rfl⟩

theorem JournalLaw.lost {s : State} (h : JournalLaw s) (cut : ResetCut) : JournalLaw (lost cut s) := by
  have hcut := h.touched (cutMemory_touches cut s)
  have hjournal : (Machine.lost cut s).store.journal = s.store.journal := (cutStore_journal cut s).1
  have hsame : (cutMemory cut s).store.journal = s.store.journal := (cutMemory_touches cut s).at .journal
  exact ⟨hcut.tables, by rw [hjournal, ← hsame]; exact hcut.room, hcut.reserved⟩

theorem journalLaw_kept : Kept JournalLaw JournalLaw where
  quiet ht h := h.touched ht
  close h := h.closeTake
  take {c f s u} hf _ hu h := by
    by_cases hx : apart (footprintOf c) journalFields = true
    · exact h.touched (take_touches hf hu) hx
    · cases c
      case linkAccessPerformed =>
        cases hf
        obtain ⟨-, v, a, -, -, rfl⟩ := linkAccess_some hu
        refine journalLaw_pageLaw.linkPerformed h v a (by decide +kernel) (fun t _ ht => ht.touched (freePort_touches t))
          fun t data ht => ht.touched (endService_touches ..)
      case stallTimerExpiry => cases hf; exact journalLaw_pageLaw.stallExpired h hu
      case keepaliveExpiry => cases hf; exact journalLaw_pageLaw.keepaliveExpired h hu
      all_goals first | exact absurd (by dsimp only [footprintOf]; decide +kernel) hx | cases hf
  order {c m s o} hm _ ho h := by
    refine order_keeps (h.touched (fetchDone_touches s)) (fun h => ?_) fun t a h => h.touched (answerAndAdvance_touches t a)
    by_cases hx : apart (footprintOf c) journalFields = true
    · exact h.touched (act_touches hm o.params _) hx
    · cases c
      case closeJob => cases hm; exact journalLaw_pageLaw.closeJobOrder h _
      case purgeJob => cases hm; exact journalLaw_pageLaw.purgeJobOrder h _
      case definePage => cases hm; exact h.definePageOrder _
      case ticketPage => cases hm; exact h.ticketPageOrder _
      case unticketPage => cases hm; exact h.unticketPageOrder _
      case dropPage => cases hm; exact h.dropPageOrder _
      case rollPeriod => cases hm; exact h.rollPeriodOrder []
      case creditAccount => cases hm; exact h.creditAccountOrder _
      case endService => cases hm; exact journalLaw_pageLaw.endServiceOrder h []
      case keepalive => cases hm; exact journalLaw_pageLaw.keepaliveOrder h []
      all_goals first | exact absurd (by dsimp only [footprintOf]; decide +kernel) hx | cases hm
  line {c _ _ _} hr _ _ h := by
    refine h.touched (line_touches hr _).2 ?_
    cases c <;> first | (dsimp only [footprintOf]; decide +kernel) | cases hr
  raw hr _ h := h.touched (line_touches hr _).1
  reset cold cut _ h := h.afterReset cold cut
  warm cut _ h := { h.afterReset false cut with }
  loss cut _ h := h.lost cut

end Sys2Proof.Machine

namespace Sys2Proof.Proofs

open Sys2Proof.Machine

/-- Settles O54: each reservation follows its page's capture, and an entry without a page needs a free one. -/
theorem journalLawKept : Obligations.JournalLawKept := by
  unfold Obligations.JournalLawKept
  exact fun s t h ht => journalLaw_kept.step h ht

end Sys2Proof.Proofs
end

section
/-! The scrub queue's law (O53): what binding, releasing, retiring, marking, scrubbing and START do to the frames and the queue. -/

namespace Sys2Proof.Machine

set_option Elab.async false

/-- The fields that the scrub queue's law reads. -/
abbrev scrubFields : List Aspect := [.entries, .scrub, .grant, .power]

theorem ScrubLaw.of_same {s t : State} (h : ∀ f ∈ scrubFields, f.same s t) (hs : ScrubLaw s) : ScrubLaw t := by
  have hentries : t.frames.entries = s.frames.entries := h .entries (by decide)
  have hscrub : t.scrub = s.scrub := h .scrub (by decide)
  have hgrant : t.port.grant = s.port.grant := h .grant (by decide)
  have hpower : t.power = s.power := h .power (by decide)
  obtain ⟨h1, h2, h3, h4, h5, h6, h7, h8, h9, h10⟩ := hs
  constructor <;> simp only [frameOf, scrubLive, hentries, hscrub, hgrant, hpower] <;> assumption

theorem ScrubLaw.touched {l : List Aspect} {s t : State} (h : ScrubLaw s) (ht : Touches l s t)
    (hl : apart l scrubFields = true := by decide +kernel) : ScrubLaw t :=
  h.of_same fun _ hf => ht.same_of_apart hl hf

/-- A change of the port that neither begins nor ends a live scrub line keeps the law. -/
theorem ScrubLaw.regrant {s t : State} (hs : ScrubLaw s) (hentries : t.frames.entries = s.frames.entries) (hscrub : t.scrub = s.scrub)
    (hpower : t.power = s.power) (hlive : ∀ f l, scrubLive t f l ↔ scrubLive s f l) : ScrubLaw t := by
  obtain ⟨h1, h2, h3, h4, h5, h6, h7, h8, h9, h10⟩ := hs
  constructor <;> simp only [frameOf, hlive, hentries, hscrub, hpower] <;> assumption

/-! ## Frames outside the queue -/

theorem wf_setFrame {s : State} (h : Table.wf FrameEntry.free s.frames.entries = true) (f : Nat) (e : FrameEntry) :
    Table.wf FrameEntry.free (setFrame f e s).frames.entries = true := Table.wf_set h f e

theorem wf_updateFrames {s : State} (h : Table.wf FrameEntry.free s.frames.entries = true) (g : Nat → FrameEntry → FrameEntry) :
    Table.wf FrameEntry.free (updateFrames g s).frames.entries = true := Table.wf_update h g

/-- A frame that is OPEN or BOUND. -/
def FrameState.plain : FrameState → Bool
  | .opened => true
  | .bound _ => true
  | _ => false

theorem FrameState.residue_of_plain {st : FrameState} (h : st.plain = true) : st.residue = false := by cases st <;> first | rfl | cases h
theorem FrameState.ne_control_of_plain {st : FrameState} (h : st.plain = true) : st ≠ .control := by rintro rfl; cases h
theorem FrameState.ne_scrubbing_of_plain {st : FrameState} (h : st.plain = true) : st ≠ .scrubbing := by rintro rfl; cases h
theorem FrameState.ne_scrubbing_of_residue {st : FrameState} (h : st.residue = false) : st ≠ .scrubbing := by rintro rfl; cases h

/-- Frames that change among OPEN and BOUND, or change no state, leave the queue's law alone. -/
theorem ScrubLaw.plainFrames {s t : State} (h : ScrubLaw s) (hwf : Table.wf FrameEntry.free t.frames.entries = true)
    (hstate : ∀ f, (frameOf t f).state = (frameOf s f).state ∨
      ((frameOf s f).state.plain = true ∧ (frameOf t f).state.plain = true))
    (hscrub : t.scrub = s.scrub) (hgrant : t.port.grant = s.port.grant) (hpower : t.power = s.power) : ScrubLaw t where
  tables := hwf
  control f := by
    obtain heq | ⟨hs, ht⟩ := hstate f
    · rw [heq]; exact h.control f
    · exact ⟨fun hc => absurd hc (FrameState.ne_control_of_plain ht),
        fun hf => absurd ((h.control f).mpr hf) (FrameState.ne_control_of_plain hs)⟩
  once := hscrub ▸ h.once
  residue f := by
    rw [hscrub, h.residue f]
    obtain heq | ⟨hs, ht⟩ := hstate f
    · rw [heq]
    · rw [FrameState.residue_of_plain hs, FrameState.residue_of_plain ht]
  head f := by
    rw [hscrub, ← h.head f]
    obtain heq | ⟨hs, ht⟩ := hstate f
    · rw [heq]
    · exact ⟨fun hc => absurd hc (FrameState.ne_scrubbing_of_plain ht), fun hc => absurd hc (FrameState.ne_scrubbing_of_plain hs)⟩
  progress := hscrub ▸ h.progress
  lines := hscrub ▸ h.lines
  live := by simp only [scrubLive, hgrant, hscrub]; exact h.live
  offered := hscrub ▸ h.offered
  advances := by simp only [scrubLive, hgrant, hscrub, hpower]; exact h.advances

/-- An entry replaced by one whose state is the same, or OPEN or BOUND both. -/
theorem ScrubLaw.setFrame {s : State} (h : ScrubLaw s) {f : Nat} {e : FrameEntry}
    (he : e.state = (frameOf s f).state ∨ ((frameOf s f).state.plain = true ∧ e.state.plain = true)) : ScrubLaw (setFrame f e s) := by
  refine h.plainFrames (wf_setFrame h.tables _ _) (fun k => ?_) rfl rfl rfl
  rw [frameOf_setFrame]
  split
  · subst k; exact he
  · exact .inl rfl

theorem ScrubLaw.unmarkFrames {s : State} (h : ScrubLaw s) (p : Nat) : ScrubLaw (unmarkFrames p s) := by
  unfold Machine.unmarkFrames
  refine h.plainFrames (wf_updateFrames h.tables _) (fun k => ?_) rfl rfl rfl
  rw [frameOf_updateFrames h.tables _ (fun _ => rfl)]
  cases hstate : (frameOf s k).state with
  | bound b =>
    refine .inr ⟨rfl, ?_⟩
    dsimp only
    split <;> simp [FrameState.plain, hstate]
  | _ => exact .inl hstate

theorem ScrubLaw.markFrame {s : State} (h : ScrubLaw s) (p f : Nat) : ScrubLaw (markFrame p s f) := by
  unfold Machine.markFrame
  split
  · rename_i b hstate
    exact h.setFrame (.inr ⟨by rw [hstate]; rfl, rfl⟩)
  · exact h

/-! ## Retirement -/

theorem ScrubLaw.not_mem_of_plain {s : State} (h : ScrubLaw s) {f : Nat} (hf : (frameOf s f).state.plain = true) :
    f ∉ s.scrub.queue := fun hmem => by
  rw [h.residue, FrameState.residue_of_plain hf] at hmem
  cases hmem

/-- An OPEN or BOUND frame that is retired joins the queue (R145). -/
theorem ScrubLaw.retire {s : State} (h : ScrubLaw s) {f : Nat} (hf : (frameOf s f).state.plain = true) : ScrubLaw (retireFrame f s) := by
  have hout := h.not_mem_of_plain hf
  have hzero : f ≠ 0 := fun h0 => FrameState.ne_control_of_plain hf ((h.control f).mpr h0)
  have hframe : ∀ k, frameOf (retireFrame f s) k = if f = k then retiredEntry s.scrub.queue 0 else frameOf s k := fun k => by
    rw [retireFrame_eq, frameOf_setFrame]; rfl
  have hscrub : (retireFrame f s).scrub = s.scrub.join [f] := by rw [retireFrame_eq]; rfl
  have hgrant : (retireFrame f s).port.grant = s.port.grant := by rw [retireFrame_eq]; rfl
  have hpower : (retireFrame f s).power = s.power := by rw [retireFrame_eq]; rfl
  have hqueue : (s.scrub.join [f]).queue = s.scrub.queue ++ [f] := rfl
  have hentry : retiredEntry s.scrub.queue 0 = if s.scrub.queue = [] then ⟨.scrubbing, false⟩ else ⟨.retired, false⟩ := by
    simp [retiredEntry]
  refine ⟨?_, fun k => ?_, ?_, fun k => ?_, fun k => ?_, ?_, ?_, ?_, ?_, ?_⟩
  · rw [retireFrame_eq]; exact Table.wf_set h.tables _ _
  · rw [hframe]
    split
    · subst k
      rw [hentry]
      split <;> simp [hzero]
    · exact h.control k
  · rw [hscrub, hqueue]
    exact List.nodup_append.mpr ⟨h.once, by simp, fun a ha b hb hab => hout (by simp at hb; rw [← hb, ← hab]; exact ha)⟩
  · rw [hscrub, hqueue, List.mem_append, List.mem_singleton, hframe]
    by_cases hk : f = k
    · subst k
      rw [if_pos rfl, hentry]
      split <;> simp [FrameState.residue]
    · rw [if_neg hk, ← h.residue k]
      simp [Ne.symm hk]
  · rw [hscrub, hqueue, hframe]
    by_cases hk : f = k
    · subst k
      rw [if_pos rfl, hentry]
      cases hq : s.scrub.queue with
      | nil => simp
      | cons x q =>
        rw [hq] at hout
        simp only [List.cons_append, List.head?_cons, Option.some.injEq]
        simp only [List.mem_cons, not_or] at hout
        simp [Ne.symm hout.1]
    · rw [if_neg hk, h.head k]
      cases hq : s.scrub.queue with
      | nil => simp [hk]
      | cons x q => simp
  · rw [hscrub, hqueue]
    by_cases hq : s.scrub.queue = []
    · simp [Scrub.join, hq]
    · simp [Scrub.join, hq, h.progress]
  · rw [hscrub]
    intro l
    by_cases hq : s.scrub.queue = []
    · simp only [Scrub.join, hq, if_true, Option.some.injEq]; omega
    · simp only [Scrub.join, hq, if_false]; exact h.lines l
  · intro k l hlive
    rw [scrubLive, hgrant] at hlive
    obtain ⟨hhead, hprog, hoff⟩ := h.live k l hlive
    have hq : s.scrub.queue ≠ [] := fun hq => by simp [hq] at hhead
    rw [hscrub, hqueue]
    refine ⟨?_, by simp [Scrub.join, hq, hprog], by simp [Scrub.join, hq, hoff]⟩
    rw [List.head?_append, hhead]
    rfl
  · rw [hscrub, hqueue]; simp
  · rw [hscrub, hpower]
    intro hon _
    by_cases hq : s.scrub.queue = []
    · exact .inl (by simp [Scrub.join, hq])
    · simp only [scrubLive, hgrant, Scrub.join, hq, if_false]
      exact h.advances hon hq

theorem releaseFrame_frame (j : Nat) (s : State) (f k : Nat) (hk : f ≠ k) : frameOf (releaseFrame j s f) k = frameOf s k := by
  rw [releaseFrame_eq, frameOf_of_touches (setJob_touches ..)]
  unfold leaveFrame
  split
  · rw [retireFrame_eq, frameOf_setFrame, if_neg hk]; rfl
  · rw [frameOf_setFrame, if_neg hk]

theorem ScrubLaw.releaseFrame {s : State} (h : ScrubLaw s) (j : Nat) {f : Nat} (hf : (frameOf s f).state.plain = true) :
    ScrubLaw (releaseFrame j s f) := by
  rw [releaseFrame_eq]
  refine ScrubLaw.touched ?_ (setJob_touches ..)
  unfold leaveFrame
  split
  · exact h.retire hf
  · exact h.setFrame (.inr ⟨hf, rfl⟩)

/-- Frames released one after another, each OPEN or BOUND when its turn comes. -/
theorem ScrubLaw.releaseFrames {s : State} (h : ScrubLaw s) (j : Nat) (l : List Nat) (hl : l.Nodup)
    (hplain : ∀ f ∈ l, (frameOf s f).state.plain = true) : ScrubLaw (l.foldl (Machine.releaseFrame j) s) := by
  induction l generalizing s with
  | nil => exact h
  | cons f l ih =>
    obtain ⟨hf, hl⟩ := List.nodup_cons.mp hl
    refine ih (h.releaseFrame j (hplain f (by simp))) hl fun k hk => ?_
    rw [releaseFrame_frame j s f k (fun hfk => hf (hfk ▸ hk))]
    exact hplain k (by simp [hk])

theorem plain_of_boundTo {j : Nat} {e : FrameEntry} (h : (boundTo j e).isSome = true) : e.state.plain = true := by
  unfold boundTo at h
  split at h
  · rename_i hstate; rw [hstate]; rfl
  · cases h

/-- The frames BOUND to a job stand in the Frame Table once each. -/
theorem nodup_framesOf {s : State} (h : Table.wf FrameEntry.free s.frames.entries = true) (j : Nat) : (framesOf s j).Nodup := by
  have hsorted := ((Table.wf_iff _ _).mp h).1
  refine List.Nodup.sublist ((List.filter_sublist).map _) ?_
  exact List.pairwise_map.mpr (hsorted.imp fun h => Nat.ne_of_lt h)

theorem boundTo_of_mem_framesOf {s : State} (h : Table.wf FrameEntry.free s.frames.entries = true) {j f : Nat} (hf : f ∈ framesOf s j) :
    (boundTo j (frameOf s f)).isSome = true := by
  obtain ⟨e, he, rfl⟩ := List.mem_map.mp hf
  obtain ⟨hmem, hbound⟩ := List.mem_filter.mp he
  rw [frameOf, Table.get_of_pairwise _ ((Table.wf_iff _ _).mp h).1 (k := e.1) (v := e.2) hmem]
  exact hbound

theorem ScrubLaw.releaseJob {s : State} (h : ScrubLaw s) (j : Nat) (cause : ReleaseCause) : ScrubLaw (releaseJob j cause s) := by
  have hframes := h.releaseFrames j (framesOf s j) (nodup_framesOf h.tables j) fun f hf =>
    plain_of_boundTo (boundTo_of_mem_framesOf h.tables hf)
  exact ScrubLaw.touched (hframes.touched (setJob_touches ..)) (postEvent_touches ..)

/-! ## The queue's head (R146 to R148) -/

/-- The queue while it has no head: its frames wait RETIRED, and no line is offered or being performed. -/
structure Headless (s : State) : Prop where
  tables    : Table.wf FrameEntry.free s.frames.entries = true
  control   : ∀ f, (frameOf s f).state = .control ↔ f = 0
  once      : s.scrub.queue.Nodup
  waiting   : ∀ f, f ∈ s.scrub.queue ↔ (frameOf s f).state.residue = true
  headless  : ∀ f, (frameOf s f).state ≠ .scrubbing
  progress  : s.scrub.progress = none
  unoffered : s.scrub.offered = false
  idle      : ∀ f l, ¬ scrubLive s f l

theorem startHead_frame (f : Nat) (s : State) (k : Nat) :
    frameOf (startHead f s) k = if f = k then ⟨.scrubbing, false⟩ else frameOf s k := by
  rw [startHead, frameOf_setFrame]; rfl

theorem Headless.startHead {s : State} (h : Headless s) {f : Nat} {rest : List Nat} (hq : s.scrub.queue = f :: rest) :
    ScrubLaw (startHead f s) := by
  have hin : (frameOf s f).state.residue = true := (h.waiting f).mp (by simp [hq])
  have hzero : f ≠ 0 := fun h0 => by
    rw [(h.control f).mpr h0] at hin
    cases hin
  have hidle : ∀ k l, ¬ scrubLive (Machine.startHead f s) k l := h.idle
  refine ⟨wf_setFrame (s := { s with scrub := _ }) h.tables _ _, fun k => ?_, h.once, fun k => ?_, fun k => ?_, ?_, fun l hl => ?_,
    fun k l hlive => absurd hlive (hidle k l), fun _ => ?_, fun _ _ => .inl rfl⟩
  · rw [startHead_frame]
    split
    · subst k; simp [hzero]
    · exact h.control k
  · rw [startHead_frame]
    split
    · subst k; simp [Machine.startHead, hq, FrameState.residue]
    · exact h.waiting k
  · rw [startHead_frame]
    split
    · subst k; simp [Machine.startHead, hq]
    · rename_i hk
      simp [Machine.startHead, hq, hk, h.headless k]
  · simp [Machine.startHead, hq]
  · simp only [Machine.startHead, setFrame_scrub, Option.some.injEq] at hl
    omega
  · simp [Machine.startHead, hq]

theorem Headless.empty {s : State} (h : Headless s) (hq : s.scrub.queue = []) : ScrubLaw s where
  tables := h.tables
  control := h.control
  once := h.once
  residue := h.waiting
  head f := by simp [hq, h.headless f]
  progress := by simp [h.progress, hq]
  lines l hl := by rw [h.progress] at hl; cases hl
  live f l hlive := absurd hlive (h.idle f l)
  offered ho := by rw [h.unoffered] at ho; cases ho
  advances _ hne := absurd hq hne

theorem ScrubLaw.recount {s : State} (h : ScrubLaw s) (a b : Nat) :
    ScrubLaw { s with scrub := { s.scrub with scrubbed := a, removed := b } } := { h with }

theorem Headless.nextHead {s : State} (h : Headless s) (last : Nat) (how : ScrubHow) : ScrubLaw (nextHead last how s) := by
  unfold Machine.nextHead
  split
  · exact h.startHead ‹_›
  · exact ((h.empty ‹_›).touched (postEvent_touches ..)).recount 0 0

/-- What is left where the head has left the queue, its frame OPEN. -/
theorem ScrubLaw.behead {s t : State} (h : ScrubLaw s) {f : Nat} (hhead : s.scrub.queue.head? = some f)
    (hwf : Table.wf FrameEntry.free t.frames.entries = true) (hframe : ∀ k, frameOf t k = if f = k then FrameEntry.free else frameOf s k)
    (hqueue : t.scrub.queue = s.scrub.queue.tail) (hprogress : t.scrub.progress = none) (hoffered : t.scrub.offered = false)
    (hidle : ∀ k l, ¬ scrubLive t k l) : Headless t := by
  obtain ⟨rest, hq⟩ : ∃ rest, s.scrub.queue = f :: rest := by
    cases hq : s.scrub.queue with
    | nil => simp [hq] at hhead
    | cons x rest =>
      rw [hq, List.head?_cons, Option.some.injEq] at hhead
      exact ⟨rest, by rw [hhead]⟩
  have hscrubbing : (frameOf s f).state = .scrubbing := (h.head f).mpr hhead
  have hzero : f ≠ 0 := fun h0 => by
    rw [(h.control f).mpr h0] at hscrubbing
    cases hscrubbing
  have honce := h.once
  rw [hq, List.nodup_cons] at honce
  refine ⟨hwf, fun k => ?_, ?_, fun k => ?_, fun k => ?_, hprogress, hoffered, hidle⟩
  · rw [hframe]
    split
    · subst k; simp [FrameEntry.free, hzero]
    · exact h.control k
  · simp [hqueue, hq, honce.2]
  · rw [hframe]
    simp only [hqueue, hq, List.tail_cons]
    split
    · subst k; simp [FrameEntry.free, FrameState.residue, honce.1]
    · rename_i hk
      refine Iff.trans ?_ (h.residue k)
      simp [hq, Ne.symm hk]
  · rw [hframe]
    split
    · simp [FrameEntry.free]
    · rename_i hk
      intro hc
      have := (h.head k).mp hc
      rw [hhead, Option.some.injEq] at this
      exact hk this

/-- The head leaves when its last line has been zeroed (R148). -/
theorem ScrubLaw.endScrub {s : State} (h : ScrubLaw s) {f : Nat} (hhead : s.scrub.queue.head? = some f) :
    ScrubLaw (endScrub f (freePort s)) := by
  refine (h.behead hhead ?_ (fun k => ?_) rfl rfl rfl fun k l hlive => ?_).nextHead f .scrubbed
  · exact wf_setFrame (s := { freePort s with scrub := _ }) h.tables _ _
  · rw [frameOf_setFrame]; rfl
  · simp [scrubLive, freePort] at hlive

/-- The head's next line is offered (R147). -/
theorem ScrubLaw.nextLine {s : State} (h : ScrubLaw s) {f l : Nat} (hhead : s.scrub.queue.head? = some f) (hl : l + 1 < 16384) :
    ScrubLaw { freePort s with scrub := { (freePort s).scrub with progress := some (l + 1), offered := true } } := by
  have hq : s.scrub.queue ≠ [] := fun hq => by simp [hq] at hhead
  exact ⟨h.tables, h.control, h.once, h.residue, h.head, by simpa using hq, fun m hm => Option.some.inj hm ▸ hl,
    fun k m hk => by simp [scrubLive, freePort] at hk, fun _ => hq, fun _ _ => .inl rfl⟩

theorem ScrubLaw.freePort {s : State} (h : ScrubLaw s) (hg : ∀ f l, s.port.grant ≠ some (.scrub f l true)) : ScrubLaw (freePort s) :=
  h.regrant rfl rfl rfl fun f l => by simp [scrubLive, Machine.freePort, hg]

theorem scrubPerformed_law {s u : State} (h : ScrubLaw s) (hu : scrubPerformed s = some u) : ScrubLaw u := by
  obtain ⟨f, l, live, hg, hcases⟩ := scrubPerformed_some hu
  have hw : Touches [.mem] s (portWrite (lineAddress f l) (List.replicate 64 (some 0)) s) := portWrite_touches ..
  have hmem := h.touched hw
  have hgrant : (portWrite (lineAddress f l) (List.replicate 64 (some 0)) s).port.grant = some (.scrub f l live) :=
    (hw.at .grant : _).trans hg
  clear hw
  obtain ⟨hlive, hu⟩ | ⟨hlive, hl, hu⟩ | ⟨hlive, -, hu⟩ := hcases <;> rw [hu]
  · exact hmem.freePort fun _ _ hx => by rw [hgrant, hlive] at hx; cases hx
  · exact hmem.nextLine (hmem.live f l (by rw [scrubLive, hgrant, hlive])).1 (Nat.succ_lt_succ hl)
  · exact hmem.endScrub (hmem.live f l (by rw [scrubLive, hgrant, hlive])).1

/-! ## START's memory size (R3, R150) -/

theorem frameOf_resized {s : State} (h : Table.wf FrameEntry.free s.frames.entries = true) (lower new k : Nat) :
    frameOf (updateFrames (resizeEntry lower new) s) k = resizeEntry lower new k (frameOf s k) := by
  refine frameOf_updateFrames h _ (fun f => ?_) k
  unfold resizeEntry
  split
  · rfl
  · split <;> rfl

/-- A frame's state after START: OPEN where it was RETIRED or SCRUBBING at or beyond the new size, and as it was elsewhere. -/
theorem resizeEntry_state {lower new : Nat} (hle : lower ≤ new) (k : Nat) (e : FrameEntry) :
    (resizeEntry lower new k e).state = if new ≤ k ∧ e.state.residue = true then .opened else e.state := by
  unfold resizeEntry
  by_cases hk : k < lower
  · rw [if_pos hk, if_neg (by omega)]
  · rw [if_neg hk]
    by_cases hn : new ≤ k
    · cases hstate : e.state <;> simp [hn, FrameState.residue]
    · simp [hn]

theorem ScrubLaw.setMemorySize {s : State} (h : ScrubLaw s) (new : Nat) : ScrubLaw (setMemorySize new s) := by
  unfold Machine.setMemorySize
  dsimp only
  have hwf := wf_updateFrames h.tables (resizeEntry (min (frameLimit s) new) new)
  have hstate : ∀ k, (frameOf (updateFrames (resizeEntry (min (frameLimit s) new) new) s) k).state =
      if new ≤ k ∧ (frameOf s k).state.residue = true then .opened else (frameOf s k).state := fun k => by
    rw [frameOf_resized h.tables, resizeEntry_state (by omega)]
  have hscrub : (updateFrames (resizeEntry (min (frameLimit s) new) new) s).scrub = s.scrub := rfl
  have hgrant : (updateFrames (resizeEntry (min (frameLimit s) new) new) s).port.grant = s.port.grant := rfl
  have hpower : (updateFrames (resizeEntry (min (frameLimit s) new) new) s).power = s.power := rfl
  revert hwf hstate hscrub hgrant hpower
  generalize updateFrames (resizeEntry (min (frameLimit s) new) new) s = t
  intro hwf hstate hscrub hgrant hpower
  have hresidue : ∀ k, (frameOf t k).state.residue = true ↔ k < new ∧ k ∈ s.scrub.queue := fun k => by
    rw [hstate, h.residue]
    split
    · rename_i hk; simp [FrameState.residue]; omega
    · rename_i hk
      refine ⟨fun hr => ⟨by_contra fun hn => hk ⟨by omega, hr⟩, hr⟩, And.right⟩
  have hcontrol : ∀ k, (frameOf t k).state = .control ↔ k = 0 := fun k => by
    rw [hstate, ← h.control k]
    split
    · rename_i hk
      refine ⟨nofun, fun hc => ?_⟩
      rw [hc] at hk
      exact absurd hk.2 (by decide)
    · rfl
  have honce : (s.scrub.queue.filter fun f => decide (f < new)).Nodup := h.once.filter _
  have hmem : ∀ k, k ∈ s.scrub.queue.filter (fun f => decide (f < new)) ↔ (frameOf t k).state.residue = true := fun k => by
    rw [hresidue]; simp [and_comm]
  have hscrubbing : ∀ k, (frameOf t k).state = .scrubbing ↔ k < new ∧ s.scrub.queue.head? = some k := fun k => by
    rw [hstate, ← h.head k]
    split
    · rename_i hk; simp; omega
    · rename_i hk
      refine ⟨fun hc => ⟨by_contra fun hn => hk ⟨by omega, by rw [hc]; rfl⟩, hc⟩, And.right⟩
  have hfilter : ∀ k, s.scrub.queue.head? = some k → k < new →
      (s.scrub.queue.filter fun f => decide (f < new)).head? = some k := fun k hk hnew => by
    obtain ⟨rest, hq⟩ := List.head?_eq_some_iff.mp hk
    simp [hq, hnew]
  unfold trimQueue
  dsimp only
  rw [hscrub]
  split
  · rename_i hsame
    have hempty : (s.scrub.queue.filter fun f => decide (f < new)) ≠ [] ↔ s.scrub.queue ≠ [] := by
      rw [ne_eq, ne_eq, ← List.head?_eq_none_iff, ← List.head?_eq_none_iff, hsame]
    refine ⟨hwf, hcontrol, honce, fun k => hmem k, fun k => ?_, ?_, h.lines, ?_, ?_, ?_⟩
    · refine (hscrubbing k).trans ?_
      dsimp only
      rw [hsame]
      refine ⟨And.right, fun hk => ⟨?_, hk⟩⟩
      have hin : k ∈ s.scrub.queue.filter fun f => decide (f < new) := List.mem_of_mem_head? (hsame.trans hk)
      exact of_decide_eq_true (List.mem_filter.mp hin).2
    · exact h.progress.trans hempty.symm
    · intro k l hlive
      simp only [scrubLive, hgrant] at hlive
      dsimp only
      rw [hsame]
      exact h.live k l hlive
    · exact fun ho => hempty.mpr (h.offered ho)
    · intro hon hne
      simp only [scrubLive, hgrant]
      exact h.advances (hpower.symm.trans hon) (hempty.mp hne)
  · rename_i hmoved
    refine Headless.nextHead ?_ _ .removed
    refine ⟨hwf, hcontrol, honce, fun k => hmem k, fun k hk => ?_, rfl, rfl, fun k l hlive => ?_⟩
    · obtain ⟨hnew, hhead⟩ := (hscrubbing k).mp hk
      exact hmoved ((hfilter k hhead hnew).trans hhead.symm)
    · simp only [scrubLive, abandonScrub] at hlive
      split at hlive
      · cases hlive
      · rename_i hnot
        exact hnot _ _ _ hlive

/-! ## The law of single pages, jobs and orders -/

theorem ScrubLaw.dropPage {s : State} (h : ScrubLaw s) (slot : Nat) : ScrubLaw (dropPage slot s) := by
  unfold Machine.dropPage
  split
  · exact ((h.touched (releaseTicket_touches ..)).unmarkFrames slot).touched (setPage_touches ..)
  · exact h

theorem ScrubLaw.settlePage {s : State} (h : ScrubLaw s) (slot : Nat) (o : Outcome) : ScrubLaw (settlePage slot o s) := by
  unfold Machine.settlePage
  split
  · exact h
  · dsimp only
    refine ScrubLaw.touched (ScrubLaw.unmarkFrames (ScrubLaw.touched ?_ (postEvent_touches ..)) slot) (setPage_touches ..)
    split
    · exact ((h.touched (settleResidues_touches ..)).touched (chargePage_touches ..)).touched (settleDebits_touches ..)
    · exact h

theorem scrubLaw_pageLaw : PageLaw scrubFields ScrubLaw where
  reads h hs := hs.of_same h
  quiet := rfl
  dropped h _ _ := h.dropPage _
  settled h _ _ _ := h.settlePage _ _
  tallied _ _ _ h := h.touched (setJob_touches ..)
  closing _ h _ _ := h.touched (setJob_touches ..)
  released cause h _ _ := h.releaseJob _ cause
  admitted h _ := h.touched (takeAdmission_touches ..)
  served slot lo plain n h := h.touched (servePlane_touches _ slot lo plain n)

theorem ScrubLaw.bindFramesOrder {s : State} (h : ScrubLaw s) (ps : List Nat) : ScrubLaw (bindFramesOrder ps s).1 := by
  refine checked_keeps h fun hchecks => ?_
  have hopen := hchecks ((run (arg ps 3) (arg ps 4)).any (fun f => decide ((frameOf s f).state ≠ .opened)), .plain .state 3) (by simp)
  dsimp only
  rw [bindRun_eq_setRun]
  have hbase := h.touched (setJob_touches s (arg ps 1) { jobOf s (arg ps 1) with bound := (jobOf s (arg ps 1)).bound + arg ps 4 })
  have hentry : ∀ i, i < arg ps 4 → (frameOf s (arg ps 3 + i)).state = .opened := fun i hi => by
    by_contra hne
    rw [(any_run_iff _ _ _).mpr ⟨i, hi, by simpa using hne⟩] at hopen
    cases hopen
  have hrun : ∀ n, n ≤ arg ps 4 → ScrubLaw (setRun (arg ps 3) n (fun i => ⟨.bound ⟨arg ps 1, arg ps 5 + i, none⟩, false⟩)
      (setJob (arg ps 1) { jobOf s (arg ps 1) with bound := (jobOf s (arg ps 1)).bound + arg ps 4 } s)) := by
    intro n
    induction n with
    | zero => exact fun _ => hbase
    | succ n ih =>
      intro hn
      rw [setRun_succ]
      refine (ih (by omega)).setFrame (.inr ⟨?_, rfl⟩)
      rw [frameOf_setRun, if_neg (by omega), frameOf_of_touches (setJob_touches ..), hentry n (by omega)]
      rfl
  exact hrun _ le_rfl

theorem ScrubLaw.releaseFramesOrder {s : State} (h : ScrubLaw s) (ps : List Nat) : ScrubLaw (releaseFramesOrder ps s).1 := by
  refine checked_keeps h fun hchecks => ?_
  have hbound := hchecks ((run (arg ps 3) (arg ps 4)).any (fun f => (boundTo (arg ps 1) (frameOf s f)).isNone), .plain .state 3) (by simp)
  refine h.releaseFrames _ _ ?_ fun f hf => plain_of_boundTo (j := arg ps 1) ?_
  · exact List.nodup_range.map fun a b hab => by simpa using hab
  · by_contra hnone
    rw [List.any_eq_true.mpr ⟨f, hf, by simpa using hnone⟩] at hbound
    cases hbound

theorem ScrubLaw.definePageOrder {s : State} (h : ScrubLaw s) (ps : List Nat) : ScrubLaw (definePageOrder ps s).1 := by
  refine checked_keeps h fun _ => ?_
  dsimp only
  generalize (definedPage ps _ _).frames = l
  have hbase := h.touched (setPage_touches s ((freePage s).getD 0)
    (some (definedPage ps ((planeOfCode (arg ps 4)).getD 0) ((Colour.ofCode (arg ps 5)).getD .mono))))
  revert hbase
  generalize setPage _ _ s = t
  intro hbase
  induction l generalizing t with
  | nil => exact hbase
  | cons f l ih => exact ih _ (hbase.markFrame _ f)

theorem ScrubLaw.dropPageOrder {s : State} (h : ScrubLaw s) (ps : List Nat) : ScrubLaw (dropPageOrder ps s).1 := by
  refine onPage_keeps h fun p hp _ => ?_
  split
  · exact h
  · exact h.dropPage _

theorem ScrubLaw.startOrder {s : State} (h : ScrubLaw s) (ps : List Nat) : ScrubLaw (startOrder ps s).1 := by
  refine checked_keeps h fun _ => ?_
  have hsized : ScrubLaw (modifySup (fun u => { u with period := arg ps 2, stallSeconds := arg ps 3, cold := false, provTimer := none })
      (Machine.setMemorySize (arg ps 1) s)) := { h.setMemorySize (arg ps 1) with }
  dsimp only
  split
  · exact hsized.touched (enterRun_touches _)
  · have hwait : ∀ i, ScrubLaw (modifySup (fun u => { u with startWaiting := i })
        (modifySup (fun u => { u with period := arg ps 2, stallSeconds := arg ps 3, cold := false, provTimer := none })
          (Machine.setMemorySize (arg ps 1) s))) := fun _ => { hsized with }
    exact (hwait _).touched (deferOrder_touches ..)

/-! ## Transfers and grants -/

theorem ScrubLaw.noteBreach {s : State} (h : ScrubLaw s) (p : Part) (r : PartRecord) : ScrubLaw (noteBreach p r s) := by
  unfold Machine.noteBreach
  dsimp only
  split
  · exact (h.touched (postEvent_touches ..)).setFrame (.inl (by rw [frameOf_of_touches (postEvent_touches ..)]))
  · exact h

theorem setFilter_touches (x : Filter) (s : State) : Touches [.service, .shadows, .linkAnswer] s { s with filter := x } := by
  refine .of_fields fun f hf hl => ?_; cases f <;> first | rfl | exact absurd hl (by decide) | simp at hf

theorem ScrubLaw.serveParts {s : State} (h : ScrubLaw s) (write : Bool) (parts : List Part) (data : List Byte) :
    ScrubLaw (serveParts write parts data s) := by
  induction parts generalizing data s with
  | nil => exact h.touched (setFilter_touches ..)
  | cons p rest ih =>
    have hnoted := h.noteBreach p (formRecord s p)
    unfold Machine.serveParts
    dsimp only
    split
    · exact ih ((hnoted.touched (setFilter_touches ..)).touched (handOver_touches ..)) _
    · exact hnoted.touched (setFilter_touches ..)

theorem ScrubLaw.endService {s : State} (h : ScrubLaw s) (v : Service) (data : List Byte) : ScrubLaw (endService v data s) := by
  have hhanded := h.touched (handOver_touches s v.post v.consume)
  have hended := hhanded.touched (setFilter_touches { (handOver v.post v.consume s).filter with service := none } _)
  exact (hended.touched (eraseDraining_touches _ v.record.key)).serveParts ..

theorem memoryGrant_scrubLaw {s u : State} (h : ScrubLaw s) (hu : memoryGrant s = some u) : ScrubLaw u := by
  obtain ⟨hfree, ⟨-, rfl⟩ | ⟨-, rfl⟩ | ⟨-, rfl⟩⟩ := memoryGrant_some hu
  · exact h.regrant rfl rfl rfl fun f l => by simp [scrubLive, grantLink, hfree]
  · unfold grantControl
    split
    · exact h
    · dsimp only
      split
      · exact h.regrant rfl rfl rfl fun f l => by simp [scrubLive, writeAnswer, controlWrite, hfree]
      · exact h.regrant rfl rfl rfl fun f l => by simp [scrubLive, hfree]
  · unfold grantScrub
    split
    · rename_i f rest l hq hl
      refine ⟨h.tables, h.control, h.once, h.residue, h.head, h.progress, h.lines, fun k m hlive => ?_, nofun, fun _ _ => .inr ⟨f, l, rfl⟩⟩
      obtain ⟨rfl, rfl⟩ : f = k ∧ l = m := by simpa [scrubLive] using hlive
      exact ⟨by simp [hq], hl, rfl⟩
    · exact h

theorem grant_of_fetchedOrder {s : State} {o : OrderSlot} (ho : fetchedOrder s = some o) :
    ∃ i, s.port.grant = some (.control (.fetch i)) := by
  unfold fetchedOrder at ho
  split at ho
  · exact ⟨_, ‹_›⟩
  · cases ho

theorem ScrubLaw.fetchDone {s : State} (h : ScrubLaw s) {o : OrderSlot} (ho : fetchedOrder s = some o) : ScrubLaw (fetchDone s) := by
  obtain ⟨i, hg⟩ := grant_of_fetchedOrder ho
  exact h.regrant rfl rfl rfl fun f l => by simp [scrubLive, Machine.fetchDone, hg]

theorem afterReset_scrubLaw (cold : Bool) (cut : ResetCut) (s : State) : ScrubLaw (afterReset cold cut s) := by
  have hframe : ∀ k, frameOf (afterReset cold cut s) k = if 0 = k then ⟨.control, false⟩ else FrameEntry.free := fun k => rfl
  refine ⟨rfl, fun k => ?_, List.nodup_nil, fun k => ?_, fun k => ?_, (by decide : (none : Option Nat).isSome = true ↔ ([] : List Nat) ≠ []), nofun, nofun, nofun, fun _ hne => absurd rfl hne⟩
  all_goals
    rw [hframe]
    split
    · subst k; simp [FrameState.residue, afterReset, firstHeader, cleared, State.reset]
    · simp [FrameEntry.free, FrameState.residue, afterReset, firstHeader, cleared, State.reset]; try omega

theorem scrubLaw_kept : Kept ScrubLaw ScrubLaw where
  quiet ht h := h.touched ht
  close h := h.touched (closeTake_touches _)
  take {c f s u} hf _ hu h := by
    by_cases hx : apart (footprintOf c) scrubFields = true
    · exact h.touched (take_touches hf hu) hx
    · cases c
      case transferAccept =>
        cases hf
        obtain ⟨-, -, write, rfl⟩ := acceptTransfer_some hu
        exact h.serveParts ..
      case memoryGrant => cases hf; exact memoryGrant_scrubLaw h hu
      case linkAccessPerformed =>
        cases hf
        obtain ⟨hg, v, a, -, -, rfl⟩ := linkAccess_some hu
        exact scrubLaw_pageLaw.linkPerformed h v a (by decide +kernel)
          (fun t ht hlaw => hlaw.freePort fun f l hx => by rw [ht, hg] at hx; cases hx) fun t data ht => ht.endService v data
      case scrubLinePerformed => cases hf; exact scrubPerformed_law h hu
      case unknownOrder =>
        cases hf
        obtain ⟨⟨o, ho⟩, rfl⟩ := takeUnknown_some hu
        exact (h.fetchDone ho).touched (answerAndAdvance_touches ..)
      case eventWritePerformed =>
        cases hf
        obtain ⟨r, hg, rfl⟩ := eventPerformed_some hu
        exact h.regrant rfl rfl rfl fun f l => by simp [scrubLive, freePort, hg]
      case headerWritePerformed =>
        cases hf
        obtain ⟨whole, w, hg, rfl⟩ := headerPerformed_some hu
        exact h.regrant rfl rfl rfl fun f l => by simp [scrubLive, freePort, hg]
      case stallTimerExpiry => cases hf; exact scrubLaw_pageLaw.stallExpired h hu
      case keepaliveExpiry => cases hf; exact scrubLaw_pageLaw.keepaliveExpired h hu
      all_goals first | exact absurd (by dsimp only [footprintOf]; decide +kernel) hx | cases hf
  order {c m s o} hm _ ho h := by
    refine order_keeps (h.fetchDone ho) (fun h => ?_) fun t a h => h.touched (answerAndAdvance_touches t a)
    by_cases hx : apart (footprintOf c) scrubFields = true
    · exact h.touched (act_touches hm o.params _) hx
    · cases c
      case bindFrames => cases hm; exact h.bindFramesOrder _
      case releaseFrames => cases hm; exact h.releaseFramesOrder _
      case closeJob => cases hm; exact scrubLaw_pageLaw.closeJobOrder h _
      case purgeJob => cases hm; exact scrubLaw_pageLaw.purgeJobOrder h _
      case definePage => cases hm; exact h.definePageOrder _
      case dropPage => cases hm; exact h.dropPageOrder _
      case start => cases hm; exact h.startOrder _
      case endService => cases hm; exact scrubLaw_pageLaw.endServiceOrder h []
      case keepalive => cases hm; exact scrubLaw_pageLaw.keepaliveOrder h []
      all_goals first | exact absurd (by dsimp only [footprintOf]; decide +kernel) hx | cases hm
  line {c _ _ _} hr _ _ h := by
    refine h.touched (line_touches hr _).2 ?_
    cases c <;> first | (dsimp only [footprintOf]; decide +kernel) | cases hr
  raw hr _ h := h.touched (line_touches hr _).1
  reset cold cut s _ := afterReset_scrubLaw cold cut s
  warm cut s _ := { afterReset_scrubLaw false cut s with advances := nofun }
  loss cut s h :=
    have hcut := h.touched (cutMemory_touches cut s)
    { hcut with live := nofun, advances := nofun }

end Sys2Proof.Machine

namespace Sys2Proof.Proofs

open Sys2Proof.Machine

/-- Settles O53: frames enter the queue's tail RETIRED and leave it at the head, and each line performed offers the next. -/
theorem scrubLawKept : Obligations.ScrubLawKept := by
  unfold Obligations.ScrubLawKept
  exact fun s t h ht => scrubLaw_kept.step h ht

end Sys2Proof.Proofs
end

section
/-! The law of pages and holds (O55): an account's held and inflight clicks are the provisional charges of its pages, whatever becomes of them. -/

namespace Sys2Proof.Machine

set_option Elab.async false

/-! ## Sums over the page slots -/

/-- Two sums whose terms differ in one place alone. -/
theorem sum_range_update {f g : Nat → Nat} {n k : Nat} (hk : k < n) (h : ∀ i, i ≠ k → g i = f i) :
    ((List.range n).map g).sum + f k = ((List.range n).map f).sum + g k := by
  induction n with
  | zero => omega
  | succ n ih =>
    simp only [List.range_succ, List.map_append, List.map_cons, List.map_nil, List.sum_append, List.sum_cons, List.sum_nil]
    by_cases hkn : k = n
    · subst hkn
      have : (List.range k).map g = (List.range k).map f :=
        List.map_congr_left fun i hi => h i (Nat.ne_of_lt (List.mem_range.mp hi))
      rw [this]
      omega
    · have := ih (by omega)
      rw [h n (Ne.symm hkn)]
      omega

theorem le_sum_range {f : Nat → Nat} {n k : Nat} (hk : k < n) : f k ≤ ((List.range n).map f).sum := by
  have := sum_range_update (f := f) (g := fun i => if i = k then 0 else f i) hk fun i hi => if_neg hi
  simp only [if_true] at this
  omega

/-! ## What a page adds, and what the law says of one page -/

/-- The held clicks that a page record adds to an account (R99). -/
def heldIn (s : State) (a : Nat) (r : Option Page) : Nat :=
  match r with
  | some p =>
    match p.state with
    | .ticketed c => if accountNumber s p = a then c.provisional else 0
    | _ => 0
  | none => 0

/-- The inflight clicks that a page record adds to an account (R99). -/
def inflightIn (s : State) (a : Nat) (r : Option Page) : Nat :=
  match r with
  | some p =>
    match p.state with
    | .printing c _ => if accountNumber s p = a then c.provisional else 0
    | _ => 0
  | none => 0

theorem heldBy_eq (s : State) (a slot : Nat) : heldBy s a slot = heldIn s a (pageOf s slot) := rfl
theorem inflightBy_eq (s : State) (a slot : Nat) : inflightBy s a slot = inflightIn s a (pageOf s slot) := rfl

theorem heldIn_congr {s t : State} {a : Nat} {r : Option Page} (h : ∀ p, r = some p → accountNumber t p = accountNumber s p) :
    heldIn t a r = heldIn s a r := by
  cases r with
  | none => rfl
  | some p => simp only [heldIn, h p rfl]

theorem inflightIn_congr {s t : State} {a : Nat} {r : Option Page} (h : ∀ p, r = some p → accountNumber t p = accountNumber s p) :
    inflightIn t a r = inflightIn s a r := by
  cases r with
  | none => rfl
  | some p => simp only [inflightIn, h p rfl]

/-- What the law of pages and holds says of one page. -/
structure PageLawful (s : State) (p : Page) : Prop where
  job       : p.job < 16
  live      : (jobOf s p.job).isFree = false
  opened    : (jobOf s p.job).generation = p.generation
  closing   : (jobOf s p.job).isClosing = true → p.inPrint = true
  progress  : ∀ n, p.highWater.get n ≤ p.length
  uncounted : ∀ n, p.isPrinting = false → p.sums.get n = 0
  captured  : ∀ c, p.capture = some c → (ByColour.mk c.mono c.colour).lawful ∧ c.provisional = c.of p.colour

theorem HoldsLaw.page {s : State} (h : HoldsLaw s) {slot : Nat} {p : Page} (hp : pageOf s slot = some p) : PageLawful s p where
  job := (h.opening slot p hp).1
  live := (h.opening slot p hp).2.1
  opened := (h.opening slot p hp).2.2
  closing := h.closing slot p hp
  progress n := (h.progress slot p n hp).1
  uncounted n := (h.progress slot p n hp).2
  captured c hc := h.captured slot p c hp hc

theorem HoldsLaw.slot_lt {s : State} (h : HoldsLaw s) {slot : Nat} {p : Page} (hp : pageOf s slot = some p) : slot < 32 := by
  by_contra hslot
  rw [h.slots slot (by omega)] at hp
  cases hp

/-- The law, from what it says of each page. -/
theorem HoldsLaw.of_pages {s : State} (tables : Table.wf Account.blank s.meter.accounts = true)
    (slots : ∀ slot, 32 ≤ slot → pageOf s slot = none) (pages : ∀ slot p, pageOf s slot = some p → PageLawful s p)
    (tariff : ∀ n, (s.meter.tariff.get n).lawful ∧ (s.store.tariff.get n).lawful)
    (held : ∀ a, (accountOf s a).held = ((List.range 32).map fun slot => heldIn s a (pageOf s slot)).sum)
    (inflight : ∀ a, (accountOf s a).inflight = ((List.range 32).map fun slot => inflightIn s a (pageOf s slot)).sum) : HoldsLaw s where
  tables := tables
  slots := slots
  opening slot p hp := ⟨(pages slot p hp).job, (pages slot p hp).live, (pages slot p hp).opened⟩
  closing slot p hp := (pages slot p hp).closing
  progress slot p n hp := ⟨(pages slot p hp).progress n, (pages slot p hp).uncounted n⟩
  tariff := tariff
  captured slot p c hp hc := (pages slot p hp).captured c hc
  held := held
  inflight := inflight

theorem HoldsLaw.heldIn_le {s : State} (h : HoldsLaw s) (a : Nat) {slot : Nat} (hslot : slot < 32) :
    heldIn s a (pageOf s slot) ≤ (accountOf s a).held := by
  rw [h.held a]
  exact le_sum_range (f := heldBy s a) hslot

theorem HoldsLaw.inflightIn_le {s : State} (h : HoldsLaw s) (a : Nat) {slot : Nat} (hslot : slot < 32) :
    inflightIn s a (pageOf s slot) ≤ (accountOf s a).inflight := by
  rw [h.inflight a]
  exact le_sum_range (f := inflightBy s a) hslot

/-! ## Changes of one page, of jobs, and of what the law does not read -/

/-- The fields that the law of pages and holds reads. -/
abbrev holdsFields : List Aspect := [.accounts, .pages, .jobs, .tariff, .storedTariff]

/-- One page record changes, and its account's held and inflight clicks with it. -/
theorem HoldsLaw.repage {s t : State} (h : HoldsLaw s) {slot : Nat} (hslot : slot < 32) {r : Option Page}
    (hpage : ∀ k, pageOf t k = if slot = k then r else pageOf s k) (hr : ∀ q, r = some q → PageLawful s q)
    (hjobs : t.jobs = s.jobs) (htables : Table.wf Account.blank t.meter.accounts = true) (htariff : t.meter.tariff = s.meter.tariff)
    (hstored : t.store.tariff = s.store.tariff)
    (hheld : ∀ a, (accountOf t a).held + heldIn s a (pageOf s slot) = (accountOf s a).held + heldIn s a r)
    (hinflight : ∀ a, (accountOf t a).inflight + inflightIn s a (pageOf s slot) = (accountOf s a).inflight + inflightIn s a r) :
    HoldsLaw t := by
  have hjob : ∀ j, jobOf t j = jobOf s j := fun j => congrArg (fun x => Table.get Job.fresh x j) hjobs
  have haccount : ∀ p, accountNumber t p = accountNumber s p := fun p => congrArg Job.account (hjob p.job)
  have hpages : ∀ k p, pageOf t k = some p → PageLawful s p := fun k p hp => by
    rw [hpage] at hp
    split at hp
    · exact hr p hp
    · exact h.page hp
  refine .of_pages htables (fun k hk => ?_) (fun k p hp => ?_) (by rw [htariff, hstored]; exact h.tariff) (fun a => ?_) fun a => ?_
  · rw [hpage, if_neg (by omega)]; exact h.slots k hk
  · obtain ⟨h1, h2, h3, h4, h5, h6, h7⟩ := hpages k p hp
    exact ⟨h1, by rw [hjob]; exact h2, by rw [hjob]; exact h3, by rw [hjob]; exact h4, h5, h6, h7⟩
  · have hsum := sum_range_update (f := heldBy s a) (g := fun k => heldIn t a (pageOf t k)) hslot fun i hi => by
      rw [hpage, if_neg (Ne.symm hi), heldIn_congr fun p _ => haccount p]; rfl
    have hs := h.held a
    have ht := hheld a
    simp only [hpage slot, if_true, heldBy_eq, heldIn_congr fun p _ => haccount p] at hsum hs ⊢
    omega
  · have hsum := sum_range_update (f := inflightBy s a) (g := fun k => inflightIn t a (pageOf t k)) hslot fun i hi => by
      rw [hpage, if_neg (Ne.symm hi), inflightIn_congr fun p _ => haccount p]; rfl
    have hs := h.inflight a
    have ht := hinflight a
    simp only [hpage slot, if_true, inflightBy_eq, inflightIn_congr fun p _ => haccount p] at hsum hs ⊢
    omega

/-- Jobs and accounts change, but for what the law reads of the pages' jobs and of the accounts. -/
theorem HoldsLaw.rejob {s t : State} (h : HoldsLaw s) (hpages : t.pages = s.pages)
    (hjob : ∀ slot p, pageOf s slot = some p → (jobOf t p.job).isFree = false ∧ (jobOf t p.job).generation = p.generation ∧
      accountNumber t p = accountNumber s p ∧ ((jobOf t p.job).isClosing = true → p.inPrint = true))
    (htables : Table.wf Account.blank t.meter.accounts = true)
    (haccount : ∀ a, (accountOf t a).held = (accountOf s a).held ∧ (accountOf t a).inflight = (accountOf s a).inflight)
    (htariff : ∀ n, (t.meter.tariff.get n).lawful ∧ (t.store.tariff.get n).lawful) : HoldsLaw t := by
  have hpage : ∀ k, pageOf t k = pageOf s k := fun k => congrArg (fun x => Table.get none x k) hpages
  refine .of_pages htables (fun k hk => (hpage k).trans (h.slots k hk)) (fun k p hp => ?_) htariff (fun a => ?_) fun a => ?_
  · rw [hpage] at hp
    obtain ⟨h1, -, -, -, h5, h6, h7⟩ := h.page hp
    obtain ⟨hfree, hgen, -, hclosing⟩ := hjob k p hp
    exact ⟨h1, hfree, hgen, hclosing, h5, h6, h7⟩
  · rw [(haccount a).1, h.held a]
    congr 1
    refine List.map_congr_left fun k _ => ?_
    rw [hpage, heldIn_congr fun p hp => (hjob k p hp).2.2.1]
    rfl
  · rw [(haccount a).2, h.inflight a]
    congr 1
    refine List.map_congr_left fun k _ => ?_
    rw [hpage, inflightIn_congr fun p hp => (hjob k p hp).2.2.1]
    rfl

theorem HoldsLaw.of_same {s t : State} (h : ∀ f ∈ holdsFields, f.same s t) (hs : HoldsLaw s) : HoldsLaw t := by
  have haccounts : t.meter.accounts = s.meter.accounts := h .accounts (by decide)
  have hpages : t.pages = s.pages := h .pages (by decide)
  have hjobs : t.jobs = s.jobs := h .jobs (by decide)
  have htariff : t.meter.tariff = s.meter.tariff := h .tariff (by decide)
  have hstored : t.store.tariff = s.store.tariff := h .storedTariff (by decide)
  have hjob : ∀ j, jobOf t j = jobOf s j := fun j => congrArg (fun x => Table.get Job.fresh x j) hjobs
  refine hs.rejob hpages (fun slot p hp => ?_) (haccounts ▸ hs.tables) (fun a => ?_) (by rw [htariff, hstored]; exact hs.tariff)
  · have := hs.page hp
    rw [hjob, accountNumber, hjob]
    exact ⟨this.live, this.opened, rfl, this.closing⟩
  · rw [accountOf, haccounts]
    exact ⟨rfl, rfl⟩

theorem HoldsLaw.touched {l : List Aspect} {s t : State} (h : HoldsLaw s) (ht : Touches l s t)
    (hl : apart l holdsFields = true := by decide +kernel) : HoldsLaw t :=
  h.of_same fun _ hf => ht.same_of_apart hl hf

/-- A job record replaced by one of the same state and generation. -/
theorem HoldsLaw.setJob {s : State} (h : HoldsLaw s) {j : Nat} {r : Job} (hstate : r.state = (jobOf s j).state)
    (hgen : r.generation = (jobOf s j).generation) : HoldsLaw (setJob j r s) := by
  refine h.rejob rfl (fun slot p hp => ?_) h.tables (fun a => ⟨rfl, rfl⟩) h.tariff
  have hlawful := h.page hp
  have hsame : (jobOf (Machine.setJob j r s) p.job).state = (jobOf s p.job).state ∧
      (jobOf (Machine.setJob j r s) p.job).generation = (jobOf s p.job).generation := by
    rw [jobOf_setJob]
    split
    · subst j; exact ⟨hstate, hgen⟩
    · exact ⟨rfl, rfl⟩
  refine ⟨?_, hsame.2.trans hlawful.opened, ?_, fun hc => hlawful.closing ?_⟩
  · simpa only [Job.isFree, Job.opening, hsame.1] using hlawful.live
  · simp only [accountNumber, Job.account, Job.opening, hsame.1]
  · simpa only [Job.isClosing, hsame.1] using hc

/-! ## Holds raised and lowered -/

theorem accountOf_lowerHeld (b n : Nat) (s : State) (a : Nat) :
    accountOf (lowerHeld b n s) a =
      if b = a then { accountOf s b with held := (accountOf s b).held - n } else accountOf s a := accountOf_setAccount ..

theorem accountOf_raiseHeld (b n : Nat) (s : State) (a : Nat) :
    accountOf (raiseHeld b n s) a =
      if b = a then { accountOf s b with held := (accountOf s b).held + n } else accountOf s a := accountOf_setAccount ..

theorem accountOf_raiseInflight (b n : Nat) (s : State) (a : Nat) :
    accountOf (raiseInflight b n s) a =
      if b = a then { accountOf s b with inflight := (accountOf s b).inflight + n } else accountOf s a := accountOf_setAccount ..

theorem accountOf_chargePage (b : Nat) (cls : Plane) (col : Colour) (provisional clicks : Nat) (o : Outcome) (s : State) (a : Nat) :
    accountOf (chargePage b cls col provisional clicks o s) a =
      if b = a then { accountOf s b with
        inflight := (accountOf s b).inflight - provisional, counts := (accountOf s b).counts.settle col clicks }
      else accountOf s a := accountOf_setAccount ..

theorem wf_setAccount {s : State} (h : Table.wf Account.blank s.meter.accounts = true) (a : Nat) (r : Account) :
    Table.wf Account.blank (setAccount a r s).meter.accounts = true := Table.wf_set h a r

/-- A ticket released: its account's held clicks fall by what the page added to them. -/
theorem accountOf_releaseTicket (p : Page) (s : State) (a : Nat) :
    accountOf (releaseTicket p s) a = { accountOf s a with held := (accountOf s a).held - heldIn s a (some p) } := by
  cases hstate : p.state with
  | ticketed c =>
    simp only [releaseTicket, hstate, heldIn]
    rw [accountOf_of_touches (unreserve_touches _), accountOf_lowerHeld]
    split
    · rename_i ha; rw [ha]
    · rfl
  | _ => simp [releaseTicket, hstate, heldIn]

theorem wf_releaseTicket {s : State} (h : Table.wf Account.blank s.meter.accounts = true) (p : Page) :
    Table.wf Account.blank (releaseTicket p s).meter.accounts = true := by
  unfold releaseTicket
  split
  · exact wf_setAccount h _ _
  · exact h

theorem pageOf_of_pages {s t : State} {slot : Nat} {r : Option Page} (h : t.pages = Table.set none s.pages slot r) (k : Nat) :
    pageOf t k = if slot = k then r else pageOf s k := by
  rw [pageOf, h]
  exact Table.get_set ..

/-! ## Dropped, settled and admitted pages -/

theorem inflightIn_waiting {s : State} {a : Nat} {p : Page} (h : p.inPrint = false) : inflightIn s a (some p) = 0 := by
  cases hstate : p.state <;> simp [Page.inPrint, hstate] at h <;> simp [inflightIn, hstate]

theorem HoldsLaw.dropPage {s : State} (h : HoldsLaw s) {slot : Nat} {p : Page} (hp : pageOf s slot = some p)
    (hwaiting : p.inPrint = false) : HoldsLaw (dropPage slot s) := by
  have hrest := dropPage_touches_of hp
  have hfull := dropPage_touches s slot
  have haccounts : (Machine.dropPage slot s).meter.accounts = (releaseTicket p s).meter.accounts := hrest.at .accounts
  have hle := h.heldIn_le
  refine h.repage (h.slot_lt hp) (pageOf_of_pages (dropPage_pages hp)) nofun (hfull.at .jobs)
    (haccounts ▸ wf_releaseTicket h.tables p) (hfull.at .tariff) (hfull.at .storedTariff) (fun a => ?_) fun a => ?_
  · have hle := h.heldIn_le a (h.slot_lt hp)
    rw [hp] at hle
    rw [accountOf_of_touches hrest, accountOf_releaseTicket, hp]
    simp only [heldIn] at hle ⊢
    omega
  · rw [accountOf_of_touches hrest, accountOf_releaseTicket, hp, inflightIn_waiting hwaiting]
    rfl

theorem HoldsLaw.settlePage {s : State} (h : HoldsLaw s) {slot : Nat} {p : Page} {o : Outcome} (hp : pageOf s slot = some p)
    (hprint : p.inPrint = true) (ho : o.charged = true) : HoldsLaw (settlePage slot o s) := by
  have hfull := settlePage_touches s slot o
  have hpages := pageOf_of_pages (settlePage_pages hp o)
  cases hstate : p.state with
  | staged | ticketed => simp [Page.inPrint, hstate] at hprint
  | printing c t =>
    have hrest := settlePage_printing hp hstate ho
    have haccounts : (Machine.settlePage slot o s).meter.accounts = (chargeOf p c o s).meter.accounts := hrest.at .accounts
    have hwf : Table.wf Account.blank (chargeOf p c o s).meter.accounts = true := wf_setAccount h.tables _ _
    refine h.repage (h.slot_lt hp) hpages nofun (hfull.at .jobs) (haccounts ▸ hwf) (hfull.at .tariff) (hfull.at .storedTariff)
      (fun a => ?_) fun a => ?_
    · rw [accountOf_of_touches hrest, chargeOf, accountOf_chargePage, hp]
      simp only [heldIn, hstate]
      split
      · rename_i ha; rw [ha]
      · rfl
    · have hle := h.inflightIn_le a (h.slot_lt hp)
      rw [hp] at hle
      rw [accountOf_of_touches hrest, chargeOf, accountOf_chargePage, hp]
      simp only [inflightIn, hstate] at hle ⊢
      split
      · rename_i ha
        rw [ha] at hle ⊢
        simp only [if_true] at hle
        dsimp only
        omega
      · simp
  | withheld r t =>
    have hrest := settlePage_withheld hp hstate o
    have haccounts : (Machine.settlePage slot o s).meter.accounts = s.meter.accounts := hrest.at .accounts
    refine h.repage (h.slot_lt hp) hpages nofun (hfull.at .jobs) (haccounts ▸ h.tables) (hfull.at .tariff) (hfull.at .storedTariff)
      (fun a => ?_) fun a => ?_
    · rw [accountOf_of_touches hrest, hp]; simp [heldIn, hstate]
    · rw [accountOf_of_touches hrest, hp]; simp [inflightIn, hstate]

theorem PageLawful.withState {s : State} {p : Page} (h : PageLawful s p) (st : PageState)
    (hclosing : (jobOf s p.job).isClosing = true → ({ p with state := st } : Page).inPrint = true)
    (hcount : ({ p with state := st } : Page).isPrinting = false → p.isPrinting = false)
    (hcapture : ∀ c, ({ p with state := st } : Page).capture = some c → (ByColour.mk c.mono c.colour).lawful ∧ c.provisional = c.of p.colour) :
    PageLawful s { p with state := st } :=
  ⟨h.job, h.live, h.opened, hclosing, h.progress, fun n hn => h.uncounted n (hcount hn), hcapture⟩

/-- A capture at the current tariffs is lawful (R63, R69, R100). -/
theorem HoldsLaw.currentCapture {s : State} (h : HoldsLaw s) (cls : Plane) (col : Colour) :
    (ByColour.mk (captureTariff s cls col).mono (captureTariff s cls col).colour).lawful ∧
      (captureTariff s cls col).provisional = (captureTariff s cls col).of col := by
  refine ⟨(h.tariff cls).1, ?_⟩
  cases col <;> rfl

theorem HoldsLaw.withholdPage {s : State} (h : HoldsLaw s) {slot : Nat} {p : Page} (hp : pageOf s slot = some p)
    (hwaiting : p.inPrint = false) (r : WithheldReason) : HoldsLaw (withholdPage slot p r s) := by
  have hfull := withholdPage_touches s slot p r
  have hpost : Touches posting (releaseTicket p (setPage slot (some { p with state := .withheld r s.time }) s)) (Machine.withholdPage slot p r s) :=
    postEvent_touches ..
  have haccounts : (Machine.withholdPage slot p r s).meter.accounts = _ := hpost.at .accounts
  have hnot : p.isPrinting = false := by cases hstate : p.state <;> simp [Page.inPrint, hstate] at hwaiting <;> simp [Page.isPrinting, hstate]
  refine h.repage (h.slot_lt hp) (pageOf_of_pages (withholdPage_pages ..)) (fun q hq => ?_) (hfull.at .jobs)
    (haccounts ▸ wf_releaseTicket (s := setPage slot (some { p with state := .withheld r s.time }) s) h.tables p) (hfull.at .tariff)
    (hfull.at .storedTariff) (fun a => ?_) fun a => ?_
  · cases hq
    exact (h.page hp).withState _ (fun _ => rfl) (fun _ => hnot) nofun
  · have hle := h.heldIn_le a (h.slot_lt hp)
    rw [hp] at hle
    have hgone : heldIn s a (some { p with state := .withheld r s.time }) = 0 := rfl
    rw [accountOf_of_touches hpost, accountOf_releaseTicket, accountOf_of_touches (setPage_touches ..), hp, hgone,
      heldIn_congr (s := s) (t := setPage slot (some { p with state := .withheld r s.time }) s) fun _ _ => rfl]
    dsimp only
    omega
  · rw [accountOf_of_touches hpost, accountOf_releaseTicket, accountOf_of_touches (setPage_touches ..), hp, inflightIn_waiting hwaiting]
    rfl

theorem HoldsLaw.admitPage {s : State} (h : HoldsLaw s) {slot : Nat} {p : Page} (hp : pageOf s slot = some p)
    (hwaiting : p.inPrint = false) : HoldsLaw (admitPage slot p s) := by
  have hfull := admitPage_touches s slot p
  have hpages := pageOf_of_pages (admitPage_pages slot p s)
  have hprinting : ({ p with state := admittedState p s } : Page).isPrinting = true := by
    cases hstate : p.state <;> simp [admittedState, Page.isPrinting, hstate]
  have hprints : ({ p with state := admittedState p s } : Page).inPrint = true := by
    cases hstate : p.state <;> simp [admittedState, Page.inPrint, hstate]
  cases hstate : p.state with
  | ticketed c =>
    have heq : Machine.admitPage slot p s = raiseInflight (accountNumber s p) c.provisional (lowerHeld (accountNumber s p) c.provisional
        (setPage slot (some { p with state := .printing c s.time }) s)) := by simp [Machine.admitPage, hstate]
    have haccount : ∀ a, accountOf (Machine.admitPage slot p s) a = if accountNumber s p = a then
        { accountOf s a with held := (accountOf s a).held - c.provisional, inflight := (accountOf s a).inflight + c.provisional }
        else accountOf s a := fun a => by
      rw [heq, accountOf_raiseInflight, accountOf_lowerHeld, accountOf_lowerHeld, accountOf_of_touches (setPage_touches ..),
        accountOf_of_touches (setPage_touches ..)]
      by_cases ha : accountNumber s p = a <;> simp [ha]
    refine h.repage (h.slot_lt hp) hpages (fun q hq => ?_) (hfull.at .jobs)
      (by rw [heq]; exact wf_setAccount (wf_setAccount h.tables _ _) _ _) (hfull.at .tariff) (hfull.at .storedTariff) (fun a => ?_) fun a => ?_
    · cases hq
      refine (h.page hp).withState _ (fun _ => hprints) (fun hx => by rw [hprinting] at hx; cases hx) fun d hd => ?_
      have hcapture : p.capture = some d := by simpa [admittedState, hstate, Page.capture] using hd
      exact (h.page hp).captured d hcapture
    · have hle := h.heldIn_le a (h.slot_lt hp)
      rw [hp] at hle
      rw [haccount, hp]
      simp only [heldIn, hstate, admittedState] at hle ⊢
      split at hle
      · simp [*]
      · simp [*]
    · rw [haccount, hp]
      simp only [inflightIn, hstate, admittedState, accountNumber]
      by_cases ha : accountNumber s p = a
      · simp [ha, show (jobOf s p.job).account = a from ha]
      · simp [ha, show (jobOf s p.job).account ≠ a from ha]
  | staged =>
    have heq : Machine.admitPage slot p s = reserve (raiseInflight (accountNumber s p) (captureTariff s p.sizeClass p.colour).provisional
        (setPage slot (some { p with state := .printing (captureTariff s p.sizeClass p.colour) s.time }) s)) := by
      simp [Machine.admitPage, hstate]
    have haccount : ∀ a, accountOf (Machine.admitPage slot p s) a = if accountNumber s p = a then
        { accountOf s a with inflight := (accountOf s a).inflight + (captureTariff s p.sizeClass p.colour).provisional }
        else accountOf s a := fun a => by
      rw [heq, accountOf_of_touches (reserve_touches _), accountOf_raiseInflight, accountOf_of_touches (setPage_touches ..),
        accountOf_of_touches (setPage_touches ..)]
      by_cases ha : accountNumber s p = a <;> simp [ha]
    have hwf : Table.wf Account.blank (Machine.admitPage slot p s).meter.accounts = true := by
      rw [heq, show (reserve _).meter.accounts = _ from (reserve_touches _).at .accounts]
      exact wf_setAccount h.tables _ _
    refine h.repage (h.slot_lt hp) hpages (fun q hq => ?_) (hfull.at .jobs) hwf (hfull.at .tariff) (hfull.at .storedTariff)
      (fun a => ?_) fun a => ?_
    · cases hq
      refine (h.page hp).withState _ (fun _ => hprints) (fun hx => by rw [hprinting] at hx; cases hx) fun d hd => ?_
      have hcapture : Machine.captureTariff s p.sizeClass p.colour = d := by simpa [admittedState, hstate, Page.capture] using hd
      rw [← hcapture]
      exact h.currentCapture p.sizeClass p.colour
    · rw [haccount, hp]
      simp only [heldIn, hstate, admittedState]
      split <;> rfl
    · rw [haccount, hp]
      simp only [inflightIn, hstate, admittedState, accountNumber]
      by_cases ha : accountNumber s p = a
      · simp [ha, show (jobOf s p.job).account = a from ha]
      · simp [ha, show (jobOf s p.job).account ≠ a from ha]
  | printing | withheld => simp [Page.inPrint, hstate] at hwaiting

theorem HoldsLaw.takeAdmission {s : State} (h : HoldsLaw s) {slot : Nat} {p : Page} (hp : pageOf s slot = some p) :
    HoldsLaw (takeAdmission slot p s) := by
  unfold Machine.takeAdmission
  split
  · exact h
  · rename_i hprint
    have hwaiting : p.inPrint = false := by simpa using hprint
    split
    · exact h.withholdPage hp hwaiting _
    · exact h.admitPage hp hwaiting

/-- A page record replaced by one that holds the same clicks. -/
theorem HoldsLaw.samePage {s : State} (h : HoldsLaw s) {slot : Nat} {p q : Page} (hp : pageOf s slot = some p) (hq : PageLawful s q)
    (hheld : ∀ a, heldIn s a (some q) = heldIn s a (some p)) (hinflight : ∀ a, inflightIn s a (some q) = inflightIn s a (some p)) :
    HoldsLaw (setPage slot (some q) s) := by
  refine h.repage (h.slot_lt hp) (fun k => pageOf_setPage ..) (fun x hx => by cases hx; exact hq) rfl h.tables rfl rfl (fun a => ?_) fun a => ?_
  · rw [hp, hheld]; rfl
  · rw [hp, hinflight]; rfl

/-- The end of a portion lies within the plane. -/
theorem portion_le {p : Page} {n : Plane} {lo hi a b : Nat} (h : portion p n lo hi = some (a, b)) : b ≤ p.length := by
  unfold portion at h
  dsimp only at h
  split at h
  · cases h; omega
  · cases h

theorem HoldsLaw.servePlane {s : State} (h : HoldsLaw s) (slot lo : Nat) (plain : List Byte) (n : Plane) :
    HoldsLaw (servePlane slot lo plain s n) := by
  unfold Machine.servePlane
  split
  · exact h
  · rename_i p hp
    obtain ⟨h1, h2, h3, h4, h5, h6, h7⟩ := h.page hp
    split
    · exact h
    · rename_i a b hportion
      dsimp only
      split_ifs
      · exact h
      · unfold noteGap
        split_ifs
        · exact h
        · exact HoldsLaw.touched (h.samePage (q := { p with gapPosted := true }) hp ⟨h1, h2, h3, h4, h5, h6, h7⟩ (fun _ => rfl) fun _ => rfl)
            (postEvent_touches ..)
      · refine h.samePage hp ⟨h1, h2, h3, fun hc => ?_, fun m => ?_, fun m hm => ?_, fun c hc => ?_⟩ (fun a => ?_) fun a => ?_
        · have := h4 hc
          cases hstate : p.state <;> simp [Page.inPrint, hstate] at this <;> simp [straddle, Page.inPrint, PageState.progressed, hstate]
        · simp only [straddle, Quad.get_set]
          split
          · exact portion_le hportion
          · exact h5 m
        · rw [straddle_isPrinting] at hm
          simp only [straddle, Quad.get_set, hm]
          split
          · subst m; simp [h6 n hm]
          · exact h6 m hm
        · rw [straddle_capture] at hc
          exact h7 c hc
        · cases hstate : p.state <;> simp only [straddle, heldIn, PageState.progressed, hstate] <;> rfl
        · cases hstate : p.state <;> simp only [straddle, inflightIn, PageState.progressed, hstate] <;> rfl

end Sys2Proof.Machine
end

section
/-! The law of pages and holds (O55), continued: jobs, orders, the meter store and resets, and every step. -/

namespace Sys2Proof.Machine

set_option Elab.async false

/-! ## Released frames and released jobs -/

/-- Frames that leave a job change nothing of the job records but the count of bound frames. -/
theorem jobOf_releaseFrames (j : Nat) (l : List Nat) (s : State) (i : Nat) :
    ∃ b, jobOf (l.foldl (releaseFrame j) s) i = { jobOf s i with bound := b } := by
  induction l generalizing s with
  | nil => exact ⟨_, rfl⟩
  | cons f l ih =>
    obtain ⟨b, hb⟩ := ih (releaseFrame j s f)
    refine ⟨b, hb.trans ?_⟩
    have hleave : jobOf (leaveFrame (jobOf s j).retires s f) i = jobOf s i := by
      unfold leaveFrame
      split
      · exact jobOf_of_touches (retireFrame_touches ..) i
      · rfl
    rw [releaseFrame_eq, jobOf_setJob]
    split
    · subst i; rfl
    · rw [hleave]

theorem releaseFrames_touches (j : Nat) (l : List Nat) (s : State) : Touches [.jobs, .entries, .scrub] s (l.foldl (releaseFrame j) s) :=
  .foldl (fun _ _ => releaseFrame_touches ..) l s

/-- A released job slot is FREE, and no other slot's record changes. -/
theorem jobOf_releaseJob (j : Nat) (cause : ReleaseCause) (s : State) (i : Nat) : ∃ b,
    jobOf (releaseJob j cause s) i =
      if j = i then { jobOf s i with state := .free, bound := b, key := (jobOf s i).key.destroyed s } else jobOf s i := by
  obtain ⟨b, hb⟩ := jobOf_releaseFrames j (framesOf s j) s j
  refine ⟨b, ?_⟩
  unfold releaseJob
  dsimp only
  rw [jobOf_of_touches (postEvent_touches ..), jobOf_setJob]
  split
  · subst i
    rw [hb]
  · rename_i hi
    clear hb
    generalize framesOf s j = l
    induction l generalizing s with
    | nil => rfl
    | cons f l ih =>
      rw [List.foldl_cons, ih, releaseFrame_eq, jobOf_setJob, if_neg hi]
      unfold leaveFrame
      split
      · exact jobOf_of_touches (retireFrame_touches ..) i
      · rfl

/-- Records of jobs replaced by ones of the same state and generation. -/
theorem HoldsLaw.sameJobs {s t : State} (h : HoldsLaw s) {l : List Aspect} (ht : Touches l s t)
    (hjob : ∀ i, (jobOf s i).isFree = false → (jobOf t i).state = (jobOf s i).state ∧ (jobOf t i).generation = (jobOf s i).generation)
    (hl : apart l [.accounts, .pages, .tariff, .storedTariff] = true := by decide +kernel) : HoldsLaw t := by
  have hsame : ∀ f ∈ [Aspect.accounts, .pages, .tariff, .storedTariff], f.same s t := fun f hf => ht.same_of_apart hl hf
  have haccounts : t.meter.accounts = s.meter.accounts := hsame .accounts (by decide)
  have htariff : t.meter.tariff = s.meter.tariff := hsame .tariff (by decide)
  have hstored : t.store.tariff = s.store.tariff := hsame .storedTariff (by decide)
  refine h.rejob (hsame .pages (by decide)) (fun slot p hp => ?_) (haccounts ▸ h.tables) (fun a => ?_) (by rw [htariff, hstored]; exact h.tariff)
  · have hlawful := h.page hp
    obtain ⟨hstate, hgen⟩ := hjob p.job hlawful.live
    refine ⟨?_, hgen.trans hlawful.opened, ?_, fun hc => hlawful.closing ?_⟩
    · simpa only [Job.isFree, Job.opening, hstate] using hlawful.live
    · simp only [accountNumber, Job.account, Job.opening, hstate]
    · simpa only [Job.isClosing, hstate] using hc
  · rw [accountOf, haccounts]
    exact ⟨rfl, rfl⟩

/-- A job slot without pages takes another record. -/
theorem HoldsLaw.pagelessJob {s t : State} (h : HoldsLaw s) {l : List Aspect} (ht : Touches l s t) {j : Nat}
    (hnone : ∀ slot p, pageOf s slot = some p → p.job ≠ j) (hjob : ∀ i, i ≠ j → jobOf t i = jobOf s i)
    (hl : apart l [.accounts, .pages, .tariff, .storedTariff] = true := by decide +kernel) : HoldsLaw t := by
  have hsame : ∀ f ∈ [Aspect.accounts, .pages, .tariff, .storedTariff], f.same s t := fun f hf => ht.same_of_apart hl hf
  have haccounts : t.meter.accounts = s.meter.accounts := hsame .accounts (by decide)
  have htariff : t.meter.tariff = s.meter.tariff := hsame .tariff (by decide)
  have hstored : t.store.tariff = s.store.tariff := hsame .storedTariff (by decide)
  refine h.rejob (hsame .pages (by decide)) (fun slot p hp => ?_) (haccounts ▸ h.tables) (fun a => ?_) (by rw [htariff, hstored]; exact h.tariff)
  · have hlawful := h.page hp
    rw [accountNumber, hjob _ (hnone slot p hp)]
    exact ⟨hlawful.live, hlawful.opened, rfl, hlawful.closing⟩
  · rw [accountOf, haccounts]
    exact ⟨rfl, rfl⟩

theorem HoldsLaw.mem_pagesOf {s : State} (h : HoldsLaw s) {slot : Nat} {p : Page} (hp : pageOf s slot = some p) {f : Page → Bool}
    (hf : f p = true) : slot ∈ pagesOf s p.job f :=
  Machine.mem_pagesOf.mpr ⟨h.slot_lt hp, p, hp, rfl, (h.page hp).opened.symm, hf⟩

theorem HoldsLaw.releaseJob {s : State} (h : HoldsLaw s) {j : Nat} (cause : ReleaseCause) (hnone : ∀ slot, slot ∉ pagesOf s j Page.inPrint)
    (hrest : (jobOf s j).isClosing = true ∨ ∀ slot f, slot ∉ pagesOf s j f) : HoldsLaw (releaseJob j cause s) := by
  refine h.pagelessJob (j := j) (releaseJob_touches s j cause) (fun slot p hp hj => ?_) fun i hi => ?_
  · subst hj
    obtain hclosing | hall := hrest
    · exact hnone slot (h.mem_pagesOf hp ((h.page hp).closing hclosing))
    · exact hall slot (fun _ => true) (h.mem_pagesOf hp rfl)
  · obtain ⟨b, hb⟩ := jobOf_releaseJob j cause s i
    rw [hb, if_neg (Ne.symm hi)]

theorem HoldsLaw.closeSlot {s : State} (h : HoldsLaw s) {j : Nat} {o : Opening} (i : Index) (hactive : (jobOf s j).state = .active o)
    (hprint : ∀ slot p, slot < 32 → pageOf s slot = some p → p.job = j → p.generation = (jobOf s j).generation → p.inPrint = true) :
    HoldsLaw (Machine.setJob j { jobOf s j with state := .closing o i } s) := by
  refine h.rejob rfl (fun slot p hp => ?_) h.tables (fun a => ⟨rfl, rfl⟩) h.tariff
  have hlawful := h.page hp
  rw [accountNumber, jobOf_setJob]
  split
  · rename_i hj
    subst hj
    refine ⟨rfl, hlawful.opened, ?_, fun _ => hprint slot p (h.slot_lt hp) hp rfl hlawful.opened.symm⟩
    simp only [Job.account, Job.opening, accountNumber, hactive]
  · exact ⟨hlawful.live, hlawful.opened, rfl, hlawful.closing⟩

theorem holdsLaw_pageLaw : PageLaw holdsFields HoldsLaw where
  reads h hs := hs.of_same h
  quiet := rfl
  dropped h hp hw := h.dropPage hp hw
  settled h hp hw ho := h.settlePage hp hw ho
  tallied _ _ _ h := h.setJob rfl rfl
  closing i h hj hp := h.closeSlot i hj hp
  released cause h hnone hrest := h.releaseJob cause hnone hrest
  admitted h hp := h.takeAdmission hp
  served slot lo plain n h := h.servePlane slot lo plain n

/-! ## The orders -/

/-- An account record replaced by one of the same held and inflight clicks. -/
theorem HoldsLaw.setAccount {s : State} (h : HoldsLaw s) {a : Nat} {r : Account} (hheld : r.held = (accountOf s a).held)
    (hinflight : r.inflight = (accountOf s a).inflight) : HoldsLaw (setAccount a r s) := by
  refine h.rejob rfl (fun slot p hp => ?_) (wf_setAccount h.tables _ _) (fun b => ?_) h.tariff
  · have hlawful := h.page hp
    exact ⟨hlawful.live, hlawful.opened, rfl, hlawful.closing⟩
  · rw [accountOf_setAccount]
    split
    · subst b; exact ⟨hheld, hinflight⟩
    · exact ⟨rfl, rfl⟩

theorem freePage_free {s : State} {slot : Nat} (h : freePage s = some slot) : slot < 32 ∧ pageOf s slot = none :=
  ⟨List.mem_range.mp (List.mem_of_find?_eq_some h), by simpa using List.find?_some h⟩

theorem HoldsLaw.definePageOrder {s : State} (h : HoldsLaw s) (ps : List Nat) : HoldsLaw (definePageOrder ps s).1 := by
  refine checked_keeps h fun hchecks => ?_
  have hsome : (freePage s).isNone = false := hchecks ((freePage s).isNone, .plain .busy 0) (by simp [defineChecks])
  have hjob : decide (15 < arg ps 1) = false := hchecks (decide (15 < arg ps 1), .plain .range 1) (by simp [defineChecks])
  have hfresh : staleGeneration s (arg ps 1) (arg ps 2) = false :=
    hchecks (staleGeneration s (arg ps 1) (arg ps 2), .plain .stale 2) (by simp [defineChecks])
  have hactive : (!(jobOf s (arg ps 1)).isActive) = false := hchecks (!(jobOf s (arg ps 1)).isActive, .plain .state 1) (by simp [defineChecks])
  obtain ⟨slot, hslot⟩ := Option.isSome_iff_exists.mp (Option.not_isNone _ ▸ congrArg (!·) hsome)
  obtain ⟨hlt, hfree⟩ := freePage_free hslot
  refine HoldsLaw.touched ?_ (.foldl (fun _ _ => markFrame_touches ..) _ _)
  rw [hslot, Option.getD_some]
  refine h.repage hlt (fun k => pageOf_setPage ..) (fun q hq => ?_) rfl h.tables rfl rfl (fun a => ?_) fun a => ?_
  · cases hq
    have hstate : ∃ o, (jobOf s (arg ps 1)).state = .active o := by
      cases hstate : (jobOf s (arg ps 1)).state <;> simp [Job.isActive, hstate] at hactive
      exact ⟨_, rfl⟩
    obtain ⟨o, hstate⟩ := hstate
    refine ⟨?_, ?_, ?_, fun hc => ?_, fun n => ?_, fun n _ => ?_, nofun⟩
    · have := of_decide_eq_false hjob
      simp only [definedPage]
      omega
    · simp [definedPage, Job.isFree, Job.opening, hstate]
    · have := of_decide_eq_false hfresh
      simpa [definedPage] using Eq.symm (by simpa using this)
    · simp [definedPage, Job.isClosing, hstate] at hc
    · simp [definedPage, Quad.get_all]
    · simp [definedPage, Quad.get_all]
  · rw [hfree]; rfl
  · rw [hfree]; rfl

theorem HoldsLaw.ticketPageOrder {s : State} (h : HoldsLaw s) (ps : List Nat) : HoldsLaw (ticketPageOrder ps s).1 := by
  refine onPage_keeps h fun p hp _ => ?_
  split
  · rename_i hstate
    refine checked_keeps h fun _ => ?_
    have hwaiting : p.inPrint = false := by simp [Page.inPrint, hstate]
    refine HoldsLaw.touched ?_ (reserve_touches _)
    have haccount : ∀ a, accountOf (raiseHeld (accountNumber s p) (captureTariff s p.sizeClass p.colour).provisional
        (setPage (arg ps 3) (some { p with state := .ticketed (captureTariff s p.sizeClass p.colour) }) s)) a = if accountNumber s p = a then
        { accountOf s a with held := (accountOf s a).held + (captureTariff s p.sizeClass p.colour).provisional } else accountOf s a := fun a => by
      rw [accountOf_raiseHeld, accountOf_of_touches (setPage_touches ..), accountOf_of_touches (setPage_touches ..)]
      by_cases ha : accountNumber s p = a <;> simp [ha]
    refine h.repage (h.slot_lt hp) (fun k => (pageOf_of_touches (raiseHeld_touches ..) k).trans (pageOf_setPage ..)) (fun q hq => ?_) rfl
      (wf_setAccount h.tables _ _) rfl rfl (fun a => ?_) fun a => ?_
    · cases hq
      refine (h.page hp).withState _ (fun hc => ?_) (fun _ => by simp [Page.isPrinting, hstate]) fun c hc => ?_
      · exact absurd ((h.page hp).closing hc) (by simp [hwaiting])
      · have hcapture : captureTariff s p.sizeClass p.colour = c := by simpa [Page.capture] using hc
        rw [← hcapture]
        exact h.currentCapture p.sizeClass p.colour
    · rw [haccount, hp]
      simp only [heldIn, hstate, accountNumber]
      by_cases ha : accountNumber s p = a
      · simp [ha, show (jobOf s p.job).account = a from ha]
      · simp [ha, show (jobOf s p.job).account ≠ a from ha]
    · rw [haccount, hp]
      simp only [inflightIn, hstate]
      split <;> rfl
  all_goals exact h

theorem HoldsLaw.unticketPageOrder {s : State} (h : HoldsLaw s) (ps : List Nat) : HoldsLaw (unticketPageOrder ps s).1 := by
  refine onPage_keeps h fun p hp _ => ?_
  split
  · exact h
  · rename_i c hstate
    have hwaiting : p.inPrint = false := by simp [Page.inPrint, hstate]
    have hrest := releaseTicket_touches (setPage (arg ps 3) (some { p with state := .staged }) s) p
    refine h.repage (h.slot_lt hp) (fun k => (pageOf_of_touches hrest k).trans (pageOf_setPage ..)) (fun q hq => ?_) (hrest.at .jobs)
      (wf_releaseTicket (s := setPage (arg ps 3) (some { p with state := .staged }) s) h.tables p) (hrest.at .tariff) (hrest.at .storedTariff)
      (fun a => ?_) fun a => ?_
    · cases hq
      refine (h.page hp).withState _ (fun hc => ?_) (fun _ => by simp [Page.isPrinting, hstate]) nofun
      exact absurd ((h.page hp).closing hc) (by simp [hwaiting])
    · have hle := h.heldIn_le a (h.slot_lt hp)
      have hgone : heldIn s a (some { p with state := .staged }) = 0 := rfl
      rw [hp] at hle
      rw [accountOf_releaseTicket, accountOf_of_touches (setPage_touches ..), hp, hgone,
        heldIn_congr (s := s) (t := setPage (arg ps 3) (some { p with state := .staged }) s) fun _ _ => rfl]
      dsimp only
      omega
    · rw [accountOf_releaseTicket, accountOf_of_touches (setPage_touches ..), hp, inflightIn_waiting hwaiting]
      rfl
  all_goals exact h

theorem HoldsLaw.dropPageOrder {s : State} (h : HoldsLaw s) (ps : List Nat) : HoldsLaw (dropPageOrder ps s).1 := by
  refine onPage_keeps h fun p hp _ => ?_
  split
  · exact h
  · exact h.dropPage hp (by simpa using ‹¬ p.inPrint = true›)

theorem freeJob_free {s : State} {j : Nat} (h : freeJob s = some j) : j < 16 ∧ (jobOf s j).isFree = true ∧ (jobOf s j).key = .empty := by
  have hfree := List.find?_some h
  simp only [Bool.and_eq_true, decide_eq_true_eq] at hfree
  exact ⟨List.mem_range.mp (List.mem_of_find?_eq_some h), hfree⟩

theorem HoldsLaw.openJobOrder {s : State} (h : HoldsLaw s) (ps : List Nat) : HoldsLaw (openJobOrder ps s).1 := by
  refine checked_keeps h fun hchecks => ?_
  have hsome : (freeJob s).isNone = false := hchecks ((freeJob s).isNone, .plain .busy 0) (by simp)
  obtain ⟨j, hj⟩ := Option.isSome_iff_exists.mp (Option.not_isNone _ ▸ congrArg (!·) hsome)
  obtain ⟨-, hfree, -⟩ := freeJob_free hj
  dsimp only
  rw [hj, Option.getD_some]
  refine h.pagelessJob (j := j) (openSlot_touches ..) (fun slot p hp hpj => ?_) fun i hi => ?_
  · have hlive := (h.page hp).live
    rw [hpj, hfree] at hlive
    cases hlive
  · unfold openSlot
    dsimp only
    rw [jobOf_setJob, if_neg (Ne.symm hi)]
    rfl

theorem HoldsLaw.bindFramesOrder {s : State} (h : HoldsLaw s) (ps : List Nat) : HoldsLaw (bindFramesOrder ps s).1 := by
  refine checked_keeps h fun _ => HoldsLaw.touched ?_ (bindRun_touches ..)
  exact h.setJob rfl rfl

theorem HoldsLaw.releaseFramesOrder {s : State} (h : HoldsLaw s) (ps : List Nat) : HoldsLaw (releaseFramesOrder ps s).1 := by
  refine checked_keeps h fun _ => h.sameJobs (releaseFrames_touches ..) fun i _ => ?_
  obtain ⟨b, hb⟩ := jobOf_releaseFrames (arg ps 1) (run (arg ps 3) (arg ps 4)) s i
  rw [hb]
  exact ⟨rfl, rfl⟩

theorem HoldsLaw.setTariffOrder {s : State} (h : HoldsLaw s) (ps : List Nat) : HoldsLaw (setTariffOrder ps s).1 := by
  unfold Machine.setTariffOrder
  dsimp only
  split
  · exact h
  · rename_i cls _
    refine checked_keeps h fun hchecks => HoldsLaw.touched ?_ (markDirty_touches ..)
    simp only [List.mem_cons, List.not_mem_nil, or_false, forall_eq_or_imp, forall_eq, Bool.or_eq_false_iff, decide_eq_false_iff_not] at hchecks
    obtain ⟨⟨hmono, hmonoTop⟩, ⟨hcolour, hcolourTop⟩, hle⟩ := hchecks
    refine h.rejob rfl (fun slot p hp => ?_) h.tables (fun a => ⟨rfl, rfl⟩) fun n => ⟨?_, (h.tariff n).2⟩
    · have hlawful := h.page hp
      exact ⟨hlawful.live, hlawful.opened, rfl, hlawful.closing⟩
    · dsimp only
      rw [Quad.get_set]
      split
      · simp only [ByColour.lawful]; omega
      · exact (h.tariff n).1

theorem HoldsLaw.setAccountOrder {s : State} (h : HoldsLaw s) (ps : List Nat) : HoldsLaw (setAccountOrder ps s).1 := by
  unfold Machine.setAccountOrder
  dsimp only
  split
  · exact h
  · exact h
  · refine checked_keeps h fun _ => HoldsLaw.touched ?_ (markDirty_touches ..)
    exact h.setAccount rfl rfl

theorem HoldsLaw.creditAccountOrder {s : State} (h : HoldsLaw s) (ps : List Nat) : HoldsLaw (creditAccountOrder ps s).1 := by
  refine checked_keeps h fun _ => HoldsLaw.touched (HoldsLaw.touched ?_ (appendEntry_touches ..)) (noteFull_touches ..)
  exact h.setAccount rfl rfl

/-- What ROLL PERIOD makes of an account. -/
theorem accountOf_rolled {s : State} (h : Table.wf Account.blank s.meter.accounts = true) (a : Nat) :
    Table.get Account.blank (Table.update Account.blank (fun _ r => { r with counts := r.counts.roll }) s.meter.accounts) a =
      { accountOf s a with counts := (accountOf s a).counts.roll } :=
  Table.get_update h _ (fun _ => rfl) a

theorem HoldsLaw.rollPeriodOrder {s : State} (h : HoldsLaw s) (ps : List Nat) : HoldsLaw (rollPeriodOrder ps s).1 := by
  refine checked_keeps h fun _ => HoldsLaw.touched (HoldsLaw.touched ?_ (appendEntry_touches ..)) (noteFull_touches ..)
  refine h.rejob rfl (fun slot p hp => ?_) (Table.wf_update (f := fun _ r => { r with counts := r.counts.roll }) h.tables) (fun a => ?_) h.tariff
  · have hlawful := h.page hp
    exact ⟨hlawful.live, hlawful.opened, rfl, hlawful.closing⟩
  · rw [accountOf, accountOf_rolled h.tables]
    exact ⟨rfl, rfl⟩

/-! ## Erased keys, the meter store, resets -/

/-- A record of a table changed where neither it nor its change is the default. -/
theorem Table.get_update_of_ne {α : Type} [DecidableEq α] {d : α} {t : Table α} {f : Nat → α → α} {k : Nat}
    (h : Table.get d t k ≠ d) (hf : f k (Table.get d t k) ≠ d) : Table.get d (Table.update d f t) k = f k (Table.get d t k) := by
  induction t with
  | nil => exact absurd rfl h
  | cons e t ih =>
    obtain ⟨i, v⟩ := e
    by_cases hi : i = k
    · subst hi
      simp only [Table.get, if_true] at hf ⊢
      simp [Table.update, Table.get, hf]
    · simp only [Table.get, if_neg hi] at h hf ⊢
      rw [← ih h hf]
      unfold Table.update
      rw [List.map_cons, List.filter_cons]
      split
      · simp [Table.get, hi]
      · rfl

theorem Job.erased_state (k : Key) (r : Job) : (r.erased k).state = r.state ∧ (r.erased k).generation = r.generation := by
  unfold Job.erased
  split <;> exact ⟨rfl, rfl⟩

theorem HoldsLaw.eraseDraining {s : State} (h : HoldsLaw s) (key : Option Key) : HoldsLaw (eraseDraining key s) := by
  refine h.sameJobs (eraseDraining_touches ..) fun i hlive => ?_
  cases key with
  | none => exact ⟨rfl, rfl⟩
  | some k =>
    have hne : ∀ r : Job, r.isFree = false → r ≠ Job.fresh := fun r hr heq => by rw [heq] at hr; cases hr
    have hsame := Job.erased_state k (jobOf s i)
    rw [Machine.eraseDraining, jobOf, Table.get_update_of_ne (hne _ hlive) (hne _ ?_)]
    · exact hsame
    · exact (congrArg (fun x => Option.isNone (Job.opening { jobOf s i with state := x })) hsame.1).trans hlive

theorem HoldsLaw.endService {s : State} (h : HoldsLaw s) (v : Service) (data : List Byte) : HoldsLaw (endService v data s) := by
  have hhand := h.touched (handOver_touches s v.post v.consume)
  refine HoldsLaw.touched (HoldsLaw.eraseDraining ?_ _) (serveParts_touches ..)
  exact hhand.of_same fun f hf => by fin_cases hf <;> rfl

theorem committed_tariff (w : StoreWrite) (s : State) :
    (committed w s).tariff = s.meter.tariff ∨ (committed w s).tariff = s.store.tariff := by
  unfold committed
  cases w with
  | block b => cases b <;> simp [writeBlock]
  | fold e a totals => cases a <;> cases totals <;> simp [foldInto]

theorem HoldsLaw.committed {s : State} (h : HoldsLaw s) (w : StoreWrite) (n : Plane) : ((Machine.committed w s).tariff.get n).lawful := by
  obtain hw | hw := committed_tariff w s <;> rw [hw]
  · exact (h.tariff n).1
  · exact (h.tariff n).2

theorem HoldsLaw.cutStore {s : State} (h : HoldsLaw s) (cut : ResetCut) (n : Plane) : ((Machine.cutStore cut s).tariff.get n).lawful := by
  obtain hs | ⟨w, k, -, hs⟩ := cutStore_cases cut s <;> rw [hs]
  · exact (h.tariff n).2
  · exact h.committed w n

/-- The store's tariff replaced by a lawful one. -/
theorem HoldsLaw.restore {s t : State} (h : HoldsLaw s) {l : List Aspect} (ht : Touches l s t) (htariff : ∀ n, (t.store.tariff.get n).lawful)
    (hl : apart l [.accounts, .pages, .jobs, .tariff] = true := by decide +kernel) : HoldsLaw t := by
  have hsame : ∀ f ∈ [Aspect.accounts, .pages, .jobs, .tariff], f.same s t := fun f hf => ht.same_of_apart hl hf
  have haccounts : t.meter.accounts = s.meter.accounts := hsame .accounts (by decide)
  have hmeter : t.meter.tariff = s.meter.tariff := hsame .tariff (by decide)
  have hjobs : t.jobs = s.jobs := hsame .jobs (by decide)
  have hjob : ∀ j, jobOf t j = jobOf s j := fun j => congrArg (fun x => Table.get Job.fresh x j) hjobs
  refine h.rejob (hsame .pages (by decide)) (fun slot p hp => ?_) (haccounts ▸ h.tables) (fun a => ?_) fun n => ⟨hmeter ▸ (h.tariff n).1, htariff n⟩
  · have hlawful := h.page hp
    rw [accountNumber, hjob]
    exact ⟨hlawful.live, hlawful.opened, rfl, hlawful.closing⟩
  · rw [accountOf, haccounts]
    exact ⟨rfl, rfl⟩

theorem HoldsLaw.storeWriteDone {s u : State} (h : HoldsLaw s) {good : Bool} (hu : storeWriteDone good s = some u) : HoldsLaw u := by
  obtain ⟨w, n, -, ⟨-, rfl⟩ | ⟨-, -, rfl⟩ | ⟨-, -, rfl⟩⟩ := storeWriteDone_some hu
  · exact h.restore (commitWrite_touches s w) (h.committed w)
  · exact h.of_same fun f hf => by fin_cases hf <;> rfl
  · split
    · exact h.touched (failStore_touches ..)
    · exact HoldsLaw.touched (h.touched (failStore_touches ..)) (reportFold_touches _)

theorem HoldsLaw.afterReset {s : State} (h : HoldsLaw s) (cold : Bool) (cut : ResetCut) : HoldsLaw (afterReset cold cut s) := by
  have hpage : ∀ k, pageOf (Machine.afterReset cold cut s) k = none := fun _ => rfl
  have hzero : ∀ a, (accountOf (Machine.afterReset cold cut s) a).held = 0 ∧ (accountOf (Machine.afterReset cold cut s) a).inflight = 0 := by
    intro a
    have haccount : accountOf (Machine.afterReset cold cut s) a = if a < 256 then loadedAccount (Machine.cutStore cut s) a else Account.blank :=
      Table.get_ofFn ..
    rw [haccount]
    split <;> exact ⟨rfl, rfl⟩
  refine .of_pages (Table.wf_ofFn _ _ _) (fun _ _ => rfl) nofun (fun n => ⟨h.cutStore cut n, h.cutStore cut n⟩) (fun a => ?_) fun a => ?_
  · rw [(hzero a).1]; simp [hpage, heldIn]
  · rw [(hzero a).2]; simp [hpage, inflightIn]

theorem HoldsLaw.lost {s : State} (h : HoldsLaw s) (cut : ResetCut) : HoldsLaw (lost cut s) := by
  have hcut := h.touched (cutMemory_touches cut s)
  refine hcut.rejob rfl (fun slot p hp => ?_) hcut.tables (fun a => ⟨rfl, rfl⟩) fun n => ⟨(hcut.tariff n).1, h.cutStore cut n⟩
  have hlawful := hcut.page hp
  exact ⟨hlawful.live, hlawful.opened, rfl, hlawful.closing⟩

/-! ## Every step -/

theorem holdsLaw_kept : Kept HoldsLaw HoldsLaw where
  quiet ht h := h.touched ht
  close h := h.touched (closeTake_touches _)
  take {c f s u} hf _ hu h := by
    by_cases hx : apart (footprintOf c) holdsFields = true
    · exact h.touched (take_touches hf hu) hx
    · cases c
      case linkAccessPerformed =>
        cases hf
        obtain ⟨-, v, a, -, -, rfl⟩ := linkAccess_some hu
        exact holdsLaw_pageLaw.linkPerformed h v a (by decide +kernel) (fun t _ ht => ht.touched (freePort_touches t))
          fun t data ht => ht.endService v data
      case stallTimerExpiry => cases hf; exact holdsLaw_pageLaw.stallExpired h hu
      case keepaliveExpiry => cases hf; exact holdsLaw_pageLaw.keepaliveExpired h hu
      case storeWriteDone => cases hf; exact h.storeWriteDone hu
      all_goals first | exact absurd (by dsimp only [footprintOf]; decide +kernel) hx | cases hf
  order {c m s o} hm _ ho h := by
    refine order_keeps (h.touched (fetchDone_touches s)) (fun h => ?_) fun t a h => h.touched (answerAndAdvance_touches t a)
    by_cases hx : apart (footprintOf c) holdsFields = true
    · exact h.touched (act_touches hm o.params _) hx
    · cases c
      case bindFrames => cases hm; exact h.bindFramesOrder _
      case releaseFrames => cases hm; exact h.releaseFramesOrder _
      case openJob => cases hm; exact h.openJobOrder _
      case closeJob => cases hm; exact holdsLaw_pageLaw.closeJobOrder h _
      case purgeJob => cases hm; exact holdsLaw_pageLaw.purgeJobOrder h _
      case definePage => cases hm; exact h.definePageOrder _
      case ticketPage => cases hm; exact h.ticketPageOrder _
      case unticketPage => cases hm; exact h.unticketPageOrder _
      case dropPage => cases hm; exact h.dropPageOrder _
      case setAccount => cases hm; exact h.setAccountOrder _
      case setTariff => cases hm; exact h.setTariffOrder _
      case rollPeriod => cases hm; exact h.rollPeriodOrder []
      case creditAccount => cases hm; exact h.creditAccountOrder _
      case endService => cases hm; exact holdsLaw_pageLaw.endServiceOrder h []
      case keepalive => cases hm; exact holdsLaw_pageLaw.keepaliveOrder h []
      all_goals first | exact absurd (by dsimp only [footprintOf]; decide +kernel) hx | cases hm
  line {c _ _ _} hr _ _ h := by
    refine h.touched (line_touches hr _).2 ?_
    cases c <;> first | (dsimp only [footprintOf]; decide +kernel) | cases hr
  raw hr _ h := h.touched (line_touches hr _).1
  reset cold cut _ h := h.afterReset cold cut
  warm cut _ h := { h.afterReset false cut with }
  loss cut _ h := h.lost cut

end Sys2Proof.Machine

namespace Sys2Proof.Proofs

open Sys2Proof.Machine

/-- Settles O55: each change of a page's record goes with the change of its account's held and inflight clicks. -/
theorem holdsLawKept : Obligations.HoldsLawKept := by
  unfold Obligations.HoldsLawKept
  exact fun s t h ht => holdsLaw_kept.step h ht

end Sys2Proof.Proofs
end

section
/-! The law of the books (O56): the counts and totals in use are those that a load of the meter store gives, whatever the journal, the fold and a loss of
power do. -/

namespace Sys2Proof.Machine

set_option Elab.async false

/-! ## The load of a store (R116) -/

/-- The counts block of an account after a load: every journal entry applied in order. -/
def loadedCounts (st : Store) (a : Nat) : CountsBlock := st.journal.foldl (foldCounts a) (Table.get CountsBlock.blank st.counts a)

/-- The totals block after a load. -/
def loadedTotals (st : Store) : TotalsBlock := st.journal.foldl foldTotals st.totals

theorem loadedAccount_counts (st : Store) (a : Nat) : (loadedAccount st a).counts = (loadedCounts st a).counts := rfl

/-- What the law of the books says of the store alone: sequences rise, and none passes the last. -/
structure StoreLaw (st : Store) : Prop where
  rising   : (st.journal.map (·.sequence)).Pairwise (· < ·)
  ceiling  : ∀ e ∈ st.journal, e.sequence ≤ st.lastSeq
  folded   : ∀ a, (Table.get CountsBlock.blank st.counts a).lastFolded ≤ st.lastSeq
  foldedTo : st.totals.lastFolded ≤ st.lastSeq

/-- Two stores give the same counts and totals at a load. -/
structure SameLoad (st st' : Store) : Prop where
  counts : ∀ a, a < 256 → (loadedCounts st' a).counts = (loadedCounts st a).counts
  totals : (loadedTotals st').totals = (loadedTotals st).totals

theorem BooksLaw.storeLaw {s : State} (h : BooksLaw s) : StoreLaw s.store := ⟨h.rising, h.ceiling, h.folded, h.foldedTo⟩

/-- The law of the books of a state whose meters follow the load of its store as those of another did. -/
theorem BooksLaw.of_load {s t : State} (h : BooksLaw s) (tables : Table.wf Account.blank t.meter.accounts = true)
    (counts : ∀ a, (accountOf t a).counts = (accountOf s a).counts) (totals : t.meter.totals = s.meter.totals)
    (hstore : StoreLaw t.store) (hload : SameLoad s.store t.store)
    (hwrite : ∀ e a x n, t.meter.write = some (.fold e a x, n) → t.store.journal.head? = some e ∧ entryWrite t.store e = some (.fold e a x)) :
    BooksLaw t where
  tables := tables
  counts a ha := by rw [counts a, h.counts a ha, loadedAccount_counts, loadedAccount_counts, hload.counts a ha]
  totals := by rw [totals, h.totals]; exact hload.totals.symm
  rising := hstore.rising
  ceiling := hstore.ceiling
  folded := hstore.folded
  foldedTo := hstore.foldedTo
  write := hwrite

/-- The fields that the law of the books reads. -/
abbrev booksFields : List Aspect := [.accounts, .totals, .journal, .lastSeq, .storedCounts, .storedTotals, .write]

theorem entryWrite_congr {st st' : Store} (hcounts : st'.counts = st.counts) (htotals : st'.totals = st.totals) (e : Entry) :
    entryWrite st' e = entryWrite st e := by
  have hcountsTake : countsTake st' e = countsTake st e := funext fun a => by simp only [countsTake, hcounts]
  have htotalsTake : totalsTake st' e = totalsTake st e := by simp only [totalsTake, htotals]
  simp only [entryWrite, hcountsTake, htotalsTake]

/-- Accounts change, but not their counts. -/
theorem BooksLaw.recount {s t : State} (h : BooksLaw s) {l : List Aspect} (ht : Touches l s t)
    (tables : Table.wf Account.blank t.meter.accounts = true) (counts : ∀ a, (accountOf t a).counts = (accountOf s a).counts)
    (hl : apart l [.totals, .journal, .lastSeq, .storedCounts, .storedTotals, .write] = true := by decide +kernel) : BooksLaw t := by
  have hsame : ∀ f ∈ [Aspect.totals, .journal, .lastSeq, .storedCounts, .storedTotals, .write], f.same s t := fun f hf => ht.same_of_apart hl hf
  have htotals : t.meter.totals = s.meter.totals := hsame .totals (by decide)
  have hjournal : t.store.journal = s.store.journal := hsame .journal (by decide)
  have hseq : t.store.lastSeq = s.store.lastSeq := hsame .lastSeq (by decide)
  have hstored : t.store.counts = s.store.counts := hsame .storedCounts (by decide)
  have hblock : t.store.totals = s.store.totals := hsame .storedTotals (by decide)
  have hwrite : t.meter.write = s.meter.write := hsame .write (by decide)
  refine h.of_load tables counts htotals ?_ ?_ fun e a x n hw => ?_
  · refine ⟨hjournal ▸ h.rising, ?_, ?_, ?_⟩ <;> simp only [hjournal, hseq, hstored, hblock]
    · exact h.ceiling
    · exact h.folded
    · exact h.foldedTo
  · exact ⟨fun a _ => by simp only [loadedCounts, hjournal, hstored], by simp only [loadedTotals, hjournal, hblock]⟩
  · rw [hwrite] at hw
    rw [hjournal, entryWrite_congr hstored hblock]
    exact h.write e a x n hw

theorem BooksLaw.of_same {s t : State} (h : ∀ f ∈ booksFields, f.same s t) (hs : BooksLaw s) : BooksLaw t := by
  have haccounts : t.meter.accounts = s.meter.accounts := h .accounts (by decide)
  have htotals : t.meter.totals = s.meter.totals := h .totals (by decide)
  have hjournal : t.store.journal = s.store.journal := h .journal (by decide)
  have hseq : t.store.lastSeq = s.store.lastSeq := h .lastSeq (by decide)
  have hstored : t.store.counts = s.store.counts := h .storedCounts (by decide)
  have hblock : t.store.totals = s.store.totals := h .storedTotals (by decide)
  have hwrite : t.meter.write = s.meter.write := h .write (by decide)
  refine hs.of_load (haccounts ▸ hs.tables) (fun a => by rw [accountOf, haccounts]; rfl) htotals ?_ ?_ fun e a x n hw => ?_
  · refine ⟨hjournal ▸ hs.rising, ?_, ?_, ?_⟩ <;> simp only [hjournal, hseq, hstored, hblock]
    · exact hs.ceiling
    · exact hs.folded
    · exact hs.foldedTo
  · exact ⟨fun a _ => by simp only [loadedCounts, hjournal, hstored], by simp only [loadedTotals, hjournal, hblock]⟩
  · rw [hwrite] at hw
    rw [hjournal, entryWrite_congr hstored hblock]
    exact hs.write e a x n hw

theorem BooksLaw.touched {l : List Aspect} {s t : State} (h : BooksLaw s) (ht : Touches l s t)
    (hl : apart l booksFields = true := by decide +kernel) : BooksLaw t :=
  h.of_same fun _ hf => ht.same_of_apart hl hf

/-! ## A new entry (R106) -/

theorem lastFolded_foldCounts {st : Store} (h : StoreLaw st) (a : Nat) : (loadedCounts st a).lastFolded ≤ st.lastSeq := by
  have hfolded := h.folded a
  have hceiling := h.ceiling
  unfold loadedCounts
  generalize Table.get CountsBlock.blank st.counts a = b at hfolded ⊢
  generalize st.journal = l at hceiling ⊢
  induction l generalizing b with
  | nil => exact hfolded
  | cons e l ih =>
    refine ih (foldCounts a b e) ?_ fun x hx => hceiling x (by simp [hx])
    unfold foldCounts
    split
    · exact hceiling e (by simp)
    · exact hfolded

theorem lastFolded_foldTotals {st : Store} (h : StoreLaw st) : (loadedTotals st).lastFolded ≤ st.lastSeq := by
  have hfolded := h.foldedTo
  have hceiling := h.ceiling
  unfold loadedTotals
  generalize st.totals = b at hfolded ⊢
  generalize st.journal = l at hceiling ⊢
  induction l generalizing b with
  | nil => exact hfolded
  | cons e l ih =>
    refine ih (foldTotals b e) ?_ fun x hx => hceiling x (by simp [hx])
    unfold foldTotals
    split
    · split
      · exact hceiling e (by simp)
      · exact hfolded
    · exact hfolded

/-- The device totals after an entry that every block takes. -/
def EntryBody.onTotals (b : EntryBody) (t : Totals) : Totals :=
  match b with
  | .settle _ c col clicks _ => t.settle c col clicks
  | _ => t

/-- An entry beyond a block's last-folded sequence is taken. -/
theorem foldCounts_taken {a : Nat} (ha : a < 256) {b : CountsBlock} {e : Entry} (h : b.lastFolded < e.sequence) :
    (foldCounts a b e).counts = e.onCounts a b.counts := by
  unfold foldCounts Entry.onCounts Entry.concerns
  obtain ⟨q, body⟩ := e
  cases body <;> dsimp only at h ⊢ <;> simp only [h, ha, decide_true, Bool.and_true, decide_eq_true_eq, if_true] <;> split <;> rfl

theorem foldTotals_taken {b : TotalsBlock} {e : Entry} (h : b.lastFolded < e.sequence) : (foldTotals b e).totals = e.body.onTotals b.totals := by
  obtain ⟨q, body⟩ := e
  cases body with
  | settle => simp only [foldTotals, if_pos h, EntryBody.onTotals]
  | credit | roll => rfl

/-- An entry that is appended with its effect on the counts and totals in use. -/
theorem BooksLaw.enter {s t : State} (h : BooksLaw s) {b : EntryBody} {l : List Aspect} (ht : Touches l (appendEntry b s) t)
    (tables : Table.wf Account.blank t.meter.accounts = true)
    (counts : ∀ a, a < 256 → (accountOf t a).counts = Entry.onCounts ⟨s.store.lastSeq + 1, b⟩ a (accountOf s a).counts)
    (totals : t.meter.totals = b.onTotals s.meter.totals)
    (hl : apart l [.journal, .lastSeq, .storedCounts, .storedTotals, .write] = true := by decide +kernel) : BooksLaw t := by
  have hsame : ∀ f ∈ [Aspect.journal, .lastSeq, .storedCounts, .storedTotals, .write], f.same (appendEntry b s) t :=
    fun f hf => ht.same_of_apart hl hf
  have hjournal : t.store.journal = s.store.journal ++ [⟨s.store.lastSeq + 1, b⟩] := hsame .journal (by decide)
  have hseq : t.store.lastSeq = s.store.lastSeq + 1 := hsame .lastSeq (by decide)
  have hstored : t.store.counts = s.store.counts := hsame .storedCounts (by decide)
  have hblock : t.store.totals = s.store.totals := hsame .storedTotals (by decide)
  have hwrite : t.meter.write = s.meter.write := hsame .write (by decide)
  have hload : ∀ a, loadedCounts t.store a = foldCounts a (loadedCounts s.store a) ⟨s.store.lastSeq + 1, b⟩ := fun a => by
    simp only [loadedCounts, hjournal, hstored, List.foldl_append, List.foldl_cons, List.foldl_nil]
  have hloadTotals : loadedTotals t.store = foldTotals (loadedTotals s.store) ⟨s.store.lastSeq + 1, b⟩ := by
    simp only [loadedTotals, hjournal, hblock, List.foldl_append, List.foldl_cons, List.foldl_nil]
  refine ⟨tables, fun a ha => ?_, ?_, ?_, fun e he => ?_, fun a => ?_, ?_, fun e a x n hw => ?_⟩
  · rw [counts a ha, h.counts a ha, loadedAccount_counts, loadedAccount_counts, hload,
      foldCounts_taken ha (Nat.lt_succ_of_le (lastFolded_foldCounts h.storeLaw a))]
  · rw [totals, h.totals]
    refine Eq.trans ?_ (congrArg TotalsBlock.totals hloadTotals).symm
    exact (foldTotals_taken (e := ⟨s.store.lastSeq + 1, b⟩) (Nat.lt_succ_of_le (lastFolded_foldTotals h.storeLaw))).symm
  · rw [hjournal, List.map_append, List.pairwise_append]
    refine ⟨h.rising, by simp, fun x hx y hy => ?_⟩
    obtain ⟨e, he, rfl⟩ := List.mem_map.mp hx
    have := h.ceiling e he
    simp only [List.map_cons, List.map_nil, List.mem_singleton] at hy
    omega
  · rw [hjournal, List.mem_append, List.mem_singleton] at he
    rw [hseq]
    obtain he | rfl := he
    · have := h.ceiling e he; omega
    · exact Nat.le_refl _
  · have hfolded := h.folded a
    simp only [storedCounts, hstored, hseq] at hfolded ⊢
    omega
  · have := h.foldedTo
    rw [hblock, hseq]
    omega
  · rw [hwrite] at hw
    obtain ⟨hhead, hentry⟩ := h.write e a x n hw
    rw [hjournal, entryWrite_congr hstored hblock, List.head?_append, hhead]
    exact ⟨rfl, hentry⟩

/-! ## The fold (R111, R112) -/

theorem foldCounts_twice (a : Nat) (b : CountsBlock) (e : Entry) : foldCounts a (foldCounts a b e) e = foldCounts a b e := by
  unfold foldCounts
  split <;> simp_all

theorem foldTotals_twice (b : TotalsBlock) (e : Entry) : foldTotals (foldTotals b e) e = foldTotals b e := by
  obtain ⟨q, body⟩ := e
  cases body with
  | settle =>
    simp only [foldTotals]
    split <;> simp_all
  | credit | roll => rfl

/-- The account's block after a fold write. -/
theorem foldInto_counts (e : Entry) (account : Option Nat) (st : Store) (a : Nat) :
    Table.get CountsBlock.blank (foldInto e account st).counts a =
      if account = some a then foldCounts a (Table.get CountsBlock.blank st.counts a) e else Table.get CountsBlock.blank st.counts a := by
  cases account with
  | none => rfl
  | some b =>
    simp only [foldInto, Table.get_set, Option.some.injEq]
    split
    · subst b; rfl
    · rfl

/-- A committed write, by the fields that the books read. -/
theorem committed_block (b : Block) (s : State) : (committed (.block b) s).journal = s.store.journal ∧ (committed (.block b) s).lastSeq = s.store.lastSeq ∧
    (committed (.block b) s).counts = s.store.counts ∧ (committed (.block b) s).totals = s.store.totals := by
  cases b <;> exact ⟨rfl, rfl, rfl, rfl⟩

theorem committed_fold (e : Entry) (account : Option Nat) (x : Bool) (s : State) :
    (committed (.fold e account x) s).journal = s.store.journal ∧ (committed (.fold e account x) s).lastSeq = s.store.lastSeq ∧
    (committed (.fold e account x) s).counts = (foldInto e account s.store).counts ∧
    (committed (.fold e account x) s).totals = if x = true then foldTotals s.store.totals e else s.store.totals := by
  cases account <;> cases x <;> exact ⟨rfl, rfl, rfl, rfl⟩

/-- A store write that commits keeps the store's law, and changes nothing of a load: its entry is still there to be skipped. -/
theorem BooksLaw.committed {s : State} (h : BooksLaw s) {w : StoreWrite} {n : Nat} (hw : s.meter.write = some (w, n)) :
    StoreLaw (Machine.committed w s) ∧ SameLoad s.store (Machine.committed w s) := by
  cases w with
  | block b =>
    obtain ⟨hjournal, hseq, hcounts, htotals⟩ := committed_block b s
    refine ⟨⟨hjournal ▸ h.rising, ?_, ?_, ?_⟩, ⟨fun a _ => ?_, ?_⟩⟩
    · rw [hjournal, hseq]; exact h.ceiling
    · rw [hcounts, hseq]; exact h.folded
    · rw [htotals, hseq]; exact h.foldedTo
    · simp only [loadedCounts, hjournal, hcounts]
    · simp only [loadedTotals, hjournal, htotals]
  | fold e account x =>
    obtain ⟨hjournal, hseq, hcounts, htotals⟩ := committed_fold e account x s
    obtain ⟨rest, hrest⟩ : ∃ rest, s.store.journal = e :: rest := List.head?_eq_some_iff.mp (h.write e account x n hw).1
    have hle := h.ceiling e (by simp [hrest])
    refine ⟨⟨hjournal ▸ h.rising, ?_, fun a => ?_, ?_⟩, ⟨fun a _ => ?_, ?_⟩⟩
    · rw [hjournal, hseq]; exact h.ceiling
    · have hfolded := h.folded a
      rw [hcounts, hseq, foldInto_counts]
      split
      · unfold foldCounts
        split
        · exact hle
        · exact hfolded
      · exact hfolded
    · have hfolded := h.foldedTo
      rw [htotals, hseq]
      split
      · unfold foldTotals
        split
        · split
          · exact hle
          · exact hfolded
        · exact hfolded
      · exact hfolded
    · simp only [loadedCounts, hjournal, hcounts, foldInto_counts, hrest, List.foldl_cons]
      split
      · rw [foldCounts_twice]
      · rfl
    · simp only [loadedTotals, hjournal, htotals, hrest, List.foldl_cons]
      split
      · rw [foldTotals_twice]
      · rfl

/-- A head entry that no block takes changes nothing at a load. -/
theorem foldCounts_skipped {st : Store} {e : Entry} (h : entryWrite st e = none) {a : Nat} (ha : a < 256) :
    foldCounts a (Table.get CountsBlock.blank st.counts a) e = Table.get CountsBlock.blank st.counts a := by
  suffices hskip : countsTake st e a = false by
    unfold foldCounts
    rw [if_neg]
    simpa [countsTake] using hskip
  unfold entryWrite at h
  split at h
  · rename_i b _ _ _ _ hbody
    by_cases hb : b = a
    · subst hb
      by_contra hc
      simp [hc] at h
    · simp [countsTake, Entry.concerns, hbody, hb]
  · rename_i b _ hbody
    by_cases hb : b = a
    · subst hb
      by_contra hc
      simp [hc] at h
    · simp [countsTake, Entry.concerns, hbody, hb]
  · have := List.find?_eq_none.mp (Option.map_eq_none_iff.mp h) a (List.mem_range.mpr ha)
    simpa using this

theorem foldTotals_skipped {st : Store} {e : Entry} (h : entryWrite st e = none) : foldTotals st.totals e = st.totals := by
  unfold foldTotals
  split
  · rename_i hbody
    rw [if_neg]
    intro hlt
    simp [entryWrite, hbody, totalsTake, hlt] at h
  · rfl

/-- The head entries that every block has taken change nothing at a load. -/
theorem dropFolded_sameLoad (s : State) : SameLoad s.store (dropFolded s).store := by
  constructor
  · intro a ha
    simp only [loadedCounts, dropFolded]
    congr 1
    generalize s.store.journal = l
    induction l with
    | nil => rfl
    | cons e l ih =>
      rw [List.dropWhile_cons]
      split
      · rename_i hnone
        rw [List.foldl_cons, foldCounts_skipped (Option.isNone_iff_eq_none.mp hnone) ha]
        exact ih
      · rfl
  · simp only [loadedTotals, dropFolded]
    congr 1
    generalize s.store.journal = l
    induction l with
    | nil => rfl
    | cons e l ih =>
      rw [List.dropWhile_cons]
      split
      · rename_i hnone
        rw [List.foldl_cons, foldTotals_skipped (Option.isNone_iff_eq_none.mp hnone)]
        exact ih
      · rfl

theorem BooksLaw.dropFolded {s : State} (h : BooksLaw s) : BooksLaw (dropFolded s) := by
  have hsub : (Machine.dropFolded s).store.journal.Sublist s.store.journal := List.dropWhile_sublist _
  refine h.of_load h.tables (fun _ => rfl) rfl ⟨h.rising.sublist (hsub.map _), fun e he => h.ceiling e (hsub.mem he), h.folded, h.foldedTo⟩
    (dropFolded_sameLoad s) fun e a x n hw => ?_
  obtain ⟨hhead, hentry⟩ := h.write e a x n hw
  obtain ⟨rest, hrest⟩ := List.head?_eq_some_iff.mp hhead
  refine ⟨?_, hentry⟩
  simp only [Machine.dropFolded, hrest, List.dropWhile_cons, hentry]
  rfl

/-- The next write is of the head entry where it is a fold write. -/
theorem nextWrite_fold {s : State} {e : Entry} {a : Option Nat} {x : Bool} (h : nextWrite s = some (.fold e a x)) :
    s.store.journal.head? = some e ∧ entryWrite s.store e = some (.fold e a x) := by
  have hfold : s.store.journal.head?.bind (entryWrite s.store) = some (.fold e a x) := by
    unfold nextWrite at h
    dsimp only at h
    split at h <;> rw [Option.or_eq_some_iff] at h
    · obtain hblock | ⟨-, hfold⟩ := h
      · obtain ⟨b, -, hb⟩ := Option.map_eq_some_iff.mp hblock
        cases hb
      · exact hfold
    · obtain hfold | ⟨-, hblock⟩ := h
      · exact hfold
      · obtain ⟨b, -, hb⟩ := Option.map_eq_some_iff.mp hblock
        cases hb
  obtain ⟨y, hy, hentry⟩ := Option.bind_eq_some_iff.mp hfold
  have heq : y = e := by
    unfold entryWrite at hentry
    split at hentry
    · exact (StoreWrite.fold.inj (Option.some.inj (Option.ite_none_right_eq_some.mp hentry).2)).1
    · exact (StoreWrite.fold.inj (Option.some.inj (Option.ite_none_right_eq_some.mp hentry).2)).1
    · obtain ⟨b, -, hb⟩ := Option.map_eq_some_iff.mp hentry
      exact (StoreWrite.fold.inj hb).1
  rw [heq] at hy hentry
  exact ⟨hy, hentry⟩

theorem BooksLaw.startWrite {s : State} (h : BooksLaw s) : BooksLaw (startWrite s) := by
  unfold Machine.startWrite
  split
  · refine h.of_load h.tables (fun _ => rfl) rfl h.storeLaw ⟨fun _ _ => rfl, rfl⟩ fun e a x n hw => ?_
    obtain ⟨w, hnext, heq⟩ := Option.map_eq_some_iff.mp hw
    cases heq
    exact nextWrite_fold hnext
  · exact h

theorem BooksLaw.closeTake {s : State} (h : BooksLaw s) : BooksLaw (closeTake s) := by
  refine BooksLaw.touched ?_ (placeHeader_touches _)
  unfold advanceStore
  split
  · exact h
  · refine BooksLaw.startWrite ?_
    split
    · exact h.dropFolded.touched (reportFold_touches _)
    · exact h.dropFolded

/-! ## Pages and holds -/

theorem releaseTicket_counts (p : Page) (s : State) (a : Nat) : (accountOf (releaseTicket p s) a).counts = (accountOf s a).counts := by
  rw [accountOf_releaseTicket]

/-- An account's record replaced by one of the same counts. -/
theorem counts_setAccount {s : State} {b : Nat} {r : Account} (hr : r.counts = (accountOf s b).counts) (a : Nat) :
    (accountOf (setAccount b r s) a).counts = (accountOf s a).counts := by
  rw [accountOf_setAccount]
  split
  · subst b; exact hr
  · rfl

theorem BooksLaw.setAccount {s : State} (h : BooksLaw s) {b : Nat} {r : Account} (hr : r.counts = (accountOf s b).counts) :
    BooksLaw (setAccount b r s) :=
  h.recount (setAccount_touches ..) (wf_setAccount h.tables _ _) (counts_setAccount hr)

theorem BooksLaw.raiseHeld {s : State} (h : BooksLaw s) (b n : Nat) : BooksLaw (raiseHeld b n s) := h.setAccount rfl
theorem BooksLaw.lowerHeld {s : State} (h : BooksLaw s) (b n : Nat) : BooksLaw (lowerHeld b n s) := h.setAccount rfl
theorem BooksLaw.raiseInflight {s : State} (h : BooksLaw s) (b n : Nat) : BooksLaw (raiseInflight b n s) := h.setAccount rfl

theorem BooksLaw.releaseTicket {s : State} (h : BooksLaw s) (p : Page) : BooksLaw (releaseTicket p s) :=
  h.recount (releaseTicket_touches s p) (wf_releaseTicket h.tables p) (releaseTicket_counts p s)

theorem BooksLaw.dropPage {s : State} (h : BooksLaw s) {slot : Nat} {p : Page} (hp : pageOf s slot = some p) : BooksLaw (dropPage slot s) := by
  exact (h.releaseTicket p).touched (dropPage_touches_of hp)

theorem BooksLaw.settlePage {s : State} (h : BooksLaw s) {slot : Nat} {p : Page} {o : Outcome} (hp : pageOf s slot = some p)
    (hprint : p.inPrint = true) (ho : o.charged = true) : BooksLaw (settlePage slot o s) := by
  cases hstate : p.state with
  | staged | ticketed => simp [Page.inPrint, hstate] at hprint
  | printing c t =>
    refine BooksLaw.touched ?_ (settlePage_printing hp hstate ho)
    refine h.enter (b := .settle (accountNumber s p) p.sizeClass (measuredColour s.coverage.settings.threshold p) (settledClicks s p c o) o)
      (l := [.accounts, .totals, .reservations]) ?_ (wf_setAccount h.tables _ _) (fun a _ => ?_) rfl
    · unfold chargeOf chargePage
      refine .restore .canonical (.of_fields fun f hf hl => ?_) fun hc => { hc with accounts := wf_setAccount h.tables _ _ }
      cases f <;> first | rfl | exact absurd hl (by decide) | simp at hf
    · rw [chargeOf, accountOf_chargePage]
      simp only [Entry.onCounts]
      split
      · rename_i ha; rw [ha]
      · rfl
  | withheld r t => exact h.touched (settlePage_withheld hp hstate o)

theorem BooksLaw.withholdPage {s : State} (h : BooksLaw s) (slot : Nat) (p : Page) (r : WithheldReason) : BooksLaw (withholdPage slot p r s) :=
  ((h.touched (setPage_touches ..)).releaseTicket p).touched (postEvent_touches ..)

theorem BooksLaw.admitPage {s : State} (h : BooksLaw s) (slot : Nat) (p : Page) : BooksLaw (admitPage slot p s) := by
  unfold Machine.admitPage
  dsimp only
  split
  · exact ((h.touched (setPage_touches ..)).lowerHeld ..).raiseInflight ..
  · exact ((h.touched (setPage_touches ..)).raiseInflight ..).touched (reserve_touches _)

theorem BooksLaw.takeAdmission {s : State} (h : BooksLaw s) (slot : Nat) (p : Page) : BooksLaw (takeAdmission slot p s) := by
  unfold Machine.takeAdmission
  split
  · exact h
  · split
    · exact h.withholdPage ..
    · exact h.admitPage ..

theorem booksLaw_pageLaw : PageLaw booksFields BooksLaw where
  reads h hs := hs.of_same h
  quiet := rfl
  dropped h hp _ := h.dropPage hp
  settled h hp hw ho := h.settlePage hp hw ho
  tallied _ _ _ h := h.touched (setJob_touches ..)
  closing _ h _ _ := h.touched (setJob_touches ..)
  released cause h _ _ := h.touched (releaseJob_touches _ _ cause)
  admitted h _ := h.takeAdmission ..
  served slot lo plain n h := h.touched (servePlane_touches _ slot lo plain n)

/-! ## The orders -/

theorem BooksLaw.ticketPageOrder {s : State} (h : BooksLaw s) (ps : List Nat) : BooksLaw (ticketPageOrder ps s).1 := by
  refine onPage_keeps h fun p _ _ => ?_
  split
  · exact checked_keeps h fun _ => ((h.touched (setPage_touches ..)).raiseHeld ..).touched (reserve_touches _)
  all_goals exact h

theorem BooksLaw.unticketPageOrder {s : State} (h : BooksLaw s) (ps : List Nat) : BooksLaw (unticketPageOrder ps s).1 := by
  refine onPage_keeps h fun p _ _ => ?_
  split
  · exact h
  · exact (h.touched (setPage_touches ..)).releaseTicket p
  all_goals exact h

theorem BooksLaw.dropPageOrder {s : State} (h : BooksLaw s) (ps : List Nat) : BooksLaw (dropPageOrder ps s).1 := by
  refine onPage_keeps h fun p hp _ => ?_
  split
  · exact h
  · exact h.dropPage hp

theorem BooksLaw.setAccountOrder {s : State} (h : BooksLaw s) (ps : List Nat) : BooksLaw (setAccountOrder ps s).1 := by
  unfold Machine.setAccountOrder
  dsimp only
  split
  · exact h
  · exact h
  · refine checked_keeps h fun _ => BooksLaw.touched ?_ (markDirty_touches ..)
    exact h.setAccount rfl

theorem BooksLaw.creditAccountOrder {s : State} (h : BooksLaw s) (ps : List Nat) : BooksLaw (creditAccountOrder ps s).1 := by
  refine checked_keeps h fun _ => BooksLaw.touched ?_ (noteFull_touches ..)
  refine h.enter (b := .credit (arg ps 1) (min (arg ps 2) (accountOf s (arg ps 1)).counts.settled)) (l := [.accounts])
    (setAccount_touches (appendEntry _ s) ..) (wf_setAccount h.tables _ _) (fun a _ => ?_) rfl
  rw [accountOf_of_touches (appendEntry_touches ..), accountOf_setAccount]
  simp only [Entry.onCounts]
  split
  · rename_i ha; rw [ha]
  · rfl

theorem BooksLaw.rollPeriodOrder {s : State} (h : BooksLaw s) (ps : List Nat) : BooksLaw (rollPeriodOrder ps s).1 := by
  refine checked_keeps h fun _ => BooksLaw.touched ?_ (noteFull_touches ..)
  have hwf := Table.wf_update h.tables fun _ r => { r with counts := r.counts.roll }
  refine h.enter (b := .roll) (l := [.accounts]) ?_ hwf (fun a _ => ?_) rfl
  · refine .restore .canonical (.of_fields fun f hf hl => ?_) fun hc => { hc with accounts := hwf }
    cases f <;> first | rfl | exact absurd hl (by decide) | simp at hf
  · exact congrArg Account.counts (accountOf_rolled h.tables a)

/-! ## The store's writes, resets, and the loss of power -/

theorem BooksLaw.storeWriteDone {s u : State} (h : BooksLaw s) {good : Bool} (hu : storeWriteDone good s = some u) : BooksLaw u := by
  obtain ⟨w, n, hw, ⟨-, rfl⟩ | ⟨-, -, rfl⟩ | ⟨-, -, rfl⟩⟩ := storeWriteDone_some hu
  · obtain ⟨hstore, hload⟩ := h.committed hw
    exact h.of_load h.tables (fun _ => rfl) rfl hstore hload nofun
  · refine h.of_load h.tables (fun _ => rfl) rfl h.storeLaw ⟨fun _ _ => rfl, rfl⟩ fun e a x m hm => ?_
    obtain ⟨rfl, -⟩ := Prod.mk.inj (Option.some.inj hm)
    exact h.write e a x n hw
  · have hfailed : BooksLaw (failStore w s) := by
      refine BooksLaw.touched (s := { s with meter := { s.meter with write := none, lastWasFold := w.isFold, failed := true } }) ?_
        (postEvent_touches ..)
      exact h.of_load h.tables (fun _ => rfl) rfl h.storeLaw ⟨fun _ _ => rfl, rfl⟩ nofun
    split
    · exact hfailed
    · exact hfailed.touched (reportFold_touches _)

/-- A store that is cut by a reset or a power loss loads as the store does (R108). -/
theorem BooksLaw.cutStore {s : State} (h : BooksLaw s) (cut : ResetCut) :
    StoreLaw (Machine.cutStore cut s) ∧ SameLoad s.store (Machine.cutStore cut s) := by
  obtain hs | ⟨w, n, hw, hs⟩ := cutStore_cases cut s <;> rw [hs]
  · exact ⟨h.storeLaw, fun _ _ => rfl, rfl⟩
  · exact h.committed hw

/-- The counts and totals in use after a reset are those before it (R116). -/
theorem BooksLaw.reloaded {s : State} (h : BooksLaw s) (cold : Bool) (cut : ResetCut) :
    (∀ a, a < 256 → (accountOf (afterReset cold cut s) a).counts = (accountOf s a).counts) ∧
      (afterReset cold cut s).meter.totals = s.meter.totals := by
  obtain ⟨-, hcounts, htotals⟩ := h.cutStore cut
  refine ⟨fun a ha => ?_, ?_⟩
  · have haccount : accountOf (afterReset cold cut s) a = if a < 256 then loadedAccount (Machine.cutStore cut s) a else Account.blank :=
      Table.get_ofFn ..
    rw [haccount, if_pos ha, h.counts a ha, loadedAccount_counts, loadedAccount_counts, hcounts a ha]
  · rw [h.totals]
    exact htotals

theorem BooksLaw.afterReset {s : State} (h : BooksLaw s) (cold : Bool) (cut : ResetCut) : BooksLaw (afterReset cold cut s) := by
  obtain ⟨hstore, -⟩ := h.cutStore cut
  refine ⟨Table.wf_ofFn _ _ _, fun a ha => ?_, rfl, hstore.rising, hstore.ceiling, hstore.folded, hstore.foldedTo, nofun⟩
  have haccount : accountOf (Machine.afterReset cold cut s) a = if a < 256 then loadedAccount (Machine.cutStore cut s) a else Account.blank :=
    Table.get_ofFn ..
  rw [haccount, if_pos ha]
  rfl

theorem BooksLaw.lost {s : State} (h : BooksLaw s) (cut : ResetCut) : BooksLaw (lost cut s) := by
  obtain ⟨hstore, hload⟩ := h.cutStore cut
  have hmem := cutMemory_touches cut s
  have haccounts : (cutMemory cut s).meter.accounts = s.meter.accounts := hmem.at .accounts
  exact h.of_load (haccounts ▸ h.tables) (fun a => congrArg Account.counts (accountOf_of_touches hmem a)) (hmem.at .totals) hstore hload nofun

/-! ## Every step -/

theorem booksLaw_kept : Kept BooksLaw BooksLaw where
  quiet ht h := h.touched ht
  close h := h.closeTake
  take {c f s u} hf _ hu h := by
    by_cases hx : apart (footprintOf c) booksFields = true
    · exact h.touched (take_touches hf hu) hx
    · cases c
      case linkAccessPerformed =>
        cases hf
        obtain ⟨-, v, a, -, -, rfl⟩ := linkAccess_some hu
        exact booksLaw_pageLaw.linkPerformed h v a (by decide +kernel) (fun t _ ht => ht.touched (freePort_touches t))
          fun t data ht => ht.touched (endService_touches ..)
      case stallTimerExpiry => cases hf; exact booksLaw_pageLaw.stallExpired h hu
      case keepaliveExpiry => cases hf; exact booksLaw_pageLaw.keepaliveExpired h hu
      case storeWriteDone => cases hf; exact h.storeWriteDone hu
      all_goals first | exact absurd (by dsimp only [footprintOf]; decide +kernel) hx | cases hf
  order {c m s o} hm _ ho h := by
    refine order_keeps (h.touched (fetchDone_touches s)) (fun h => ?_) fun t a h => h.touched (answerAndAdvance_touches t a)
    by_cases hx : apart (footprintOf c) booksFields = true
    · exact h.touched (act_touches hm o.params _) hx
    · cases c
      case closeJob => cases hm; exact booksLaw_pageLaw.closeJobOrder h _
      case purgeJob => cases hm; exact booksLaw_pageLaw.purgeJobOrder h _
      case ticketPage => cases hm; exact h.ticketPageOrder _
      case unticketPage => cases hm; exact h.unticketPageOrder _
      case dropPage => cases hm; exact h.dropPageOrder _
      case setAccount => cases hm; exact h.setAccountOrder _
      case rollPeriod => cases hm; exact h.rollPeriodOrder []
      case creditAccount => cases hm; exact h.creditAccountOrder _
      case endService => cases hm; exact booksLaw_pageLaw.endServiceOrder h []
      case keepalive => cases hm; exact booksLaw_pageLaw.keepaliveOrder h []
      all_goals first | exact absurd (by dsimp only [footprintOf]; decide +kernel) hx | cases hm
  line {c _ _ _} hr _ _ h := by
    refine h.touched (line_touches hr _).2 ?_
    cases c <;> first | (dsimp only [footprintOf]; decide +kernel) | cases hr
  raw hr _ h := h.touched (line_touches hr _).1
  reset cold cut _ h := h.afterReset cold cut
  warm cut _ h := { h.afterReset false cut with }
  loss cut _ h := h.lost cut

end Sys2Proof.Machine

namespace Sys2Proof.Proofs

open Sys2Proof.Machine

/-- Settles O56: an entry changes the counts in use as it changes a load, and a fold changes no load, since its entry is skipped from then on. -/
theorem booksSurvivePowerLoss : Obligations.BooksSurvivePowerLoss := by
  unfold Obligations.BooksSurvivePowerLoss
  refine fun s t h => ⟨fun ht => booksLaw_kept.step h ht, fun cut ht => ?_⟩
  obtain rfl : startUp true cut s = t := by injection ht
  obtain ⟨hcounts, htotals⟩ := h.reloaded true cut
  have hclose := closeTake_touches (afterReset true cut s)
  exact ⟨fun a ha => (congrArg Account.counts (accountOf_of_touches hclose a)).trans (hcounts a ha), (hclose.at .totals : _).trans htotals⟩

end Sys2Proof.Proofs
end

section
/-! The law of keys (O58): a key stands in one job slot, for its open job or for the part in service that still uses it. -/

namespace Sys2Proof.Machine

set_option Elab.async false

/-- The fields that the law of keys reads. -/
abbrev keysFields : List Aspect := [.jobs, .keyDraws, .service]

/-- The key that the part in service holds (R22). -/
def heldKey (s : State) : Option Key := s.filter.service.bind (·.record.key)

theorem heldKey_eq_some {s : State} {k : Key} : heldKey s = some k ↔ ∃ v, s.filter.service = some v ∧ v.record.key = some k :=
  Option.bind_eq_some_iff

theorem partHolds_iff {s : State} {k : Key} : partHolds s k = true ↔ heldKey s = some k := by
  unfold partHolds heldKey
  cases s.filter.service <;> simp

theorem heldKey_of_service {s t : State} (h : t.filter.service = s.filter.service) : heldKey t = heldKey s := by
  rw [heldKey, h]; rfl

/-! ## Records of jobs changed -/

/-- Jobs and the part in service change, but not what the law of keys reads of them. -/
theorem KeysLaw.rejob {s t : State} (h : KeysLaw s) (tables : Table.wf Job.fresh t.jobs = true)
    (hjob : ∀ j, (jobOf t j).key = (jobOf s j).key ∧ (jobOf t j).opening = (jobOf s j).opening) (hdraws : t.keyDraws = s.keyDraws)
    (hheld : heldKey t = heldKey s) : KeysLaw t where
  tables := tables
  loaded j := by rw [(hjob j).1, (hjob j).2]; exact h.loaded j
  drawn j k hk := by rw [(hjob j).1] at hk; rw [hdraws]; exact h.drawn j k hk
  single i j k hi hj := by rw [(hjob i).1] at hi; rw [(hjob j).1] at hj; exact h.single i j k hi hj
  draining j k hk := by
    rw [(hjob j).1] at hk
    rw [← heldKey_eq_some, hheld]
    exact heldKey_eq_some.mpr (h.draining j k hk)
  held v k hv hk := by
    obtain ⟨w, hw, hwk⟩ := heldKey_eq_some.mp (hheld ▸ heldKey_eq_some.mpr ⟨v, hv, hk⟩)
    obtain ⟨j, hj⟩ := h.held w k hw hwk
    exact ⟨j, by rw [(hjob j).1]; exact hj⟩

theorem KeysLaw.of_same {s t : State} (h : ∀ f ∈ keysFields, f.same s t) (hs : KeysLaw s) : KeysLaw t := by
  have hjobs : t.jobs = s.jobs := h .jobs (by decide)
  have hjob : ∀ j, jobOf t j = jobOf s j := fun j => congrArg (fun x => Table.get Job.fresh x j) hjobs
  exact hs.rejob (hjobs ▸ hs.tables) (fun j => by rw [hjob]; exact ⟨rfl, rfl⟩) (h .keyDraws (by decide))
    (heldKey_of_service (h .service (by decide)))

theorem KeysLaw.touched {l : List Aspect} {s t : State} (h : KeysLaw s) (ht : Touches l s t)
    (hl : apart l keysFields = true := by decide +kernel) : KeysLaw t :=
  h.of_same fun _ hf => ht.same_of_apart hl hf

theorem wf_setJob {s : State} (h : Table.wf Job.fresh s.jobs = true) (j : Nat) (r : Job) : Table.wf Job.fresh (setJob j r s).jobs = true :=
  Table.wf_set h j r

/-- A job record replaced by one of the same key and opening. -/
theorem KeysLaw.setJob {s : State} (h : KeysLaw s) {j : Nat} {r : Job} (hkey : r.key = (jobOf s j).key)
    (hopening : r.opening = (jobOf s j).opening) : KeysLaw (setJob j r s) := by
  refine h.rejob (wf_setJob h.tables j r) (fun i => ?_) rfl rfl
  rw [jobOf_setJob]
  split
  · subst i; exact ⟨hkey, hopening⟩
  · exact ⟨rfl, rfl⟩

theorem wf_releaseFrames {s : State} (h : Table.wf Job.fresh s.jobs = true) (j : Nat) (l : List Nat) :
    Table.wf Job.fresh (l.foldl (releaseFrame j) s).jobs = true := by
  induction l generalizing s with
  | nil => exact h
  | cons f l ih =>
    refine ih (wf_setJob ?_ j _)
    split
    · exact (retireFrame_touches s f).at .jobs ▸ h
    · exact h

theorem KeysLaw.releaseFrames {s : State} (h : KeysLaw s) (j : Nat) (l : List Nat) : KeysLaw (l.foldl (releaseFrame j) s) := by
  have htouches := releaseFrames_touches j l s
  refine h.rejob (wf_releaseFrames h.tables j l) (fun i => ?_) (htouches.at .keyDraws) (heldKey_of_service (htouches.at .service))
  obtain ⟨b, hb⟩ := jobOf_releaseFrames j l s i
  rw [hb]
  exact ⟨rfl, rfl⟩

/-! ## A key destroyed (R54) -/

/-- What the destruction of a key leaves was held before. -/
theorem KeySlot.holds_of_destroyed {s : State} {x : KeySlot} {k : Key} (h : (x.destroyed s).holds k) : x.holds k := by
  cases x with
  | empty => exact h
  | loaded l =>
    simp only [KeySlot.destroyed] at h
    split at h
    · exact h
    · exact h.elim
  | draining l => exact h

/-- A key that the part in service holds is not destroyed. -/
theorem KeySlot.destroyed_holds {s : State} {x : KeySlot} {k : Key} (hheld : heldKey s = some k) (h : x.holds k) : (x.destroyed s).holds k := by
  cases x with
  | empty => exact h
  | loaded l =>
    have hl : l = k := h
    simp only [KeySlot.destroyed, hl, partHolds_iff.mpr hheld, if_true]
    rfl
  | draining l => exact h

theorem KeySlot.destroyed_ne_loaded (s : State) (x : KeySlot) (k : Key) : x.destroyed s ≠ .loaded k := by
  cases x with
  | empty => nofun
  | loaded l => simp only [KeySlot.destroyed]; split <;> nofun
  | draining l => nofun

theorem KeySlot.draining_of_destroyed {s : State} {x : KeySlot} {k : Key} (h : x.destroyed s = .draining k) :
    x = .draining k ∨ heldKey s = some k := by
  cases x with
  | empty => cases h
  | loaded l =>
    simp only [KeySlot.destroyed] at h
    split at h
    · cases h; exact .inr (partHolds_iff.mp ‹_›)
    · cases h
  | draining l => exact .inl h

theorem KeysLaw.releaseJob {s : State} (h : KeysLaw s) (j : Nat) (cause : ReleaseCause) : KeysLaw (releaseJob j cause s) := by
  have htouches := releaseJob_touches s j cause
  have hheld : heldKey (Machine.releaseJob j cause s) = heldKey s := heldKey_of_service (htouches.at .service)
  have hdraws : (Machine.releaseJob j cause s).keyDraws = s.keyDraws := htouches.at .keyDraws
  have hholds : ∀ i k, (jobOf (Machine.releaseJob j cause s) i).key.holds k → (jobOf s i).key.holds k := fun i k hk => by
    obtain ⟨b, hb⟩ := jobOf_releaseJob j cause s i
    rw [hb] at hk
    split at hk
    · exact KeySlot.holds_of_destroyed hk
    · exact hk
  refine ⟨?_, fun i => ?_, fun i k hk => hdraws ▸ h.drawn i k (hholds i k hk), fun a b k ha hb => h.single a b k (hholds a k ha) (hholds b k hb),
    fun i k hk => ?_, fun v k hv hk => ?_⟩
  · unfold Machine.releaseJob
    dsimp only
    rw [(postEvent_touches ..).at .jobs]
    exact wf_setJob (wf_releaseFrames h.tables j _) j _
  · obtain ⟨b, hb⟩ := jobOf_releaseJob j cause s i
    rw [hb]
    split
    · simp [KeySlot.destroyed_ne_loaded, Job.opening]
    · exact h.loaded i
  · obtain ⟨b, hb⟩ := jobOf_releaseJob j cause s i
    rw [← heldKey_eq_some, hheld]
    rw [hb] at hk
    split at hk
    · obtain hk | hk := KeySlot.draining_of_destroyed hk
      · exact heldKey_eq_some.mpr (h.draining i k hk)
      · exact hk
    · exact heldKey_eq_some.mpr (h.draining i k hk)
  · have hk' : heldKey s = some k := hheld ▸ heldKey_eq_some.mpr ⟨v, hv, hk⟩
    obtain ⟨w, hw, hwk⟩ := heldKey_eq_some.mp hk'
    obtain ⟨i, hi⟩ := h.held w k hw hwk
    obtain ⟨b, hb⟩ := jobOf_releaseJob j cause s i
    refine ⟨i, ?_⟩
    rw [hb]
    split
    · exact KeySlot.destroyed_holds hk' hi
    · exact hi

theorem KeysLaw.settlePage {s : State} (h : KeysLaw s) (slot : Nat) (o : Outcome) : KeysLaw (settlePage slot o s) := h.touched (settlePage_touches ..)

theorem keysLaw_pageLaw : PageLaw keysFields KeysLaw where
  reads h hs := hs.of_same h
  quiet := rfl
  dropped h _ _ := h.touched (dropPage_touches ..)
  settled h _ _ _ := h.touched (settlePage_touches ..)
  tallied _ _ _ h := h.setJob rfl rfl
  closing i h hj _ := h.setJob rfl (by simp only [Job.opening, hj])
  released cause h _ _ := h.releaseJob _ cause
  admitted h _ := h.touched (takeAdmission_touches ..)
  served slot lo plain n h := h.touched (servePlane_touches _ slot lo plain n)

/-! ## A key drawn (R45) -/

theorem KeysLaw.openJobOrder {s : State} (h : KeysLaw s) (ps : List Nat) : KeysLaw (openJobOrder ps s).1 := by
  refine checked_keeps h fun hchecks => ?_
  have hsome : (freeJob s).isNone = false := hchecks ((freeJob s).isNone, .plain .busy 0) (by simp)
  obtain ⟨j, hj⟩ := Option.isSome_iff_exists.mp (Option.not_isNone _ ▸ congrArg (!·) hsome)
  obtain ⟨-, -, hempty⟩ := freeJob_free hj
  dsimp only
  rw [hj, Option.getD_some]
  generalize (Privacy.ofCode (arg ps 2)).getD .shared = privacy
  unfold openSlot
  have hother : ∀ i k, i ≠ j → (jobOf s i).key.holds k → k.draw ≠ s.keyDraws := fun i k _ hk => Nat.ne_of_lt (h.drawn i k hk)
  have hheld : ∀ v k, s.filter.service = some v → v.record.key = some k → ∃ i, i ≠ j ∧ (jobOf s i).key.holds k := fun v k hv hk => by
    obtain ⟨i, hi⟩ := h.held v k hv hk
    refine ⟨i, fun hij => ?_, hi⟩
    rw [hij, hempty] at hi
    exact hi
  cases privacy with
  | priv =>
    refine ⟨wf_setJob (s := { s with keyDraws := s.keyDraws + 1 }) h.tables _ _, fun i => ?_, fun i k hk => ?_, fun a b k ha hb => ?_,
      fun i k hk => ?_, fun v k hv hk => ?_⟩
    · rw [jobOf_setJob]
      split
      · simp [Job.opening]
      · exact h.loaded i
    · rw [jobOf_setJob] at hk
      split at hk
      · obtain rfl : (⟨s.keyDraws⟩ : Key) = k := hk
        exact Nat.lt_succ_self _
      · exact Nat.lt_succ_of_lt (h.drawn i k hk)
    · rw [jobOf_setJob] at ha hb
      split at ha <;> split at hb
      · omega
      · obtain rfl : (⟨s.keyDraws⟩ : Key) = k := ha
        exact absurd rfl (hother b _ (Ne.symm ‹_›) hb)
      · obtain rfl : (⟨s.keyDraws⟩ : Key) = k := hb
        exact absurd rfl (hother a _ (Ne.symm ‹_›) ha)
      · exact h.single a b k ha hb
    · rw [jobOf_setJob] at hk
      split at hk
      · cases hk
      · exact h.draining i k hk
    · obtain ⟨i, hij, hi⟩ := hheld v k hv hk
      refine ⟨i, ?_⟩
      rw [jobOf_setJob, if_neg (Ne.symm hij)]
      exact hi
  | shared =>
    refine ⟨wf_setJob h.tables _ _, fun i => ?_, fun i k hk => ?_, fun a b k ha hb => ?_, fun i k hk => ?_, fun v k hv hk => ?_⟩
    · rw [jobOf_setJob]
      split
      · simp [Job.opening]
      · exact h.loaded i
    · rw [jobOf_setJob] at hk
      split at hk
      · exact hk.elim
      · exact h.drawn i k hk
    · rw [jobOf_setJob] at ha hb
      split at ha
      · exact ha.elim
      · split at hb
        · exact hb.elim
        · exact h.single a b k ha hb
    · rw [jobOf_setJob] at hk
      split at hk
      · cases hk
      · exact h.draining i k hk
    · obtain ⟨i, hij, hi⟩ := hheld v k hv hk
      refine ⟨i, ?_⟩
      rw [jobOf_setJob, if_neg (Ne.symm hij)]
      exact hi

theorem KeysLaw.bindFramesOrder {s : State} (h : KeysLaw s) (ps : List Nat) : KeysLaw (bindFramesOrder ps s).1 := by
  refine checked_keeps h fun _ => KeysLaw.touched ?_ (bindRun_touches ..)
  exact h.setJob rfl rfl

theorem KeysLaw.releaseFramesOrder {s : State} (h : KeysLaw s) (ps : List Nat) : KeysLaw (releaseFramesOrder ps s).1 :=
  checked_keeps h fun _ => h.releaseFrames ..

/-! ## The part in service (R22, R24) -/

/-- A record's key is one that a job slot has LOADED (R22). -/
theorem loaded_of_formRecord {s : State} {p : Part} {k : Key} (h : (formRecord s p).key = some k) : ∃ j, (jobOf s j).key = .loaded k := by
  unfold formRecord at h
  dsimp only at h
  split at h
  · dsimp only at h
    split at h
    · obtain ⟨r, hr, hk⟩ := Option.bind_eq_some_iff.mp h
      obtain ⟨b, -, rfl⟩ := Option.map_eq_some_iff.mp hr
      refine ⟨b.job, ?_⟩
      unfold KeySlot.usable at hk
      split at hk
      · cases hk; assumption
      · cases hk
    · cases h
  · cases h

theorem KeysLaw.setFilter {s : State} (h : KeysLaw s) {x : Filter} (hx : x.service = s.filter.service) : KeysLaw { s with filter := x } :=
  h.rejob h.tables (fun _ => ⟨rfl, rfl⟩) rfl (heldKey_of_service hx)

/-- A filter without a key in use, and no key draining, takes parts: the record of each is formed of LOADED keys. -/
theorem KeysLaw.serveParts {s : State} (h : KeysLaw s) (hidle : s.filter.service = none) (write : Bool) (parts : List Part) (data : List Byte) :
    KeysLaw (serveParts write parts data s) := by
  induction parts generalizing s data with
  | nil => exact h.setFilter hidle.symm
  | cons p rest ih =>
    have hnote := noteBreach_touches s p (formRecord s p)
    unfold Machine.serveParts
    dsimp only
    split
    · have hservice : (noteBreach p (formRecord s p) s).filter.service = none := (hnote.at .service : _).trans hidle
      refine ih (KeysLaw.touched ((h.touched hnote).setFilter ?_) (handOver_touches ..)) ?_ _
      · rfl
      · exact ((handOver_touches ..).at .service : _).trans hservice
    · have hjobs : (noteBreach p (formRecord s p) s).jobs = s.jobs := hnote.at .jobs
      have hdraws : (noteBreach p (formRecord s p) s).keyDraws = s.keyDraws := hnote.at .keyDraws
      have hjob : ∀ j, Table.get Job.fresh (noteBreach p (formRecord s p) s).jobs j = jobOf s j := fun j => by rw [hjobs]; rfl
      refine ⟨hjobs ▸ h.tables, fun j => ?_, fun j k hk => ?_, fun i j k hi hj => ?_, fun j k hk => ?_, fun v k hv hk => ?_⟩
      · simp only [jobOf, hjob]; exact h.loaded j
      · simp only [jobOf, hjob] at hk; exact Nat.lt_of_lt_of_eq (h.drawn j k hk) hdraws.symm
      · simp only [jobOf, hjob] at hi hj; exact h.single i j k hi hj
      · simp only [jobOf, hjob] at hk
        obtain ⟨v, hv, -⟩ := h.draining j k hk
        rw [hidle] at hv
        cases hv
      · cases hv
        obtain ⟨j, hj⟩ := loaded_of_formRecord hk
        refine ⟨j, ?_⟩
        simp only [jobOf, hjob]
        rw [show Table.get Job.fresh s.jobs j = jobOf s j from rfl, hj]
        rfl

theorem jobOf_eraseDraining {s : State} (h : Table.wf Job.fresh s.jobs = true) (key : Option Key) (j : Nat) :
    jobOf (eraseDraining key s) j = match key with
      | none => jobOf s j
      | some k => (jobOf s j).erased k := by
  cases key with
  | none => rfl
  | some k => exact Table.get_update h (fun _ r => r.erased k) (fun _ => by simp [Job.erased, Job.fresh]) j

/-- The end of a service: the key that was in use and drains is erased, so that no key drains while the filter takes the next part. -/
theorem KeysLaw.endService {s : State} (h : KeysLaw s) {v : Service} (hv : ∀ k, heldKey s = some k → v.record.key = some k) (data : List Byte) :
    KeysLaw (endService v data s) := by
  have hhand := h.touched (handOver_touches s v.post v.consume)
  have hheld : heldKey (handOver v.post v.consume s) = heldKey s := heldKey_of_service ((handOver_touches ..).at .service)
  refine KeysLaw.serveParts ?_ ?_ ..
  · generalize handOver v.post v.consume s = t at hhand hheld ⊢
    have hjob : ∀ j, (jobOf (Machine.eraseDraining v.record.key { t with filter := { t.filter with service := none } }) j) =
        match v.record.key with
          | none => jobOf t j
          | some k => (jobOf t j).erased k := jobOf_eraseDraining (s := { t with filter := { t.filter with service := none } }) hhand.tables _
    have hopening : ∀ j, (jobOf (Machine.eraseDraining v.record.key { t with filter := { t.filter with service := none } }) j).opening =
        (jobOf t j).opening := fun j => by
      rw [hjob]
      cases v.record.key with
      | none => rfl
      | some k => simp only [Job.opening, (Job.erased_state k (jobOf t j)).1]
    have hkey : ∀ j, (jobOf (Machine.eraseDraining v.record.key { t with filter := { t.filter with service := none } }) j).key =
        match (jobOf t j).key with
          | .loaded k => .loaded k
          | _ => .empty := fun j => by
      rw [hjob]
      cases hslot : (jobOf t j).key with
      | empty => cases v.record.key <;> simp [Job.erased, hslot]
      | loaded l => cases v.record.key <;> simp [Job.erased, hslot]
      | draining l =>
        rw [hv l (hheld ▸ heldKey_eq_some.mpr (hhand.draining j l hslot))]
        simp [Job.erased, hslot]
    have hholds : ∀ j k, (jobOf (Machine.eraseDraining v.record.key { t with filter := { t.filter with service := none } }) j).key.holds k →
        (jobOf t j).key.holds k := fun j k hk => by
      rw [hkey] at hk
      split at hk
      · rename_i hslot; rw [hslot]; exact hk
      · exact hk.elim
    have hrest := eraseDraining_touches { t with filter := { t.filter with service := none } } v.record.key
    refine ⟨?_, fun j => ?_, fun j k hk => ?_, fun i j k hi hj => hhand.single i j k (hholds i k hi) (hholds j k hj), fun j k hk => ?_, fun w k hw => ?_⟩
    · cases v.record.key with
      | none => exact hhand.tables
      | some k => exact Table.wf_update (f := fun _ r => r.erased k) hhand.tables
    · rw [hkey, hopening, ← hhand.loaded j]
      cases (jobOf t j).key <;> simp
    · exact Nat.lt_of_lt_of_eq (hhand.drawn j k (hholds j k hk)) (hrest.at .keyDraws : _).symm
    · rw [hkey] at hk
      split at hk <;> cases hk
    · rw [show (Machine.eraseDraining v.record.key { t with filter := { t.filter with service := none } }).filter.service = none from
        hrest.at .service] at hw
      cases hw
  · exact (eraseDraining_touches ..).at .service

theorem KeysLaw.linkPerformed {s : State} (h : KeysLaw s) {v : Service} (hv : s.filter.service = some v) (a : LinkAccess) :
    KeysLaw (linkPerformed v a s) := by
  have hend : ∀ t data, KeysLaw t → t.filter.service = s.filter.service → KeysLaw (Machine.endService v data t) := fun t data ht hs => by
    refine ht.endService (fun k hk => ?_) data
    obtain ⟨w, hw, hwk⟩ := heldKey_eq_some.mp hk
    rw [hs, hv] at hw
    cases hw
    exact hwk
  have hcounted : KeysLaw { s with openReads := s.openReads + 1 } := h.of_same fun f hf => by fin_cases hf <;> rfl
  unfold Machine.linkPerformed
  dsimp only
  split
  · refine hend _ _ (KeysLaw.touched (keysLaw_pageLaw.readUnder hcounted _ _) (freePort_touches _)) ?_
    exact (readUnder_touches { s with openReads := s.openReads + 1 } v _).at .service
  · refine h.rejob h.tables (fun j => ⟨rfl, rfl⟩) rfl ?_
    simp [heldKey, hv]
  · exact hend _ _ ((h.touched (portWrite_touches ..)).touched (freePort_touches _)) ((portWrite_touches ..).at .service)

theorem KeysLaw.memoryGrant {s u : State} (h : KeysLaw s) (hu : memoryGrant s = some u) : KeysLaw u := by
  obtain ⟨hfree, ⟨-, rfl⟩ | ⟨-, rfl⟩ | ⟨-, rfl⟩⟩ := memoryGrant_some hu
  · refine h.rejob h.tables (fun j => ⟨rfl, rfl⟩) rfl ?_
    simp only [heldKey, grantLink]
    cases s.filter.service with
    | none => rfl
    | some v =>
      simp only [Option.map_some, Option.bind_some]
      unfold Service.granted
      split <;> rfl
  · exact h.touched (grantControl_touches hfree)
  · exact h.touched (grantScrub_touches hfree)

theorem KeysLaw.afterReset (cold : Bool) (cut : ResetCut) (s : State) : KeysLaw (afterReset cold cut s) := by
  have hjob : ∀ j, jobOf (Machine.afterReset cold cut s) j = Job.fresh := fun j =>
    congrArg (fun x => Table.get Job.fresh x j) (show (Machine.afterReset cold cut s).jobs = [] from rfl)
  refine ⟨rfl, fun j => ?_, fun j k hk => ?_, fun i j k hi => ?_, fun j k hk => ?_, fun v k hv => ?_⟩
  · simp [hjob, Job.fresh, Job.opening]
  · rw [hjob] at hk; exact hk.elim
  · rw [hjob] at hi; exact hi.elim
  · rw [hjob] at hk; cases hk
  · have hnone : (Machine.afterReset cold cut s).filter.service = none := rfl
    rw [hnone] at hv
    cases hv

/-! ## Every step -/

theorem keysLaw_kept : Kept KeysLaw KeysLaw where
  quiet ht h := h.touched ht
  close h := h.touched (closeTake_touches _)
  take {c f s u} hf _ hu h := by
    by_cases hx : apart (footprintOf c) keysFields = true
    · exact h.touched (take_touches hf hu) hx
    · cases c
      case transferAccept =>
        cases hf
        obtain ⟨hidle, -, write, rfl⟩ := acceptTransfer_some hu
        exact h.serveParts hidle ..
      case memoryGrant => cases hf; exact h.memoryGrant hu
      case linkAccessPerformed =>
        cases hf
        obtain ⟨-, v, a, hv, -, rfl⟩ := linkAccess_some hu
        exact h.linkPerformed hv a
      case stallTimerExpiry => cases hf; exact keysLaw_pageLaw.stallExpired h hu
      case keepaliveExpiry => cases hf; exact keysLaw_pageLaw.keepaliveExpired h hu
      all_goals first | exact absurd (by dsimp only [footprintOf]; decide +kernel) hx | cases hf
  order {c m s o} hm _ ho h := by
    refine order_keeps (h.touched (fetchDone_touches s)) (fun h => ?_) fun t a h => h.touched (answerAndAdvance_touches t a)
    by_cases hx : apart (footprintOf c) keysFields = true
    · exact h.touched (act_touches hm o.params _) hx
    · cases c
      case bindFrames => cases hm; exact h.bindFramesOrder _
      case releaseFrames => cases hm; exact h.releaseFramesOrder _
      case openJob => cases hm; exact h.openJobOrder _
      case closeJob => cases hm; exact keysLaw_pageLaw.closeJobOrder h _
      case purgeJob => cases hm; exact keysLaw_pageLaw.purgeJobOrder h _
      case endService => cases hm; exact keysLaw_pageLaw.endServiceOrder h []
      case keepalive => cases hm; exact keysLaw_pageLaw.keepaliveOrder h []
      all_goals first | exact absurd (by dsimp only [footprintOf]; decide +kernel) hx | cases hm
  line {c _ _ _} hr _ _ h := by
    refine h.touched (line_touches hr _).2 ?_
    cases c <;> first | (dsimp only [footprintOf]; decide +kernel) | cases hr
  raw hr _ h := h.touched (line_touches hr _).1
  reset cold cut s _ := KeysLaw.afterReset cold cut s
  warm cut s _ := { KeysLaw.afterReset false cut s with }
  loss cut s h := (h.touched (cutMemory_touches cut s)).of_same fun f hf => by fin_cases hf <;> rfl

end Sys2Proof.Machine

namespace Sys2Proof.Proofs

open Sys2Proof.Machine

/-- Settles O58: a release leaves the key of the part in service DRAINING, and the end of that service erases it. -/
theorem keysLawKept : Obligations.KeysLawKept := by
  unfold Obligations.KeysLawKept
  exact fun s t h ht => keysLaw_kept.step h ht

end Sys2Proof.Proofs
end

section
/-! The Supply Unit's operations in the terms of the statements: what each makes of the slot, the seen list, the deferred orders and the link. -/

namespace Sys2Proof.Machine

set_option Elab.async false

/-! ## Slots -/

theorem modifySlot_eq (n : Plane) (f : Slot → Slot) (s : State) : modifySlot n f s = setSlot n (f (slotOf s n)) s := rfl

theorem Quad.set_set {α : Type} (q : Quad α) (n : Plane) (a b : α) : (q.set n a).set n b = q.set n b := by
  fin_cases n <;> rfl

theorem setSlot_setSlot (n : Plane) (a b : Slot) (s : State) : setSlot n a (setSlot n b s) = setSlot n a s := by
  simp only [setSlot, Quad.set_set]

theorem slotOf_setSlot_same (n : Plane) (r : Slot) (s : State) : slotOf (setSlot n r s) n = r := by rw [slotOf_setSlot, if_pos rfl]

theorem modifySlot_setSlot (n : Plane) (f : Slot → Slot) (r : Slot) (s : State) : modifySlot n f (setSlot n r s) = setSlot n (f r) s := by
  rw [modifySlot_eq, slotOf_setSlot_same, setSlot_setSlot]

theorem Quad.set_get {α : Type} (q : Quad α) (n : Plane) : q.set n (q.get n) = q := by
  fin_cases n <;> rfl

theorem setSlot_slotOf (n : Plane) (s : State) : setSlot n (slotOf s n) s = s := by
  simp only [setSlot, slotOf, Quad.set_get]

/-- A slot takes a state (R143). -/
theorem setSlotState_eq (n : Plane) (new : SlotState) (s : State) : setSlotState n new none s = slotChanged n new s := rfl

theorem slotOf_slotChanged (n : Plane) (new : SlotState) (s : State) (m : Plane) :
    slotOf (slotChanged n new s) m = if n = m then { slotOf s n with state := new } else slotOf s m := by
  unfold slotChanged
  dsimp only
  split
  · rename_i hsame
    split
    · subst m; rw [← hsame]
    · rfl
  · rw [slotOf_of_touches (postEvent_touches ..), slotOf_setSlot]

theorem slotChanged_touches (n : Plane) (new : SlotState) (s : State) : Touches (.slots :: posting) s (slotChanged n new s) :=
  setSlotState_touches s n new none

/-- A slot takes a state and its timers stop (R121, R122). -/
theorem stopSlotTimers_eq (n : Plane) (new : SlotState) (s : State) : stopSlotTimers n (setSlotState n new none s) = slotStopped n new s := rfl

/-- An exchange in flight is abandoned (R126). -/
theorem abandonExchange_eq (n : Plane) (s : State) : abandonExchange n s = exchangeAbandoned n s := by
  unfold abandonExchange exchangeAbandoned
  dsimp only
  split
  · rfl
  · rw [modifySlot_eq]
    cases (slotOf s n).sending <;> rfl

/-! ## Frames on the link (R125 to R128, R136) -/

/-- An attempt of an exchange carries a fresh nonce and stands behind what the link sends. -/
theorem sendAttempt_eq (n : Plane) (exchange : BitVec 64 → Exchange) (frame : BitVec 64 → List LinkChar) (s : State) :
    sendAttempt n exchange frame s =
      setSlot n { slotOf s n with
        exchange := exchange (Config.nonceSource s.nonceDraws)
        sending := (slotOf s n).sending ++ [⟨frame (Config.nonceSource s.nonceDraws), true⟩] } { s with nonceDraws := s.nonceDraws + 1 } := rfl

theorem beginIdent_eq (n : Plane) (s : State) : beginIdent n s = identBegun n s := by
  have hdraws : ∀ t, (slotChanged n .probing t).nonceDraws = t.nonceDraws := fun t => (slotChanged_touches ..).at .nonceDraws
  unfold beginIdent identBegun identAttempt
  rw [sendAttempt_eq, setSlotState_eq, modifySlot_eq, hdraws]
  rfl

theorem testDebit_eq (n : Plane) (s : State) : testDebit n s = debitTested n s := by
  unfold testDebit debitTested
  dsimp only
  cases hcartridge : (slotOf s n).cartridge with
  | none => rfl
  | some c =>
    refine ite_congr ?_ (fun _ => by rw [← hcartridge] <;> rfl) fun _ => rfl
    simp only [Slot.startsDebit, show (slotOf s n).gauge = gaugeOf (slotOf s n) from rfl, Bool.and_eq_true, Bool.or_eq_true, decide_eq_true_eq,
      Bool.not_eq_true', and_assoc]

theorem testDebit_idle (n : Plane) (s : State) (h : (slotOf s n).state ≠ .verified) : testDebit n s = s := by
  rw [testDebit_eq]
  unfold debitTested
  dsimp only
  split
  · rw [if_neg fun hx => h hx.1]
  · rfl

/-! ## The seen list (R132, R133) -/

theorem markDirty_markDirty (b : Block) (s t : State) (h : t.meter = (markDirty b s).meter) : markDirty b t = t := by
  have hmem : b ∈ t.meter.dirty := by
    rw [h]
    unfold markDirty
    split
    · assumption
    · simp
  rw [markDirty, if_pos hmem]

/-- The seen list put in place of the one in use, its block dirty. -/
theorem putSeen_eq (l : List SeenEntry) (s : State) : putSeen l s = { markDirty .seenList s with supply := { s.supply with seen := l } } := by
  unfold putSeen markDirty
  dsimp only
  split <;> rfl

theorem putSeen_putSeen (l m : List SeenEntry) (s : State) : putSeen l (putSeen m s) = putSeen l s := by
  have hdirty : Block.seenList ∈ (putSeen m s).meter.dirty := by
    unfold putSeen markDirty
    dsimp only
    split
    · assumption
    · simp
  rw [putSeen_eq l (putSeen m s), putSeen_eq l s, markDirty, if_pos hdirty, putSeen_eq]

theorem seenOf_isSome (s : State) (serial : BitVec 48) : (seenOf s serial).isSome = true ↔ ∃ e ∈ s.supply.seen, e.serial = serial := by
  simp [seenOf, List.find?_isSome]

theorem oweSlot_eq (n : Plane) (s : State) : oweSlot n s = owedWritten n s := by
  unfold oweSlot owedWritten Slot.serial
  dsimp only
  cases hc : (slotOf s n).cartridge with
  | none => rfl
  | some c =>
    dsimp only [Option.map_some]
    refine ite_congr (propext (seenOf_isSome s c.serial)) (fun _ => rfl) fun _ => rfl

theorem owe_enterSeen (serial : BitVec 48) (floor owed : Nat) (l : List SeenEntry) :
    owe serial owed (enterSeen serial floor l) = (⟨serial, floor, owed⟩ :: l.filter fun e => decide (e.serial ≠ serial)).take 8 := by
  unfold owe enterSeen
  rw [List.map_take, List.map_cons]
  dsimp only
  rw [if_pos rfl]
  congr 2
  refine (List.map_congr_left fun e he => ?_).trans (List.map_id _)
  have hne := (List.mem_filter.mp he).2
  rw [if_neg (by simpa using hne)]
  rfl

theorem slotOf_putSeen (l : List SeenEntry) (s : State) (n : Plane) : slotOf (putSeen l s) n = slotOf s n :=
  slotOf_of_touches (putSeen_touches ..) n

/-- The entry of a slot's own serial, with its owed under the supply-fall warning (R132, R133). -/
theorem oweUnderPfw_enterSeen {n : Plane} {s : State} {c : Cartridge} (hc : (slotOf s n).cartridge = some c) (floor : Nat) :
    oweUnderPfw n (putSeen (enterSeen c.serial floor s.supply.seen) s) = serialSeen n c.serial floor s := by
  have hpfw : (putSeen (enterSeen c.serial floor s.supply.seen) s).sup.pfw = s.sup.pfw := (putSeen_touches ..).at .pfw
  have hseen : (putSeen (enterSeen c.serial floor s.supply.seen) s).supply.seen = enterSeen c.serial floor s.supply.seen := by
    rw [putSeen_eq]
  have hmem : ∃ e ∈ enterSeen c.serial floor s.supply.seen, e.serial = c.serial :=
    ⟨⟨c.serial, floor, 0⟩, by simp [enterSeen], rfl⟩
  unfold oweUnderPfw serialSeen
  rw [hpfw]
  split
  · rename_i hp
    have hslot := slotOf_putSeen (enterSeen c.serial floor s.supply.seen) s n
    unfold oweSlot Slot.serial
    rw [hslot, hc]
    dsimp only [Option.map_some]
    rw [if_pos ((seenOf_isSome _ _).mpr (by rw [hseen]; exact hmem)), hseen, putSeen_putSeen, owe_enterSeen]
    rfl
  · rfl

/-! ## Gauges, and the PROBE SLOT orders that wait (R139, R140) -/

theorem testLow_eq (n : Plane) (s : State) : testLow n s = lowTested n s := by
  unfold testLow lowTested Slot.gauge
  dsimp only
  cases hc : (slotOf s n).cartridge with
  | none => rfl
  | some c => rfl

theorem probeAnswer_eq (r : Slot) : probeAnswer r = probeResult r.state r := by
  obtain ⟨state, cartridge, -⟩ := r
  cases state <;> cases cartridge <;> rfl

theorem answerProbes_eq (n : Plane) (s : State) : answerProbes n s = probesEnded n s := by
  unfold answerProbes probesEnded probesAnswered
  rw [answerDeferred_eq]
  simp only [probeAnswer_eq]

theorem probeWaits_iff (n : Plane) (s : State) : probeWaits n s = true ↔ ∃ d ∈ s.orders.deferred, d.object = .probeSlot n := by
  simp [probeWaits]

theorem afterDebit_eq (n : Plane) (go : State → State) (s : State) :
    afterDebit n go s = if ∃ d ∈ s.orders.deferred, d.object = .probeSlot n then identBegun n s else go s := by
  unfold afterDebit
  rw [beginIdent_eq]
  exact ite_congr (propext (probeWaits_iff n s)) (fun _ => rfl) fun _ => rfl

theorem postLines_eq (s : State) : postLines s = linesPosted s := rfl

end Sys2Proof.Machine
end

section
/-! The Supply Unit's law (O59): an exchange in flight always has one attempt, the slots' states follow the lines, and the seen lists stay lists of at most 8
serials. -/

namespace Sys2Proof.Machine

set_option Elab.async false

/-- The fields that the Supply Unit's law reads. -/
abbrev supplyFields : List Aspect := [.lines, .slots, .levels, .timers, .seen, .storedSeen]

/-! ## The law slot by slot -/

/-- What the law says of one slot, with its settled presence and the settled door (R119 to R123). -/
structure Fits (present closed : Bool) (r : Slot) : Prop where
  law    : SlotLaw r
  absent : r.state = .absent ↔ present = false
  door   : closed = false → r.state = .absent ∨ r.state = .unknown

/-- What the law says of everything but one slot. -/
structure SupplyBut (n : Plane) (s : State) : Prop where
  others : ∀ m, n ≠ m → Fits (s.supply.presence.get m) s.supply.doorClosed (slotOf s m)
  settle : ∀ m, (s.supply.presenceTimers.get m).isSome = true → s.lines.presence.get m ≠ s.supply.presence.get m
  shut   : s.supply.doorTimer.isSome = true → s.lines.doorClosed = true ∧ s.supply.doorClosed = false
  seen   : SeenLaw s.supply.seen
  stored : SeenLaw s.store.seen

/-- A state that meets the law but at one slot, with that slot's record and settled levels. -/
structure SlotAt (n : Plane) (r : Slot) (present closed : Bool) (s : State) : Prop where
  but      : SupplyBut n s
  own      : slotOf s n = r
  presence : s.supply.presence.get n = present
  door     : s.supply.doorClosed = closed

theorem SupplyLaw.fits {s : State} (h : SupplyLaw s) (n : Plane) : Fits (s.supply.presence.get n) s.supply.doorClosed (slotOf s n) :=
  ⟨h.slots n, h.absent n, fun hd => h.door hd n⟩

theorem SupplyLaw.of_fits {s : State} (h : ∀ n, Fits (s.supply.presence.get n) s.supply.doorClosed (slotOf s n))
    (settle : ∀ m, (s.supply.presenceTimers.get m).isSome = true → s.lines.presence.get m ≠ s.supply.presence.get m)
    (shut : s.supply.doorTimer.isSome = true → s.lines.doorClosed = true ∧ s.supply.doorClosed = false) (seen : SeenLaw s.supply.seen)
    (stored : SeenLaw s.store.seen) : SupplyLaw s :=
  ⟨fun n => (h n).law, fun n => (h n).absent, fun hd n => (h n).door hd, settle, shut, seen, stored⟩

theorem SupplyLaw.at {s : State} (h : SupplyLaw s) (n : Plane) :
    SlotAt n (slotOf s n) (s.supply.presence.get n) s.supply.doorClosed s :=
  ⟨⟨fun m _ => h.fits m, h.settle, h.shut, h.seen, h.stored⟩, rfl, rfl, rfl⟩

namespace SlotAt

variable {n : Plane} {r : Slot} {present closed : Bool} {s : State}

theorem law (h : SlotAt n r present closed s) (hr : Fits present closed r) : SupplyLaw s := by
  refine .of_fits (fun m => ?_) h.but.settle h.but.shut h.but.seen h.but.stored
  by_cases hm : n = m
  · subst m; rw [h.own, h.presence, h.door]; exact hr
  · exact h.but.others m hm

/-- Slots change, but only this one, and the rest that the law reads is the same. -/
theorem changed (h : SlotAt n r present closed s) {t : State} {l : List Aspect} (ht : Touches l s t) {q : Slot}
    (hslot : ∀ m, slotOf t m = if n = m then q else slotOf s m)
    (hl : apart l [.lines, .levels, .timers, .seen, .storedSeen] = true := by decide +kernel) : SlotAt n q present closed t := by
  have hsame : ∀ f ∈ [Aspect.lines, .levels, .timers, .seen, .storedSeen], f.same s t := fun f hf => ht.same_of_apart hl hf
  have hlines : t.lines = s.lines := hsame .lines (by decide)
  have hlevels : (t.supply.presence, t.supply.doorClosed) = (s.supply.presence, s.supply.doorClosed) := hsame .levels (by decide)
  have htimers : (t.supply.presenceTimers, t.supply.doorTimer) = (s.supply.presenceTimers, s.supply.doorTimer) := hsame .timers (by decide)
  have hseen : t.supply.seen = s.supply.seen := hsame .seen (by decide)
  have hstored : t.store.seen = s.store.seen := hsame .storedSeen (by decide)
  obtain ⟨hpresence, hdoor⟩ := Prod.mk.inj hlevels
  obtain ⟨htimer, hdoorTimer⟩ := Prod.mk.inj htimers
  refine ⟨⟨fun m hm => ?_, ?_, ?_, hseen ▸ h.but.seen, hstored ▸ h.but.stored⟩, by rw [hslot, if_pos rfl], by rw [hpresence]; exact h.presence,
    hdoor.trans h.door⟩
  · rw [hslot, if_neg hm, hpresence, hdoor]; exact h.but.others m hm
  · rw [htimer, hlines, hpresence]; exact h.but.settle
  · rw [hdoorTimer, hlines, hdoor]; exact h.but.shut

theorem touched (h : SlotAt n r present closed s) {t : State} {l : List Aspect} (ht : Touches l s t)
    (hl : apart l supplyFields = true := by decide +kernel) : SlotAt n r present closed t := by
  have hall := List.all_eq_true.mp hl
  refine h.changed ht (fun m => ?_) (List.all_eq_true.mpr fun f hf => ?_)
  · rw [slotOf_of_touches ht m fun hslots => of_decide_eq_true (hall .slots hslots) (by decide)]
    split
    · subst m; exact h.own
    · rfl
  · have hnot := of_decide_eq_true (hall f hf)
    simp only [List.mem_cons, List.not_mem_nil, or_false, not_or] at hnot
    simp [hnot]

theorem set (h : SlotAt n r present closed s) (q : Slot) : SlotAt n q present closed (setSlot n q s) :=
  h.changed (setSlot_touches s n q) fun m => slotOf_setSlot s n m q

theorem modify (h : SlotAt n r present closed s) (f : Slot → Slot) : SlotAt n (f r) present closed (modifySlot n f s) := by
  rw [modifySlot_eq, h.own]
  exact h.set _

theorem setState (h : SlotAt n r present closed s) (new : SlotState) (offered : Option (BitVec 48 × BitVec 16)) :
    SlotAt n { r with state := new } present closed (setSlotState n new offered s) := by
  refine h.changed (setSlotState_touches ..) fun m => ?_
  unfold setSlotState
  dsimp only
  rw [h.own]
  split
  · rename_i hsame
    split
    · subst m; rw [h.own, ← hsame]
    · rfl
  · rw [slotOf_of_touches (postEvent_touches ..), slotOf_setSlot]

theorem send (h : SlotAt n r present closed s) (exchange : BitVec 64 → Exchange) (frame : BitVec 64 → List LinkChar) :
    ∃ nonce, SlotAt n { r with exchange := exchange nonce, sending := r.sending ++ [⟨frame nonce, true⟩] } present closed
      (sendAttempt n exchange frame s) := by
  refine ⟨Config.nonceSource s.nonceDraws, h.changed (sendAttempt_touches ..) fun m => ?_⟩
  rw [sendAttempt_eq, slotOf_setSlot, h.own]
  rfl

theorem reseen (h : SlotAt n r present closed s) {l : List SeenEntry} (hl : SeenLaw l) : SlotAt n r present closed (putSeen l s) := by
  have hslot := fun m => slotOf_putSeen l s m
  rw [putSeen_eq] at hslot ⊢
  have hstore : (markDirty .seenList s).store = s.store := markDirty_store s .seenList
  have hlines : (markDirty .seenList s).lines = s.lines := markDirty_lines s .seenList
  refine ⟨⟨fun m hm => ?_, ?_, ?_, hl, ?_⟩, (hslot n).trans h.own, h.presence, h.door⟩
  · rw [hslot]; exact h.but.others m hm
  · exact fun m => by rw [hlines]; exact h.but.settle m
  · exact fun hd => by rw [hlines]; exact h.but.shut hd
  · rw [hstore]; exact h.but.stored

end SlotAt

/-! ## The seen list -/

theorem SeenLaw.owe {l : List SeenEntry} (h : SeenLaw l) (serial : BitVec 48) {owed : Nat} (ho : owed ≤ 65535) : SeenLaw (owe serial owed l) := by
  have hserials : (Machine.owe serial owed l).map (·.serial) = l.map (·.serial) := by
    rw [Machine.owe, List.map_map]
    refine List.map_congr_left fun e _ => ?_
    simp only [Function.comp]
    split <;> rfl
  refine ⟨by rw [Machine.owe, List.length_map]; exact h.room, hserials ▸ h.serials, fun e he => ?_⟩
  obtain ⟨x, hx, rfl⟩ := List.mem_map.mp he
  split
  · exact ho
  · exact h.owed x hx

theorem SeenLaw.enter {l : List SeenEntry} (h : SeenLaw l) (serial : BitVec 48) (floor : Nat) : SeenLaw (enterSeen serial floor l) := by
  unfold enterSeen
  have hsub := List.take_sublist 8 ((⟨serial, floor, 0⟩ : SeenEntry) :: l.filter fun e => decide (e.serial ≠ serial))
  refine ⟨List.length_take_le .., List.Nodup.sublist (hsub.map _) ?_, fun e he => ?_⟩
  · rw [List.map_cons, List.nodup_cons]
    refine ⟨fun hmem => ?_, h.serials.sublist (List.filter_sublist.map _)⟩
    obtain ⟨e, he, hserial⟩ := List.mem_map.mp hmem
    exact (of_decide_eq_true (List.mem_filter.mp he).2) hserial
  · obtain rfl | he := List.mem_cons.mp (hsub.mem he)
    · exact Nat.zero_le _
    · exact h.owed e (List.mem_filter.mp he).1

theorem SlotAt.owe {n : Plane} {r : Slot} {present closed : Bool} {s : State} (h : SlotAt n r present closed s) (hr : r.pending ≤ 65535) :
    SlotAt n r present closed (oweSlot n s) := by
  unfold oweSlot
  split
  · exact h
  · split
    · exact h.reseen (h.but.seen.owe _ (h.own ▸ hr))
    · exact h

theorem SlotAt.owePfw {n : Plane} {r : Slot} {present closed : Bool} {s : State} (h : SlotAt n r present closed s) (hr : r.pending ≤ 65535) :
    SlotAt n r present closed (oweUnderPfw n s) := by
  unfold oweUnderPfw
  split
  · exact h.owe hr
  · exact h

/-! ## Records of slots -/

/-- A slot record without an exchange, and not PROBING. -/
structure Slot.Resting (r : Slot) : Prop where
  pending  : r.pending ≤ 65535
  idle     : r.exchange = .none
  state    : r.state ≠ .probing
  attempts : r.attempts = 0

theorem SlotLaw.resting {r : Slot} (h : SlotLaw r) (hidle : r.exchange = .none) : r.Resting := by
  refine ⟨h.pending, hidle, fun hp => ?_, by rw [h.attempts, if_pos hidle]⟩
  obtain ⟨a, nonce, hx⟩ := h.probing.mp hp
  rw [hidle] at hx
  cases hx

theorem Slot.Resting.law {r : Slot} (h : r.Resting) : SlotLaw r := by
  refine ⟨h.pending, ⟨fun hp => absurd hp h.state, fun ⟨a, nonce, hx⟩ => ?_⟩, fun a nonce t c hx => ?_, by rw [h.attempts, if_pos h.idle]⟩
  all_goals
    rw [h.idle] at hx
    cases hx

/-- One live frame more on the link. -/
theorem Slot.attempts_send (r : Slot) (frame : List LinkChar) (x : Exchange) :
    ({ r with exchange := x, sending := r.sending ++ [⟨frame, true⟩] } : Slot).attempts = r.attempts + 1 := by
  simp only [Slot.attempts, List.filter_append, List.length_append]
  simp
  omega

/-- A record whose window is closed and that sends no live frame counts no attempt. -/
theorem Slot.attempts_closed {r : Slot} (h : r.attempts = 0) (x : Exchange) :
    ({ r with exchange := x, window := none } : Slot).attempts = 0 := by
  simp only [Slot.attempts] at h ⊢
  simp
  simp at h
  simpa using h.1

theorem SlotLaw.ident {r : Slot} (hpending : r.pending ≤ 65535) (hattempts : r.attempts = 0) (a : Nat) (nonce : BitVec 64) (frame : List LinkChar)
    (hstate : r.state = .probing) :
    SlotLaw { r with exchange := .ident a nonce, sending := r.sending ++ [⟨frame, true⟩] } := by
  refine ⟨hpending, ⟨fun _ => ⟨a, nonce, rfl⟩, fun _ => hstate⟩, (fun _ _ _ _ hx => by cases hx), ?_⟩
  rw [Slot.attempts_send, hattempts]
  rfl

theorem SlotLaw.debiting {r : Slot} (hpending : r.pending ≤ 65535) (hattempts : r.attempts = 0) (a : Nat) (nonce : BitVec 64) (target : Nat)
    (capped : Bool) (frame : List LinkChar) (hstate : r.state = .verified) (hcart : r.cartridge.isSome = true) :
    SlotLaw { r with exchange := .debit a nonce target capped, sending := r.sending ++ [⟨frame, true⟩] } := by
  refine ⟨hpending, ⟨fun hp => ?_, fun ⟨_, _, hx⟩ => by cases hx⟩, fun _ _ _ _ _ => ⟨hstate, hcart⟩, ?_⟩
  · rw [show r.state = .probing from hp] at hstate
    cases hstate
  · rw [Slot.attempts_send, hattempts]
    rfl

/-! ## Exchanges that begin, fail and end -/

namespace SlotAt

variable {n : Plane} {r : Slot} {present closed : Bool} {s : State}

/-- An IDENT exchange begins on a slot that is present behind a closed door. -/
theorem beginIdent (h : SlotAt n r true true s) (hpending : r.pending ≤ 65535) (hattempts : r.attempts = 0) : SupplyLaw (beginIdent n s) := by
  obtain ⟨nonce, hsent⟩ := ((h.modify fun r => { r with probeDelay := none, reprobe := none }).setState .probing none).send (.ident 1) askFrame
  exact hsent.law ⟨SlotLaw.ident (r := { r with probeDelay := none, reprobe := none, state := .probing }) hpending hattempts 1 nonce _ rfl,
    ⟨nofun, nofun⟩, nofun⟩

/-- The debit start condition is tested on a slot at rest. -/
theorem testDebit (h : SlotAt n r present closed s) (hr : r.Resting) (habsent : r.state = .absent ↔ present = false)
    (hdoor : closed = false → r.state = .absent ∨ r.state = .unknown) : SupplyLaw (testDebit n s) := by
  have hrests : SupplyLaw s := h.law ⟨hr.law, habsent, hdoor⟩
  unfold Machine.testDebit
  dsimp only
  rw [h.own]
  split
  · rename_i c hc
    split
    · rename_i hstarts
      simp only [Slot.startsDebit, Bool.and_eq_true, decide_eq_true_eq] at hstarts
      obtain ⟨nonce, hsent⟩ := h.send (fun nonce => .debit 1 nonce (min (c.dispensed + r.pending) c.capacity)
        (decide (c.capacity < c.dispensed + r.pending))) (debitFrame (min (c.dispensed + r.pending) c.capacity))
      exact hsent.law ⟨.debiting hr.pending hr.attempts 1 nonce _ _ _ hstarts.1.1.1 (by rw [hc]; rfl), habsent, hdoor⟩
    · exact hrests
  · exact hrests

theorem testLow (h : SlotAt n r present closed s) : ∃ warned, SlotAt n { r with lowWarned := warned } present closed (testLow n s) := by
  unfold Machine.testLow
  dsimp only
  rw [h.own]
  split
  · split
    · exact ⟨true, (h.set _).touched (postEvent_touches ..)⟩
    · exact ⟨r.lowWarned, h⟩
  · exact ⟨r.lowWarned, h⟩

theorem endExchange (h : SlotAt n r present closed s) :
    SlotAt n { r with exchange := .none, window := none } present closed (endExchange n s) :=
  h.modify fun r => { r with exchange := .none, window := none }

theorem answerProbes (h : SlotAt n r present closed s) : SlotAt n r present closed (answerProbes n s) := h.touched (answerProbes_touches ..)

end SlotAt

/-- A slot whose attempt has failed: its exchange is still in flight, and no attempt is (R124, R125). -/
structure Slot.Failing (r : Slot) : Prop where
  pending  : r.pending ≤ 65535
  probing  : r.state = .probing ↔ ∃ a nonce, r.exchange = .ident a nonce
  debit    : ∀ a nonce t c, r.exchange = .debit a nonce t c → r.state = .verified ∧ r.cartridge.isSome = true
  attempts : r.attempts = 0

theorem SlotLaw.failing {r : Slot} (h : SlotLaw r) (hwindow : r.window.isSome = true) : Slot.Failing { r with window := none } := by
  refine ⟨h.pending, h.probing, h.debit, ?_⟩
  have hattempts := h.attempts
  simp only [Slot.attempts, hwindow, if_true] at hattempts
  simp only [Slot.attempts]
  split at hattempts
  · simp at hattempts
  · simpa using hattempts

/-- The levels under which an exchange is in flight: a slot that is PROBING or VERIFIED is present behind a closed door. -/
theorem Fits.inFlight {present closed : Bool} {r : Slot} (habsent : r.state = .absent ↔ present = false)
    (hdoor : closed = false → r.state = .absent ∨ r.state = .unknown) (hstate : r.state = .probing ∨ r.state = .verified) :
    present = true ∧ closed = true := by
  constructor
  · by_contra hp
    obtain hs | hs := hstate <;> rw [habsent.mpr (by simpa using hp)] at hs <;> cases hs
  · by_contra hc
    obtain hs | hs := hstate <;> obtain hd | hd := hdoor (by simpa using hc) <;> rw [hs] at hd <;> cases hd

theorem SlotAt.failAttempt {n : Plane} {r : Slot} {present closed : Bool} {s : State} (h : SlotAt n r present closed s) (hr : r.Failing)
    (habsent : r.state = .absent ↔ present = false) (hdoor : closed = false → r.state = .absent ∨ r.state = .unknown) :
    SupplyLaw (failAttempt n s) := by
  unfold Machine.failAttempt
  rw [h.own]
  split
  · rename_i hx
    refine h.law ⟨⟨hr.pending, hr.probing, hr.debit, by rw [hr.attempts, if_pos hx]⟩, habsent, hdoor⟩
  · rename_i a old hx
    have hstate : r.state = .probing := hr.probing.mpr ⟨a, old, hx⟩
    split
    · obtain ⟨nonce, hsent⟩ := h.send (.ident (a + 1)) askFrame
      exact hsent.law ⟨.ident hr.pending hr.attempts (a + 1) nonce _ hstate, habsent, hdoor⟩
    · obtain ⟨rfl, rfl⟩ := Fits.inFlight habsent hdoor (.inl hstate)
      refine SlotAt.law (((h.endExchange.setState .suspect none).modify _).answerProbes) ⟨Slot.Resting.law ⟨hr.pending, rfl, nofun, ?_⟩, ⟨nofun, nofun⟩, nofun⟩
      exact Slot.attempts_closed hr.attempts .none
  · rename_i a old target capped hx
    obtain ⟨hstate, hcart⟩ := hr.debit a old target capped hx
    split
    · obtain ⟨nonce, hsent⟩ := h.send (fun nonce => .debit (a + 1) nonce target capped) (debitFrame target)
      exact hsent.law ⟨.debiting hr.pending hr.attempts (a + 1) nonce target capped _ hstate hcart, habsent, hdoor⟩
    · obtain ⟨rfl, rfl⟩ := Fits.inFlight habsent hdoor (.inr hstate)
      have hended := h.endExchange.modify fun r => { r with retryWaiting := true }
      have hclosed := Slot.attempts_closed hr.attempts .none
      unfold debitFailed afterDebit
      split
      · exact hended.beginIdent hr.pending hclosed
      · refine hended.law ⟨Slot.Resting.law ⟨hr.pending, rfl, ?_, hclosed⟩, habsent, hdoor⟩
        rw [show r.state = .verified from hstate]
        nofun

theorem SupplyLaw.of_same {s t : State} (h : ∀ f ∈ supplyFields, f.same s t) (hs : SupplyLaw s) : SupplyLaw t := by
  have hlines : t.lines = s.lines := h .lines (by decide)
  have hslots : t.supply.slots = s.supply.slots := h .slots (by decide)
  have hlevels : (t.supply.presence, t.supply.doorClosed) = (s.supply.presence, s.supply.doorClosed) := h .levels (by decide)
  have htimers : (t.supply.presenceTimers, t.supply.doorTimer) = (s.supply.presenceTimers, s.supply.doorTimer) := h .timers (by decide)
  have hseen : t.supply.seen = s.supply.seen := h .seen (by decide)
  have hstored : t.store.seen = s.store.seen := h .storedSeen (by decide)
  obtain ⟨hpresence, hdoor⟩ := Prod.mk.inj hlevels
  obtain ⟨htimer, hdoorTimer⟩ := Prod.mk.inj htimers
  have hslot : ∀ n, slotOf t n = slotOf s n := fun n => by rw [slotOf, hslots]; rfl
  refine .of_fits (fun n => ?_) ?_ ?_ (hseen ▸ hs.seen) (hstored ▸ hs.stored)
  · rw [hslot, hpresence, hdoor]; exact hs.fits n
  · rw [htimer, hlines, hpresence]; exact hs.settle
  · rw [hdoorTimer, hlines, hdoor]; exact hs.shut

theorem SupplyLaw.touched {l : List Aspect} {s t : State} (h : SupplyLaw s) (ht : Touches l s t)
    (hl : apart l supplyFields = true := by decide +kernel) : SupplyLaw t :=
  h.of_same fun _ hf => ht.same_of_apart hl hf

/-! ## Verification (R129 to R131) -/

/-- Owed written changes no floor and no serial. -/
theorem seenOf_owe (serial : BitVec 48) (owed : Nat) (l : List SeenEntry) (k : BitVec 48) :
    (owe serial owed l).find? (fun e => decide (e.serial = k)) =
      (l.find? fun e => decide (e.serial = k)).map fun e => if e.serial = serial then { e with owed := owed } else e := by
  rw [owe, List.find?_map]
  congr 2
  funext e
  simp only [Function.comp]
  split <;> rfl

theorem seenOf_oweSlot {n : Plane} {s : State} {k : BitVec 48} {e : SeenEntry} (h : seenOf (oweSlot n s) k = some e) :
    ∃ x, seenOf s k = some x ∧ x.floor = e.floor := by
  unfold oweSlot at h
  split at h
  · exact ⟨e, h, rfl⟩
  · split at h
    · rw [seenOf, putSeen_eq] at h
      dsimp only at h
      rw [seenOf_owe] at h
      obtain ⟨x, hx, rfl⟩ := Option.map_eq_some_iff.mp h
      exact ⟨x, hx, by split <;> rfl⟩
    · exact ⟨e, h, rfl⟩

theorem floor_le_of_identCheck {n : Plane} {nonce : BitVec 64} {i : IdentClaim} {tag : BitVec 64} {s : State}
    (h : identCheck n nonce i tag s = none) : floorOfRecord n i.serial s ≤ i.dispensed := by
  unfold identCheck at h
  split at h
  · cases h
  · split_ifs at h with h1 h2 h3 h4
    exact Nat.le_of_not_lt h4

/-- The pending that a verification leaves is at most what was owed (R131, step 2). -/
theorem verifiedPending_le {n : Plane} {i : IdentClaim} {s t : State} (hfloor : floorOfRecord n i.serial s ≤ i.dispensed)
    (hslot : slotOf t n = slotOf s n) (hpending : (slotOf s n).pending ≤ 65535) (hseen : SeenLaw t.supply.seen)
    (hentry : ∀ e, seenOf t i.serial = some e → ∃ x, seenOf s i.serial = some x ∧ x.floor = e.floor) :
    verifiedPending n i t ≤ 65535 := by
  have hlisted : ((seenOf t i.serial).map fun e => e.floor + e.owed - i.dispensed).getD 0 ≤ 65535 := by
    cases he : seenOf t i.serial with
    | none => simp
    | some e =>
      obtain ⟨x, hx, hxf⟩ := hentry e he
      have howed := hseen.owed e (List.mem_of_find?_eq_some he)
      simp only [floorOfRecord, hx, Option.map_some, Option.getD_some, Nat.max_le] at hfloor
      simp only [Option.map_some, Option.getD_some]
      omega
  unfold verifiedPending
  dsimp only
  rw [hslot]
  split
  · rename_i c hc
    split
    · rename_i hserial
      simp only [floorOfRecord, hc, if_pos hserial, Nat.max_le] at hfloor
      omega
    · exact hlisted
  · exact hlisted

theorem SlotAt.takeVerified {n : Plane} {r : Slot} {s : State} (h : SlotAt n r true true s) (hpending : r.pending ≤ 65535)
    (hidle : r.exchange = .none) (hattempts : r.attempts = 0) (i : IdentClaim) (hfloor : floorOfRecord n i.serial s ≤ i.dispensed) :
    SupplyLaw (takeVerified n i s) := by
  unfold Machine.takeVerified
  dsimp only
  generalize hsame : decide ((slotOf s n).serial = some i.serial) = same
  have howed : SlotAt n r true true (if same = true then s else oweSlot n s) := by
    split
    · exact h
    · exact h.owe hpending
  have hleft : verifiedPending n i (if same = true then s else oweSlot n s) ≤ 65535 := by
    refine verifiedPending_le hfloor (howed.own.trans h.own.symm) (h.own ▸ hpending) howed.but.seen fun e he => ?_
    split at he
    · exact ⟨e, he, rfl⟩
    · exact seenOf_oweSlot he
  generalize verifiedPending n i (if same = true then s else oweSlot n s) = pending at hleft
  generalize (if same = true then s else oweSlot n s) = t at howed
  obtain ⟨c, w, hcleared⟩ : ∃ c w, SlotAt n { r with clamped := c, lowWarned := w } true true
      (if same = true then t else clearResidue n (modifySlot n (fun r => { r with clamped := false, lowWarned := false }) t)) := by
    split
    · exact ⟨r.clamped, r.lowWarned, howed⟩
    · exact ⟨false, false, (howed.modify fun r => { r with clamped := false, lowWarned := false }).touched (clearResidue_touches ..)⟩
  have hfilled := hcleared.modify fun r => { r with
    cartridge := some ⟨i.serial, i.model, i.capacity, i.dispensed, i.flags⟩, pending := pending, retryWaiting := false }
  have hlisted := (hfilled.reseen (hfilled.but.seen.enter i.serial i.dispensed)).owePfw hleft
  rw [hlisted.own]
  obtain ⟨w', hlow⟩ := (hlisted.setState (verifiedState _) none).testLow
  have hstate : ∀ x : Slot, verifiedState x = .exhausted ∨ verifiedState x = .verified := fun x => by
    unfold verifiedState
    split
    · exact .inl rfl
    · exact .inr rfl
  refine hlow.testDebit ⟨hleft, hidle, ?_, hattempts⟩ ⟨?_, nofun⟩ nofun
  · dsimp only
    obtain hx | hx := hstate _ <;> rw [hx] <;> nofun
  · dsimp only
    obtain hx | hx := hstate _ <;> rw [hx] <;> nofun

theorem SlotAt.judgeIdent {n : Plane} {r : Slot} {s : State} (h : SlotAt n r true true s) (hpending : r.pending ≤ 65535)
    (hattempts : r.attempts = 0) (nonce : BitVec 64) (i : IdentClaim) (tag : BitVec 64) : SupplyLaw (judgeIdent n nonce i tag s) := by
  have hclosed := Slot.attempts_closed hattempts .none
  unfold Machine.judgeIdent
  dsimp only
  refine SupplyLaw.touched ?_ (answerProbes_touches ..)
  split
  · exact (h.endExchange.setState (.rejected _) _).law ⟨Slot.Resting.law ⟨hpending, rfl, nofun, hclosed⟩, ⟨nofun, nofun⟩, nofun⟩
  · exact h.endExchange.takeVerified hpending rfl hclosed i (floor_le_of_identCheck ‹_›)

/-! ## Confirmation (R137) -/

theorem SlotAt.afterDebit {n : Plane} {r : Slot} {s : State} (h : SlotAt n r true true s) (hr : r.Resting) (hstate : r.state ≠ .absent) :
    SupplyLaw (afterDebit n (Machine.testDebit n) s) := by
  unfold Machine.afterDebit
  split
  · exact h.beginIdent hr.pending hr.attempts
  · exact h.testDebit hr ⟨fun hx => absurd hx hstate, nofun⟩ nofun

theorem SlotAt.confirmDebit {n : Plane} {r : Slot} {s : State} (h : SlotAt n r true true s) (hpending : r.pending ≤ 65535)
    (hattempts : r.attempts = 0) (hstate : r.state = .verified) (c : Cartridge) (target : Nat) (capped : Bool) :
    SupplyLaw (confirmDebit n c target capped s) := by
  have hleft : (if capped then 0 else r.pending - (target - c.dispensed)) ≤ 65535 := by split <;> omega
  have hfilled := h.modify fun r => { r with
    cartridge := some { c with dispensed := target }, pending := if capped then 0 else r.pending - (target - c.dispensed) }
  have hlisted := (hfilled.reseen (hfilled.but.seen.enter c.serial target)).owePfw hleft
  unfold Machine.confirmDebit
  dsimp only
  generalize oweUnderPfw n _ = t at hlisted ⊢
  have hclosed := Slot.attempts_closed hattempts .none
  split
  · obtain ⟨w, hlow⟩ := (hlisted.setState .exhausted none).testLow
    exact hlow.endExchange.afterDebit ⟨hleft, rfl, nofun, hclosed⟩ nofun
  · obtain ⟨w, hlow⟩ := hlisted.testLow
    refine hlow.endExchange.afterDebit ⟨hleft, rfl, ?_, hclosed⟩ ?_ <;>
    · rw [show r.state = .verified from hstate]
      nofun

theorem SlotAt.judgeTally {n : Plane} {r : Slot} {s : State} (h : SlotAt n r true true s) (hpending : r.pending ≤ 65535)
    (hattempts : r.attempts = 0) (hstate : r.state = .verified) (hcart : r.cartridge.isSome = true) (nonce : BitVec 64) (target : Nat)
    (capped : Bool) (serial : BitVec 48) (dispensed : Nat) (tag : BitVec 64) :
    SupplyLaw (judgeTally n nonce target capped serial dispensed tag s) := by
  unfold Machine.judgeTally
  rw [h.own]
  split
  · rename_i hnone
    rw [hnone] at hcart
    cases hcart
  · split
    · exact (h.endExchange.setState (.rejected _) none).answerProbes.law
        ⟨Slot.Resting.law ⟨hpending, rfl, nofun, Slot.attempts_closed hattempts .none⟩, ⟨nofun, nofun⟩, nofun⟩
    · exact h.confirmDebit hpending hattempts hstate _ target capped

theorem SlotAt.judgeAnswer {n : Plane} {r : Slot} {present closed : Bool} {s : State} (h : SlotAt n r present closed s) (hr : r.Failing)
    (habsent : r.state = .absent ↔ present = false) (hdoor : closed = false → r.state = .absent ∨ r.state = .unknown) (f : LinkFrame) :
    SupplyLaw (judgeAnswer n f s) := by
  unfold Machine.judgeAnswer
  rw [h.own]
  split
  · rename_i a nonce _ _ _ _ _ _ hx
    obtain ⟨rfl, rfl⟩ := Fits.inFlight habsent hdoor (.inl (hr.probing.mpr ⟨a, nonce, hx⟩))
    exact h.judgeIdent hr.pending hr.attempts ..
  · rename_i a nonce target capped _ _ _ hx
    obtain ⟨hstate, hcart⟩ := hr.debit a nonce target capped hx
    obtain ⟨rfl, rfl⟩ := Fits.inFlight habsent hdoor (.inr hstate)
    exact h.judgeTally hr.pending hr.attempts hstate hcart ..
  · exact (h.modify fun r => { r with lastDecline := some _ }).failAttempt ⟨hr.pending, hr.probing, hr.debit, hr.attempts⟩ habsent hdoor
  · exact h.failAttempt hr habsent hdoor

/-! ## The commands of the links and timers -/

theorem SupplyLaw.frameReceived {s u : State} (h : SupplyLaw s) {n : Plane} {chars : List LinkChar} (hu : frameReceived n chars s = some u) :
    SupplyLaw u := by
  obtain ⟨t, f, hwindow, -, -, -, rfl⟩ := frameReceived_some hu
  have hfits := h.fits n
  exact ((h.at n).modify fun r => { r with window := none }).judgeAnswer (hfits.law.failing (by rw [hwindow]; rfl)) hfits.absent hfits.door f

theorem SupplyLaw.windowExpired {s u : State} (h : SupplyLaw s) {n : Plane} (hu : windowExpired n s = some u) : SupplyLaw u := by
  obtain ⟨t, hwindow, rfl⟩ := Option.map_eq_some_iff.mp hu
  have hfits := h.fits n
  exact (((h.at n).touched (reachTime_touches s t 20)).modify fun r => { r with window := none }).failAttempt
    (hfits.law.failing (by rw [hwindow]; rfl)) hfits.absent hfits.door

theorem SlotLaw.sent {r : Slot} (h : SlotLaw r) {f : Sending} {rest : List Sending} (hs : r.sending = f :: rest) (now : Time) :
    SlotLaw { r with sending := rest, window := if f.live then some now else r.window } := by
  refine ⟨h.pending, h.probing, h.debit, ?_⟩
  have hattempts := h.attempts
  simp only [Slot.attempts, hs] at hattempts ⊢
  cases hf : f.live <;> simp only [hf, List.filter_cons, if_true, Bool.false_eq_true, if_false, List.length_cons] at hattempts ⊢
  · exact hattempts
  · rw [if_pos (by rfl : (some now).isSome = true)]
    split at hattempts <;> split at hattempts <;> simp_all

theorem SupplyLaw.frameSent {s u : State} (h : SupplyLaw s) {n : Plane} (hu : frameSent n s = some u) : SupplyLaw u := by
  unfold Machine.frameSent at hu
  split at hu
  · cases hu
  · rename_i f rest hs
    cases hu
    have hfits := h.fits n
    exact ((h.at n).modify fun r => { r with sending := rest, window := if f.live then some s.time else r.window }).law
      ⟨hfits.law.sent hs s.time, hfits.absent, hfits.door⟩

/-- An IDENT exchange begins where a slot at rest may be probed; elsewhere the slot is as its timer's end leaves it. -/
theorem SlotAt.probe {n : Plane} {r : Slot} {present closed : Bool} {s : State} (h : SlotAt n r present closed s) (hfits : Fits present closed r)
    {st : SlotState} (hstate : st ≠ .probing ∧ st ≠ .verified) :
    SupplyLaw (if (decide ((slotOf s n).state = st) && mayProbe n s) = true then Machine.beginIdent n s else s) := by
  split
  · rename_i hprobe
    simp only [mayProbe, h.own, h.presence, h.door, Bool.and_eq_true, decide_eq_true_eq] at hprobe
    obtain ⟨hst, rfl, rfl⟩ := hprobe
    refine h.beginIdent hfits.law.pending ?_
    rw [hfits.law.attempts, if_pos]
    cases hx : r.exchange with
    | none => rfl
    | ident a nonce => exact absurd (hst.symm.trans (hfits.law.probing.mpr ⟨a, nonce, hx⟩)) hstate.1
    | debit a nonce t c => exact absurd (hst.symm.trans (hfits.law.debit a nonce t c hx).1) hstate.2
  · exact h.law hfits

theorem SupplyLaw.probeDelayExpired {s u : State} (h : SupplyLaw s) {n : Plane} (hu : probeDelayExpired n s = some u) : SupplyLaw u := by
  obtain ⟨t, -, rfl⟩ := Option.map_eq_some_iff.mp hu
  have hfits := h.fits n
  exact (((h.at n).touched (reachTime_touches s t 500)).modify fun r => { r with probeDelay := none }).probe
    ⟨⟨hfits.law.pending, hfits.law.probing, hfits.law.debit, hfits.law.attempts⟩, hfits.absent, hfits.door⟩ ⟨nofun, nofun⟩

theorem SupplyLaw.reprobeExpired {s u : State} (h : SupplyLaw s) {n : Plane} (hu : reprobeExpired n s = some u) : SupplyLaw u := by
  obtain ⟨t, -, rfl⟩ := Option.map_eq_some_iff.mp hu
  have hfits := h.fits n
  exact (((h.at n).touched (reachTime_touches s t 2000)).modify fun r => { r with reprobe := none }).probe
    ⟨⟨hfits.law.pending, hfits.law.probing, hfits.law.debit, hfits.law.attempts⟩, hfits.absent, hfits.door⟩ ⟨nofun, nofun⟩

/-! ## Debits and the supply orders -/

theorem SupplyLaw.testDebit {s : State} (h : SupplyLaw s) (n : Plane) : SupplyLaw (testDebit n s) := by
  by_cases hx : (slotOf s n).exchange = .none
  · exact (h.at n).testDebit ((h.slots n).resting hx) (h.fits n).absent (h.fits n).door
  · rw [testDebit_eq]
    unfold debitTested
    dsimp only
    split
    · rw [if_neg fun hc => hx hc.2.1]
      exact h
    · exact h

theorem SlotAt.addDebit {n : Plane} {r : Slot} {present closed : Bool} {s : State} (h : SlotAt n r present closed s) (hfits : Fits present closed r)
    (debit : Nat) : SupplyLaw (addDebit n debit s) := by
  unfold Machine.addDebit
  dsimp only
  rw [h.own]
  have hset := h.set { r with pending := min (r.pending + debit) 65535, clamped := r.clamped || decide (65535 < r.pending + debit), retryWaiting := false }
  have hlaw : Fits present closed { r with pending := min (r.pending + debit) 65535, clamped := r.clamped || decide (65535 < r.pending + debit), retryWaiting := false } :=
    ⟨⟨Nat.min_le_right .., hfits.law.probing, hfits.law.debit, hfits.law.attempts⟩, hfits.absent, hfits.door⟩
  refine SupplyLaw.testDebit ?_ n
  have hposted : ∀ (b : Bool) (e : Event), SlotAt n { r with pending := min (r.pending + debit) 65535, clamped := r.clamped || decide (65535 < r.pending + debit), retryWaiting := false } present closed
      (if b = true then postEvent e (setSlot n { r with pending := min (r.pending + debit) 65535, clamped := r.clamped || decide (65535 < r.pending + debit), retryWaiting := false } s)
        else setSlot n { r with pending := min (r.pending + debit) 65535, clamped := r.clamped || decide (65535 < r.pending + debit), retryWaiting := false } s) := fun b e => by
    split
    · exact hset.touched (postEvent_touches ..)
    · exact hset
  split
  · exact (hposted ..).law hlaw
  · exact ((hposted ..).owePfw (Nat.min_le_right ..)).law hlaw

theorem SupplyLaw.addDebit {s : State} (h : SupplyLaw s) (n : Plane) (debit : Nat) : SupplyLaw (addDebit n debit s) :=
  (h.at n).addDebit (h.fits n) debit

theorem SupplyLaw.settleDebits {s : State} (h : SupplyLaw s) (p : Page) (debits : Quad Nat) : SupplyLaw (settleDebits p debits s) := by
  unfold Machine.settleDebits
  generalize planesOf p.colour = l
  induction l generalizing s with
  | nil => exact h
  | cons n l ih => exact ih (h.addDebit n _)

theorem SupplyLaw.settlePage {s : State} (h : SupplyLaw s) (slot : Nat) (o : Outcome) : SupplyLaw (settlePage slot o s) := by
  unfold Machine.settlePage
  split
  · exact h
  · dsimp only
    refine SupplyLaw.touched (SupplyLaw.touched (SupplyLaw.touched ?_ (postEvent_touches ..)) (unmarkFrames_touches ..)) (setPage_touches ..)
    split
    · exact SupplyLaw.settleDebits ((h.touched (settleResidues_touches ..)).touched (chargePage_touches ..)) ..
    · exact h

theorem supplyLaw_pageLaw : PageLaw supplyFields SupplyLaw where
  reads h hs := hs.of_same h
  quiet := rfl
  dropped h _ _ := h.touched (dropPage_touches ..)
  settled h _ _ _ := h.settlePage _ _
  tallied _ _ _ h := h.touched (setJob_touches ..)
  closing _ h _ _ := h.touched (setJob_touches ..)
  released cause h _ _ := h.touched (releaseJob_touches _ _ cause)
  admitted h _ := h.touched (takeAdmission_touches ..)
  served slot lo plain n h := h.touched (servePlane_touches _ slot lo plain n)

theorem SupplyLaw.probeSlotOrder {s : State} (h : SupplyLaw s) (ps : List Nat) : SupplyLaw (probeSlotOrder ps s).1 := by
  unfold Machine.probeSlotOrder
  split
  · exact h
  · rename_i n _
    refine checked_keeps h fun hchecks => ?_
    simp only [List.mem_cons, List.not_mem_nil, or_false, forall_eq_or_imp, forall_eq, Bool.or_eq_false_iff, decide_eq_false_iff_not,
      Bool.not_eq_false'] at hchecks
    obtain ⟨⟨habsent, hclosed⟩, -⟩ := hchecks
    have hdeferred := h.touched (deferOrder_touches s s.orders.take (.probeSlot n))
    dsimp only
    split
    · rename_i hx
      have hpresent : s.supply.presence.get n = true := by
        by_contra hp
        exact habsent ((h.absent n).mpr (by simpa using hp))
      have hrest := (hdeferred.slots n).resting hx
      have hat := hdeferred.at n
      rw [show (deferOrder s.orders.take (.probeSlot n) s).supply.presence.get n = true from hpresent,
        show (deferOrder s.orders.take (.probeSlot n) s).supply.doorClosed = true from hclosed] at hat
      exact hat.beginIdent hrest.pending hrest.attempts
    · exact hdeferred

theorem SupplyLaw.setSupplyOrder {s : State} (h : SupplyLaw s) (ps : List Nat) : SupplyLaw (setSupplyOrder ps s).1 := by
  refine checked_keeps h fun _ => SupplyLaw.touched ?_ (markDirty_touches ..)
  refine SupplyLaw.testDebit (SupplyLaw.testDebit (SupplyLaw.testDebit (SupplyLaw.testDebit ?_ 0) 1) 2) 3
  exact h.of_same fun f hf => by fin_cases hf <;> rfl

end Sys2Proof.Machine
end

section
/-! The Supply Unit's law (O59), continued: the board lines, the meter store, resets, and every step. -/

namespace Sys2Proof.Machine

set_option Elab.async false

/-! ## The door (R120, R121, R123) -/

/-- What the abandoning of its exchange makes of a slot (R126). -/
def Slot.abandoned (r : Slot) : Slot :=
  if r.exchange = .none then r else { r with exchange := .none, window := none, sending := dropSending r.sending }

theorem slotOf_abandonExchange (n : Plane) (s : State) (m : Plane) :
    slotOf (abandonExchange n s) m = if n = m then (slotOf s n).abandoned else slotOf s m := by
  unfold abandonExchange Slot.abandoned
  split
  · split
    · subst m; rfl
    · rfl
  · rw [modifySlot_eq, slotOf_setSlot]

/-- What the door's opening makes of a slot (R121, steps 2 and 3). -/
def Slot.opened (r : Slot) : Slot := if r.state = .absent then r else { r with state := .unknown, probeDelay := none, reprobe := none }

theorem slotOf_doorOpensSlot (n : Plane) (s : State) (m : Plane) :
    slotOf (doorOpensSlot n s) m = if n = m then (slotOf s n).opened else slotOf s m := by
  unfold doorOpensSlot Slot.opened stopSlotTimers
  split
  · split
    · subst m; rfl
    · rfl
  · rw [setSlotState_eq, modifySlot_eq, slotOf_setSlot]
    simp only [slotOf_slotChanged, if_true]
    split <;> rfl

/-- A change made of each slot in turn. -/
theorem slotOf_each {F : Plane → State → State} {g : Slot → Slot}
    (h : ∀ n s m, slotOf (F n s) m = if n = m then g (slotOf s n) else slotOf s m) (s : State) (m : Plane) :
    slotOf (F 3 (F 2 (F 1 (F 0 s)))) m = g (slotOf s m) := by
  fin_cases m <;> simp [h]

theorem SlotLaw.abandoned {r : Slot} (h : SlotLaw r) : r.abandoned.pending ≤ 65535 ∧ r.abandoned.exchange = .none ∧ r.abandoned.attempts = 0 ∧
    r.abandoned.state = r.state := by
  unfold Slot.abandoned
  split
  · rename_i hx
    exact ⟨h.pending, hx, (h.resting hx).attempts, rfl⟩
  · refine ⟨h.pending, rfl, ?_, rfl⟩
    simp only [Slot.attempts]
    cases r.sending <;> simp [dropSending]

/-- An ABSENT or UNKNOWN slot without an exchange rests. -/
theorem Slot.Resting.opened {r : Slot} (hpending : r.pending ≤ 65535) (hidle : r.exchange = .none) (hattempts : r.attempts = 0) :
    r.opened.Resting ∧ (r.opened.state = .absent ↔ r.state = .absent) ∧ (r.opened.state = .absent ∨ r.opened.state = .unknown) := by
  unfold Slot.opened
  split
  · rename_i habsent
    exact ⟨⟨hpending, hidle, by rw [habsent]; nofun, hattempts⟩, Iff.rfl, .inl habsent⟩
  · rename_i hpresent
    exact ⟨⟨hpending, hidle, nofun, hattempts⟩, ⟨nofun, fun h => absurd h hpresent⟩, .inr rfl⟩

/-- The levels, timers and lists that the law reads beside the slots. -/
abbrev aroundSlots : List Aspect := [.lines, .levels, .timers, .seen, .storedSeen]

theorem SupplyLaw.reslot {s t : State} (slots : ∀ n, Fits (s.supply.presence.get n) s.supply.doorClosed (slotOf t n))
    (settle : ∀ m, (s.supply.presenceTimers.get m).isSome = true → s.lines.presence.get m ≠ s.supply.presence.get m)
    (shut : s.supply.doorTimer.isSome = true → s.lines.doorClosed = true ∧ s.supply.doorClosed = false) (seen : SeenLaw s.supply.seen)
    (stored : SeenLaw s.store.seen) {l : List Aspect} (ht : Touches l s t) (hl : apart l aroundSlots = true := by decide +kernel) :
    SupplyLaw t := by
  have hsame : ∀ f ∈ aroundSlots, f.same s t := fun f hf => ht.same_of_apart hl hf
  have hlines : t.lines = s.lines := hsame .lines (by decide)
  have hlevels : (t.supply.presence, t.supply.doorClosed) = (s.supply.presence, s.supply.doorClosed) := hsame .levels (by decide)
  have htimers : (t.supply.presenceTimers, t.supply.doorTimer) = (s.supply.presenceTimers, s.supply.doorTimer) := hsame .timers (by decide)
  have hseen : t.supply.seen = s.supply.seen := hsame .seen (by decide)
  have hstored : t.store.seen = s.store.seen := hsame .storedSeen (by decide)
  obtain ⟨hpresence, hdoor⟩ := Prod.mk.inj hlevels
  obtain ⟨htimer, hdoorTimer⟩ := Prod.mk.inj htimers
  refine .of_fits (fun n => ?_) ?_ ?_ (hseen ▸ seen) (hstored ▸ stored)
  · rw [hpresence, hdoor]; exact slots n
  · rw [htimer, hlines, hpresence]; exact settle
  · rw [hdoorTimer, hlines, hdoor]; exact shut

/-- The door opens. -/
theorem doorOpened_law {s : State} (slots : ∀ n, SlotLaw (slotOf s n)) (absent : ∀ n, (slotOf s n).state = .absent ↔ s.supply.presence.get n = false)
    (settle : ∀ m, (s.supply.presenceTimers.get m).isSome = true → s.lines.presence.get m ≠ s.supply.presence.get m)
    (seen : SeenLaw s.supply.seen) (stored : SeenLaw s.store.seen) : SupplyLaw (doorOpened s) := by
  unfold doorOpened
  dsimp only
  refine SupplyLaw.touched ?_ (postLines_touches _)
  refine SupplyLaw.reslot (s := { s with supply := { s.supply with doorClosed := false, doorTimer := none } }) (fun n => ?_) settle nofun seen stored
    ((((abandonExchange_touches _ 0).trans (abandonExchange_touches _ 1)).trans ((abandonExchange_touches _ 2).trans (abandonExchange_touches _ 3))).then
      (k := .deferred :: changing) ((doorAnswers_touches _).then (k := .deferred :: changing)
        (((doorOpensSlot_touches _ 0).trans (doorOpensSlot_touches _ 1)).trans ((doorOpensSlot_touches _ 2).trans (doorOpensSlot_touches _ 3)))))
  rw [slotOf_each slotOf_doorOpensSlot, slotOf_of_touches (doorAnswers_touches _), slotOf_each slotOf_abandonExchange]
  obtain ⟨hpending, hidle, hattempts, hstate⟩ := (slots n).abandoned
  obtain ⟨hrest, habsent, heither⟩ := Slot.Resting.opened hpending hidle hattempts
  exact ⟨hrest.law, habsent.trans (hstate ▸ absent n), fun _ => heither⟩

theorem SlotLaw.idle_of_waiting {r : Slot} (h : SlotLaw r) (hstate : r.state = .absent ∨ r.state = .unknown) : r.exchange = .none := by
  cases hx : r.exchange with
  | none => rfl
  | ident a nonce =>
    have := h.probing.mpr ⟨a, nonce, hx⟩
    obtain hs | hs := hstate <;> rw [this] at hs <;> cases hs
  | debit a nonce t c =>
    have := (h.debit a nonce t c hx).1
    obtain hs | hs := hstate <;> rw [this] at hs <;> cases hs

/-- A settled closing of the door, slot by slot. -/
theorem SupplyLaw.doorClosesSlot {s : State} (h : SupplyLaw s) (hidle : ∀ m, (slotOf s m).exchange = .none) (n : Plane) :
    SupplyLaw (doorClosesSlot n s) ∧ ∀ m, (slotOf (doorClosesSlot n s) m).exchange = .none := by
  unfold Machine.doorClosesSlot
  split
  · rename_i hpresent
    have hrest := (h.slots n).resting (hidle n)
    constructor
    · refine (((h.at n).setState .unknown none).modify _).law ⟨Slot.Resting.law ⟨hrest.pending, hidle n, nofun, hrest.attempts⟩, ?_, fun _ => .inr rfl⟩
      rw [hpresent]
      exact ⟨nofun, nofun⟩
    · intro m
      simp only [modifySlot_eq, slotOf_setSlot, setSlotState_eq, slotOf_slotChanged]
      split
      · exact hidle n
      · exact hidle m
  · exact ⟨h, hidle⟩

theorem doorShut_law {s : State} (h : SupplyLaw s) (hopen : s.supply.doorClosed = false) (htimer : s.supply.doorTimer = none) :
    SupplyLaw (doorShut s) := by
  unfold doorShut
  dsimp only
  refine SupplyLaw.touched ?_ (postLines_touches _)
  have hidle : ∀ m, (slotOf s m).exchange = .none := fun m => (h.slots m).idle_of_waiting (h.door hopen m)
  have hshut : SupplyLaw { s with supply := { s.supply with doorClosed := true } } :=
    ⟨h.slots, h.absent, nofun, h.settle, (fun hd => by rw [htimer] at hd; cases hd), h.seen, h.stored⟩
  obtain ⟨h0, i0⟩ := hshut.doorClosesSlot hidle 0
  obtain ⟨h1, i1⟩ := h0.doorClosesSlot i0 1
  obtain ⟨h2, i2⟩ := h1.doorClosesSlot i1 2
  exact (h2.doorClosesSlot i2 3).1

/-! ## Presence (R122, R123) -/

/-- A presence line settles: the law but at its slot. -/
theorem SupplyLaw.settled {s : State} (h : SupplyLaw s) {n : Plane} (htimer : s.supply.presenceTimers.get n = none) (level : Bool) :
    SlotAt n (slotOf s n) level s.supply.doorClosed { s with supply := { s.supply with presence := s.supply.presence.set n level } } := by
  refine ⟨⟨fun m hm => ?_, fun m hs => ?_, h.shut, h.seen, h.stored⟩, rfl, Quad.get_set_self .., rfl⟩
  · dsimp only
    rw [Quad.get_set_ne _ _ hm]
    exact h.fits m
  · dsimp only at hs ⊢
    by_cases hm : n = m
    · subst m
      rw [htimer] at hs
      cases hs
    · rw [Quad.get_set_ne _ _ hm]
      exact h.settle m hs

theorem presenceFell_law {s : State} (h : SupplyLaw s) {n : Plane} (htimer : s.supply.presenceTimers.get n = none) :
    SupplyLaw (presenceFell n s) := by
  obtain ⟨hpending, hidle, hattempts, -⟩ := (h.slots n).abandoned
  have habandoned := (h.settled htimer false).changed (abandonExchange_touches _ n) (q := (slotOf s n).abandoned)
    fun m => slotOf_abandonExchange n _ m
  unfold presenceFell
  dsimp only
  refine SupplyLaw.touched ?_ (postLines_touches _)
  exact ((((habandoned.touched (answerDeferred_touches ..)).owe hpending).setState .absent none).modify fun r =>
    { r with probeDelay := none, reprobe := none }).law
    ⟨Slot.Resting.law ⟨hpending, hidle, nofun, hattempts⟩, ⟨fun _ => rfl, fun _ => rfl⟩, fun _ => .inl rfl⟩

theorem presenceRose_law {s : State} (h : SupplyLaw s) {n : Plane} (htimer : s.supply.presenceTimers.get n = none)
    (habsent : s.supply.presence.get n = false) : SupplyLaw (presenceRose n s) := by
  have hrest := (h.slots n).resting ((h.slots n).idle_of_waiting (.inl ((h.absent n).mpr habsent)))
  have hunknown := (h.settled htimer true).setState .unknown none
  unfold presenceRose
  dsimp only
  refine SupplyLaw.touched ?_ (postLines_touches _)
  split
  · exact (hunknown.modify _).law ⟨Slot.Resting.law ⟨hrest.pending, hrest.idle, nofun, hrest.attempts⟩, ⟨nofun, nofun⟩, fun _ => .inr rfl⟩
  · exact hunknown.law ⟨Slot.Resting.law ⟨hrest.pending, hrest.idle, nofun, hrest.attempts⟩, ⟨nofun, nofun⟩, fun _ => .inr rfl⟩

/-! ## Settling and raw changes (R120) -/

/-- A presence line's settle timer stops. -/
theorem SupplyLaw.stopPresence {s : State} (h : SupplyLaw s) (n : Plane) :
    SupplyLaw { s with supply := { s.supply with presenceTimers := s.supply.presenceTimers.set n none } } := by
  refine ⟨h.slots, h.absent, h.door, fun m hs => ?_, h.shut, h.seen, h.stored⟩
  dsimp only at hs ⊢
  rw [Quad.get_set] at hs
  split at hs
  · cases hs
  · exact h.settle m hs

theorem SupplyLaw.lineSettled {s u : State} (h : SupplyLaw s) {line : Line} (hu : lineSettled line s = some u) : SupplyLaw u := by
  cases line with
  | presence n =>
    obtain ⟨r, hr, rfl⟩ := Option.map_eq_some_iff.mp hu
    have hlines : (reachTime r 500 s).lines = s.lines := (reachTime_touches s r 500).at .lines
    have hlevels : ((reachTime r 500 s).supply.presence, (reachTime r 500 s).supply.doorClosed) = (s.supply.presence, s.supply.doorClosed) :=
      (reachTime_touches s r 500).at .levels
    have hstopped := (h.touched (reachTime_touches s r 500)).stopPresence n
    have hdiffer := h.settle n (by rw [hr]; rfl)
    dsimp only
    split
    · rename_i hhigh
      refine presenceRose_law hstopped (Quad.get_set_self ..) ?_
      dsimp only
      rw [(Prod.mk.inj hlevels).1]
      rw [hhigh] at hdiffer
      simpa using hdiffer.symm
    · exact presenceFell_law hstopped (Quad.get_set_self ..)
  | door =>
    obtain ⟨r, hr, rfl⟩ := Option.map_eq_some_iff.mp hu
    obtain ⟨hhigh, hopen⟩ := h.shut (by rw [hr]; rfl)
    have hreach := h.touched (reachTime_touches s r 500)
    have hlevels : ((reachTime r 500 s).supply.presence, (reachTime r 500 s).supply.doorClosed) = (s.supply.presence, s.supply.doorClosed) :=
      (reachTime_touches s r 500).at .levels
    dsimp only
    rw [if_pos hhigh]
    exact doorShut_law ⟨hreach.slots, hreach.absent, hreach.door, hreach.settle, nofun, hreach.seen, hreach.stored⟩
      ((Prod.mk.inj hlevels).2.trans hopen) rfl

theorem SupplyLaw.noteRaw {s : State} (h : SupplyLaw s) (line : Line) (level : Bool) : SupplyLaw (noteRaw line level (setRaw line level s)) := by
  cases line with
  | presence n =>
    refine ⟨h.slots, h.absent, h.door, fun m hs => ?_, h.shut, h.seen, h.stored⟩
    simp only [Machine.noteRaw] at hs
    rw [Quad.get_set] at hs
    show (s.lines.presence.set n level).get m ≠ s.supply.presence.get m
    rw [Quad.get_set]
    split
    · rename_i hm
      subst m
      rw [if_pos rfl] at hs
      intro hsame
      rw [if_pos (show level = (setRaw (.presence n) level s).supply.presence.get n from hsame)] at hs
      cases hs
    · rename_i hm
      rw [if_neg hm] at hs
      exact h.settle m hs
  | door =>
    unfold Machine.noteRaw
    dsimp only
    split
    · exact doorOpened_law h.slots h.absent h.settle h.seen h.stored
    · rename_i hnot
      refine ⟨h.slots, h.absent, h.door, h.settle, fun hs => ?_, h.seen, h.stored⟩
      have hclosed : (setRaw .door level s).supply.doorClosed = s.supply.doorClosed := rfl
      dsimp only at hs ⊢
      rw [hclosed] at hs hnot ⊢
      have hlevel : (setRaw .door level s).lines.doorClosed = level := rfl
      rw [hlevel]
      have hdiffer : level ≠ s.supply.doorClosed := fun hsame => by rw [if_pos hsame] at hs; cases hs
      cases level <;> cases hd : s.supply.doorClosed <;> simp_all

theorem SupplyLaw.oweSlot {s : State} (h : SupplyLaw s) (n : Plane) : SupplyLaw (oweSlot n s) :=
  ((h.at n).owe (h.slots n).pending).law (h.fits n)

theorem SupplyLaw.pfwChanged {s : State} (h : SupplyLaw s) (asserted : Bool) : SupplyLaw (pfwChanged asserted s) := by
  have hset : SupplyLaw (modifySup (fun u => { u with pfw := asserted }) s) := h.of_same fun f hf => by fin_cases hf <;> rfl
  unfold Machine.pfwChanged
  dsimp only
  split
  · exact (((hset.oweSlot 0).oweSlot 1).oweSlot 2).oweSlot 3
  · exact hset

/-! ## The meter store and resets -/

theorem committed_seen (w : StoreWrite) (s : State) : (committed w s).seen = s.supply.seen ∨ (committed w s).seen = s.store.seen := by
  unfold committed
  cases w with
  | block b => cases b <;> simp [writeBlock]
  | fold e a totals => cases a <;> cases totals <;> simp [foldInto]

theorem seenLaw_committed {s : State} (hseen : SeenLaw s.supply.seen) (hstored : SeenLaw s.store.seen) (w : StoreWrite) :
    SeenLaw (committed w s).seen := by
  obtain hw | hw := committed_seen w s <;> rw [hw]
  · exact hseen
  · exact hstored

theorem seenLaw_cutStore {s : State} (hseen : SeenLaw s.supply.seen) (hstored : SeenLaw s.store.seen) (cut : ResetCut) :
    SeenLaw (cutStore cut s).seen := by
  obtain hs | ⟨w, n, -, hs⟩ := cutStore_cases cut s <;> rw [hs]
  · exact hstored
  · exact seenLaw_committed hseen hstored w

theorem SupplyLaw.storeWriteDone {s u : State} (h : SupplyLaw s) {good : Bool} (hu : storeWriteDone good s = some u) : SupplyLaw u := by
  obtain ⟨w, n, -, ⟨-, rfl⟩ | ⟨-, -, rfl⟩ | ⟨-, -, rfl⟩⟩ := storeWriteDone_some hu
  · exact ⟨h.slots, h.absent, h.door, h.settle, h.shut, h.seen, seenLaw_committed h.seen h.stored w⟩
  · exact h.of_same fun f hf => by fin_cases hf <;> rfl
  · split
    · exact h.touched (failStore_touches ..)
    · exact SupplyLaw.touched (h.touched (failStore_touches ..)) (reportFold_touches _)

/-- A slot record at a reset meets the law (R119, R123). -/
theorem startSlot_fits (present closed : Bool) : Fits present closed (startSlot present closed) := by
  cases present <;> cases closed <;>
    exact ⟨Slot.Resting.law ⟨Nat.zero_le _, rfl, nofun, rfl⟩, by simp [startSlot, Slot.absentFresh], fun _ => by simp [startSlot, Slot.absentFresh]⟩

theorem slotOf_startSupply (lines : Lines) (st : Store) (models : List ModelEntry) (n : Plane) :
    (startSupply lines st models).slots.get n = startSlot (lines.presence.get n) lines.doorClosed := by
  fin_cases n <;> rfl

theorem afterReset_supply {s : State} (hseen : SeenLaw s.supply.seen) (hstored : SeenLaw s.store.seen) (cold : Bool) (cut : ResetCut) :
    SupplyLaw (afterReset cold cut s) := by
  have hcut := seenLaw_cutStore hseen hstored cut
  have hlines : (cutMemory cut s).lines = s.lines := (cutMemory_touches cut s).at .lines
  have hsupply : (afterReset cold cut s).supply = startSupply (cutMemory cut s).lines (cutStore cut s) (cutMemory cut s).supply.models := rfl
  refine .of_fits (fun n => ?_) (fun m hs => ?_) (fun hs => ?_) ?_ hcut
  · rw [slotOf, hsupply, slotOf_startSupply]
    exact startSlot_fits _ _
  · rw [hsupply] at hs
    simp [startSupply, Quad.get_all] at hs
  · rw [hsupply] at hs
    cases hs
  · rw [hsupply]
    exact hcut

/-! ## Every step -/

/-- What is kept while the part does not run. -/
def SupplyKept (s : State) : Prop := SeenLaw s.supply.seen ∧ SeenLaw s.store.seen ∧ (s.power = .on → SupplyLaw s)

theorem SupplyLaw.kept {s : State} (h : SupplyLaw s) : SupplyKept s := ⟨h.seen, h.stored, fun _ => h⟩

theorem supplyLaw_kept : Kept SupplyKept SupplyLaw where
  quiet {s t} ht h := by
    have hpower : t.power = s.power := ht.at .power
    have hseen : t.supply.seen = s.supply.seen := ht.at .seen
    have hstored : t.store.seen = s.store.seen := ht.at .storedSeen
    exact ⟨hseen ▸ h.1, hstored ▸ h.2.1, fun hp => (h.2.2 (hpower ▸ hp)).touched ht⟩
  close h := (h.touched (closeTake_touches _)).kept
  take {c f s u} hf hp hu h := by
    replace h := h.2.2 hp
    by_cases hx : apart (footprintOf c) supplyFields = true
    · exact h.touched (take_touches hf hu) hx
    · cases c
      case linkAccessPerformed =>
        cases hf
        obtain ⟨-, v, a, -, -, rfl⟩ := linkAccess_some hu
        exact supplyLaw_pageLaw.linkPerformed h v a (by decide +kernel) (fun t _ ht => ht.touched (freePort_touches t))
          fun t data ht => ht.touched (endService_touches ..)
      case stallTimerExpiry => cases hf; exact supplyLaw_pageLaw.stallExpired h hu
      case keepaliveExpiry => cases hf; exact supplyLaw_pageLaw.keepaliveExpired h hu
      case lineSettleExpiry => cases hf; exact h.lineSettled hu
      case probeDelayExpiry => cases hf; exact h.probeDelayExpired hu
      case reprobeTimerExpiry => cases hf; exact h.reprobeExpired hu
      case supplyFrameSent => cases hf; exact h.frameSent hu
      case supplyFrameReceived => cases hf; exact h.frameReceived hu
      case answerWindowExpiry => cases hf; exact h.windowExpired hu
      case storeWriteDone => cases hf; exact h.storeWriteDone hu
      all_goals first | exact absurd (by dsimp only [footprintOf]; decide +kernel) hx | cases hf
  order {c m s o} hm hp ho h := by
    replace h := h.2.2 hp
    refine order_keeps (h.touched (fetchDone_touches s)) (fun h => ?_) fun t a h => h.touched (answerAndAdvance_touches t a)
    by_cases hx : apart (footprintOf c) supplyFields = true
    · exact h.touched (act_touches hm o.params _) hx
    · cases c
      case purgeJob => cases hm; exact supplyLaw_pageLaw.purgeJobOrder h _
      case probeSlot => cases hm; exact h.probeSlotOrder _
      case setSupply => cases hm; exact h.setSupplyOrder _
      case endService => cases hm; exact supplyLaw_pageLaw.endServiceOrder h []
      case keepalive => cases hm; exact supplyLaw_pageLaw.keepaliveOrder h []
      all_goals first | exact absurd (by dsimp only [footprintOf]; decide +kernel) hx | cases hm
  line {c _ _ _} hr hp _ h := by
    replace h := h.2.2 hp
    cases c <;> cases hr
    · refine SupplyLaw.pfwChanged ?_ _
      exact ⟨h.slots, h.absent, h.door, h.settle, h.shut, h.seen, h.stored⟩
    · exact h.noteRaw _ _
  raw {c same raw s} hr hp h := by
    have hpower : (raw s).power = s.power := (line_touches hr s).1.at .power
    have hseen : (raw s).supply.seen = s.supply.seen := (line_touches hr s).1.at .seen
    have hstored : (raw s).store.seen = s.store.seen := (line_touches hr s).1.at .storedSeen
    exact ⟨hseen ▸ h.1, hstored ▸ h.2.1, fun hon => absurd (hpower ▸ hon) hp⟩
  reset cold cut _ h := afterReset_supply h.1 h.2.1 cold cut
  warm cut _ h :=
    have hreset := afterReset_supply h.1 h.2.1 false cut
    ⟨hreset.seen, hreset.stored, nofun⟩
  loss cut s h := by
    have hseen : (cutMemory cut s).supply.seen = s.supply.seen := (cutMemory_touches cut s).at .seen
    exact ⟨hseen ▸ h.1, seenLaw_cutStore h.1 h.2.1 cut, nofun⟩

end Sys2Proof.Machine

namespace Sys2Proof.Proofs

open Sys2Proof.Machine

/-- Settles O59: each exchange that begins or goes on sends one live frame, and each that ends leaves none. -/
theorem supplyLawKept : Obligations.SupplyLawKept := by
  unfold Obligations.SupplyLawKept
  exact fun s t hseen hstored hlaw ht => supplyLaw_kept.step (s := s) (t := t) ⟨hseen, hstored, hlaw⟩ ht

end Sys2Proof.Proofs
end

section
/-! The machine as a whole (O1, O2), the laws at power-on (O60), and the charge of a page against its hold (O22). -/

namespace Sys2Proof.Machine

set_option Elab.async false

/-! ## Every command answers (O2) -/

theorem taken_off {f : State → Option State} {s : State} (hp : s.power ≠ .on) : taken f s = .next s := by
  unfold taken
  rw [if_neg hp]

theorem taken_none {f : State → Option State} {s : State} (h : f s = none) : taken f s = .next s := by
  unfold taken
  rw [h]
  split <;> rfl

theorem taken_next (f : State → Option State) (s : State) : ∃ t, taken f s = .next t := by
  unfold taken
  split
  · split <;> exact ⟨_, rfl⟩
  · exact ⟨s, rfl⟩

theorem lineChange_next (same : Bool) (raw take : State → State) (s : State) : ∃ t, lineChange same raw take s = .next t := by
  unfold lineChange
  split
  · exact ⟨s, rfl⟩
  · split <;> exact ⟨_, rfl⟩

theorem lineChange_off {same : Bool} {raw take : State → State} {s : State} (hp : s.power ≠ .on) :
    lineChange same raw take s = .next (if same = true then s else raw s) := by
  unfold lineChange
  rw [if_neg hp]
  split <;> rfl

/-- Every command answers a next state. -/
theorem exec_next (c : Instr) (s : State) : ∃ t, exec c s = .next t := by
  cases c
  case powerOn => exact ⟨_, rfl⟩
  case warmReset cut =>
    simp only [exec, execWarmReset]
    split <;> exact ⟨_, rfl⟩
  case resetnRelease =>
    simp only [exec, execResetnRelease]
    split <;> exact ⟨_, rfl⟩
  case powerLoss cut =>
    simp only [exec, execPowerLoss]
    split <;> exact ⟨_, rfl⟩
  case pfwChange =>
    simp only [exec, execPfwChange]
    exact lineChange_next ..
  case lineRawChange => exact lineChange_next ..
  all_goals exact taken_next ..

theorem pending_not_mem_footprintOf (c : Instr) : Aspect.pending ∉ [Aspect.grant, .fetching, .control, .take] ++ footprintOf c := by
  cases c <;> (dsimp only [footprintOf]; decide +kernel)

theorem afterReset_pending (cold : Bool) (cut : ResetCut) (s : State) : (afterReset cold cut s).pending = s.pending :=
  (cutMemory_touches cut s).at .pending

theorem closeTake_pending (s : State) : (closeTake s).pending = s.pending := (closeTake_touches s).at .pending

/-- A command leaves the queue as it is. -/
theorem transition_pending {c : Instr} {s t : State} (h : Transition c s t) : t.pending = s.pending := by
  have hnot := pending_not_mem_footprintOf c
  cases h with
  | idle => rfl
  | take hp hf hu => exact (closeTake_pending _).trans ((take_touches hf hu).same .pending fun hx => hnot (List.mem_append_right _ hx))
  | order hp hm ho => exact (closeTake_pending _).trans ((order_touches hm ho).same .pending hnot)
  | line hp hr hs => exact (closeTake_pending _).trans ((line_touches hr _).2.same .pending fun hx => hnot (List.mem_append_right _ hx))
  | raw hp hr => exact (line_touches hr _).1.at .pending
  | powerOn cut => exact (closeTake_pending _).trans (afterReset_pending ..)
  | warmReset cut hp => exact afterReset_pending false cut s
  | release hp => exact (closeTake_pending _).trans (afterReset_pending ..)
  | loss cut => exact (cutMemory_touches cut s).at .pending

/-- A line level that is no change is set to what it is. -/
theorem setRaw_same {line : Line} {level : Bool} {s : State} (h : level = rawLevel line s) : setRaw line level s = s := by
  cases line with
  | presence n => simp only [h, rawLevel, setRaw, Quad.set_get]
  | door => simp only [h, rawLevel, setRaw]

theorem execLineRawChange_off {line : Line} {level : Bool} {s : State} (hp : s.power ≠ .on) :
    exec (.lineRawChange line level) s = .next (setRaw line level s) := by
  refine (lineChange_off hp).trans ?_
  split
  · rename_i hsame
    rw [setRaw_same (by simpa using hsame)]
  · rfl

theorem execPfwChange_off {a : Bool} {s : State} (hp : s.power ≠ .on) :
    exec (.pfwChange a) s = .next { s with lines := { s.lines with pfw := a } } := by
  simp only [exec, execPfwChange]
  refine (lineChange_off hp).trans ?_
  split
  · rename_i hsame
    rw [show a = s.lines.pfw by simpa using hsame]
  · rfl

/-! ## The state after power-on (O60) -/

theorem pageOf_reset (slot : Nat) : pageOf State.reset slot = none := rfl

theorem defaultTariff_lawful (n : Plane) : (defaultTariff.get n).lawful := by
  fin_cases n <;> (unfold ByColour.lawful; decide)

theorem reset_canonical : Canonical State.reset := ⟨rfl, rfl, rfl, rfl, rfl, rfl, rfl⟩

theorem reset_scrubLaw : ScrubLaw State.reset := by
  have hframe : ∀ k, frameOf State.reset k = if 0 = k then ⟨.control, false⟩ else FrameEntry.free := fun k => rfl
  refine ⟨rfl, fun k => ?_, List.nodup_nil, fun k => ?_, fun k => ?_, by decide, nofun, nofun, nofun, fun _ hne => absurd rfl hne⟩
  all_goals
    rw [hframe]
    split
    · subst k; simp [FrameState.residue, State.reset]
    · simp [FrameEntry.free, FrameState.residue, State.reset]; try omega

theorem reset_holdsLaw : HoldsLaw State.reset := by
  refine .of_pages rfl (fun _ _ => rfl) nofun (fun n => ⟨defaultTariff_lawful n, defaultTariff_lawful n⟩) (fun a => ?_) fun a => ?_
  · simp [pageOf_reset, heldIn]; rfl
  · simp [pageOf_reset, inflightIn]; rfl

theorem reset_booksLaw : BooksLaw State.reset :=
  ⟨rfl, fun _ _ => rfl, rfl, List.Pairwise.nil, nofun, fun _ => Nat.le_refl 0, Nat.le_refl 0, nofun⟩

theorem reset_ringsLaw : RingsLaw State.reset := by
  refine ⟨?_, ?_, ?_, ?_, ?_, nofun, .inr rfl⟩ <;> decide

theorem reset_keysLaw : KeysLaw State.reset := by
  have hjob : ∀ j, jobOf State.reset j = Job.fresh := fun _ => rfl
  refine ⟨rfl, fun j => ?_, fun j k hk => ?_, fun i j k hi => ?_, fun j k hk => ?_, fun v k hv => ?_⟩
  · simp [hjob, Job.fresh, Job.opening]
  · rw [hjob] at hk; exact hk.elim
  · rw [hjob] at hi; exact hi.elim
  · rw [hjob] at hk; cases hk
  · rw [show State.reset.filter.service = none from rfl] at hv
    cases hv

theorem seenLaw_nil : SeenLaw [] := ⟨Nat.zero_le _, List.nodup_nil, nofun⟩

theorem reset_supplyLaw : SupplyLaw State.reset := by
  have hslot : ∀ n, slotOf State.reset n = Slot.absentFresh := fun n => Quad.get_all ..
  refine .of_fits (fun n => ?_) (fun m hs => ?_) nofun seenLaw_nil seenLaw_nil
  · rw [hslot]
    refine ⟨Slot.Resting.law ⟨Nat.zero_le _, rfl, nofun, rfl⟩, ⟨fun _ => Quad.get_all .., fun _ => rfl⟩, fun _ => .inl rfl⟩
  · rw [show State.reset.supply.presenceTimers.get m = none from Quad.get_all ..] at hs
    cases hs

/-! ## A page's charge (O22) -/

/-- In a lawful state a page's final clicks are at most its provisional charge (R79). -/
theorem finalClicks_le {s : State} {p : Page} {c : Capture} (h : PageLawful s p) (hc : p.capture = some c) (o : Outcome) (threshold : Nat) :
    finalClicks o c (measuredColour threshold p) ≤ c.provisional := by
  obtain ⟨⟨-, hle, -⟩, hprovisional⟩ := h.captured c hc
  have hmeasured : c.of (measuredColour threshold p) ≤ c.provisional := by
    rw [hprovisional]
    unfold measuredColour
    cases p.colour with
    | mono => exact Nat.le_refl _
    | colour =>
      dsimp only
      split
      · exact Nat.le_refl _
      · exact hle
  cases o with
  | printed => exact hmeasured
  | _ => exact Nat.le_refl _

end Sys2Proof.Machine

namespace Sys2Proof.Proofs

open Sys2Proof.Machine

/-- Settles O1: by the definition of a step. -/
theorem stepTakesFrontCommand : Obligations.StepTakesFrontCommand := by
  unfold Obligations.StepTakesFrontCommand
  refine fun s => ⟨fun c rest h => ?_, fun h hp => ?_, fun h hp => ?_⟩
  · simp only [step, h]
  · simp only [step, h, tick, if_pos hp]
  · simp only [step, h, tick, if_neg hp]

/-- Settles O2, command by command. -/
theorem everyCommandAnswers : Obligations.EveryCommandAnswers := by
  unfold Obligations.EveryCommandAnswers
  refine fun c s => ⟨?_, fun hp => ?_⟩
  · obtain ⟨t, ht⟩ := exec_next c s
    exact ⟨t, ht, transition_pending (exec_transition ht)⟩
  · cases c
    case powerOn | resetnRelease | powerLoss => trivial
    case warmReset cut => simp only [exec, execWarmReset, if_neg hp]
    case pfwChange => exact execPfwChange_off hp
    case lineRawChange line level => cases line <;> exact execLineRawChange_off hp
    all_goals exact taken_off hp

/-- Settles O22: the captured tariff of the measured colour is at most that of the declared one. -/
theorem finalClicksNeverExceedProvisional : Obligations.FinalClicksNeverExceedProvisional := by
  unfold Obligations.FinalClicksNeverExceedProvisional
  intro s slot p c last ending h hslot hp hstate hending
  have hcharged : ending.charged = true := by cases ending <;> first | rfl | exact absurd rfl hending
  have hclicks := finalClicks_le (h.page hp) (show p.capture = some c by simp [Page.capture, hstate]) ending s.coverage.settings.threshold
  refine ⟨hclicks, ?_⟩
  have hheld := h.inflightIn_le (accountNumber s p) hslot
  simp only [hp, inflightIn, hstate, if_true] at hheld
  dsimp only
  rw [accountOf_of_touches (settlePage_printing hp hstate hcharged), chargeOf, accountOf_chargePage, if_pos rfl]
  simp only [Counts.settle, saturate, settledClicks]
  omega

/-- Settles O60. -/
theorem lawsHoldAtReset : Obligations.LawsHoldAtReset := by
  unfold Obligations.LawsHoldAtReset
  exact ⟨reset_canonical, ⟨Nat.zero_le _, Nat.zero_le _, nofun⟩, viewsLawful_default rfl, reset_scrubLaw, ⟨rfl, Nat.zero_le _, rfl⟩, reset_holdsLaw,
    reset_booksLaw, reset_ringsLaw, reset_keysLaw, reset_supplyLaw⟩

end Sys2Proof.Proofs
end

section
/-! The statements of the Supply Unit: its orders, its timers, the attempts on the links, and settled debits (O39, O40, O41, O45). -/

namespace Sys2Proof.Machine

set_option Elab.async false

theorem exec_probeSlot {ps : List Nat} {s : State} (h : OrderReady 18 ps s) :
    exec .probeSlot s =
      .next (closeTake (answerAndAdvance (checked [(!inSettings s.sup.device, .plain .mode 0)] (fetchDone s) (probeSlotOrder ps)))) :=
  h.taken_eq inSettings probeSlotOrder

theorem exec_setSupply {ps : List Nat} {s : State} (h : OrderReady 20 ps s) :
    exec .setSupply s =
      .next (closeTake (answerAndAdvance (checked [(!inSettings s.sup.device, .plain .mode 0)] (fetchDone s) (setSupplyOrder ps)))) :=
  h.taken_eq inSettings setSupplyOrder

theorem mayProbe_setSlot (n m : Plane) (r : Slot) (s : State) : mayProbe n (setSlot m r s) = mayProbe n s := rfl

/-! ## Failed attempts (R124, R125) -/

theorem identFailed_eq (n : Plane) (s : State) :
    identFailed n s =
      (let t := slotChanged n .suspect (setSlot n { slotOf s n with window := none, exchange := .none } s)
       probesEnded n (setSlot n { slotOf t n with reprobe := some s.time } t)) := by
  have htime : ∀ u, (slotChanged n .suspect u).time = u.time := fun u => (slotChanged_touches ..).at .time
  unfold identFailed
  dsimp only
  rw [answerProbes_eq, setSlotState_eq, modifySlot_eq, endExchange, modifySlot_eq, htime]
  rfl

theorem debitFailed_eq (n : Plane) (s : State) :
    debitFailed n s =
      (let t := setSlot n { slotOf s n with window := none, exchange := .none, retryWaiting := true } s
       if ∃ d ∈ s.orders.deferred, d.object = .probeSlot n then identBegun n t else t) := by
  unfold debitFailed
  rw [afterDebit_eq, endExchange, modifySlot_eq n _ s, modifySlot_setSlot]
  rfl

end Sys2Proof.Machine

namespace Sys2Proof.Proofs

open Sys2Proof.Machine

/-- Settles O39: each order's checks one by one; what begins then is the IDENT or the tested DEBIT of the Supply Unit's own rules. -/
theorem probeSlotAndSetSupplyOrders : Obligations.ProbeSlotAndSetSupplyOrders := by
  unfold Obligations.ProbeSlotAndSetSupplyOrders
  refine fun s => ⟨fun n h => ?_, fun quantum lowMark h => ?_⟩
  · refine refused_or_rest (exec_probeSlot h) (not_inSettings_iff _) fun _ hx => ?_
    rw [checked_nil, probeSlotOrder] at hx
    by_cases hn : n < 4
    · rw [dif_pos hn]
      simp only [show arg [n] 1 = n from rfl, planeOfCode_of_lt hn] at hx
      refine refused_or_rest hx (by simp; rfl) fun _ hx => ?_
      refine refused_or_rest hx decide_eq_true_iff fun _ hx => ?_
      refine carried_out hx ?_ rfl
      dsimp only
      rw [beginIdent_eq]
      rfl
    · rw [dif_neg hn]
      simp only [show arg [n] 1 = n from rfl, planeOfCode_of_not_lt hn] at hx
      exact hx
  · refine refused_or_rest (exec_setSupply h) (not_inSettings_iff _) fun _ hx => ?_
    rw [checked_nil, setSupplyOrder] at hx
    refine refused_or_rest hx (by simp [arg]) fun _ hx => ?_
    refine refused_or_rest hx decide_eq_true_iff fun _ hx => ?_
    refine carried_out hx ?_ rfl
    simp only [testDebit_eq]
    rfl

/-- Settles O40: an expiry stops its timer, and what it then begins is the IDENT of the Supply Unit's own rule. -/
theorem slotTimersExpire : Obligations.SlotTimersExpire := by
  unfold Obligations.SlotTimersExpire
  intro s n hp
  have hreach : ∀ since ms, (reachTime since ms s).supply = s.supply := fun since ms => by unfold reachTime; split <;> rfl
  refine ⟨fun since h => ?_, fun since h => ?_, fun h => ?_, fun h => ?_, fun since ms => ?_⟩
  · refine (taken_some hp (show probeDelayExpired n s = some _ by rw [probeDelayExpired, h]; rfl)).trans ?_
    dsimp only
    rw [beginIdent_eq, modifySlot_eq, show slotOf (reachTime since 500 s) n = slotOf s n by rw [slotOf, hreach]; rfl]
    refine congrArg (fun t => Host.Outcome.next (closeTake t)) (if_congr ?_ rfl rfl)
    simp [mayProbe_setSlot, slotOf_setSlot_same, mayProbe, hreach]
  · refine (taken_some hp (show reprobeExpired n s = some _ by rw [reprobeExpired, h]; rfl)).trans ?_
    dsimp only
    rw [beginIdent_eq, modifySlot_eq, show slotOf (reachTime since 2000 s) n = slotOf s n by rw [slotOf, hreach]; rfl]
    refine congrArg (fun t => Host.Outcome.next (closeTake t)) (if_congr ?_ rfl rfl)
    simp [mayProbe_setSlot, slotOf_setSlot_same, mayProbe, hreach]
  · exact taken_none (show probeDelayExpired n s = none by rw [probeDelayExpired, h]; rfl)
  · exact taken_none (show reprobeExpired n s = none by rw [reprobeExpired, h]; rfl)
  · unfold reachTime due
    simp

/-- Settles O41, the exchange in flight and its attempt case by case. -/
theorem attemptsOnTheLink : Obligations.AttemptsOnTheLink := by
  unfold Obligations.AttemptsOnTheLink
  refine ⟨fun _ => rfl, fun _ _ => rfl, fun s n => ⟨fun hp => ⟨fun f rest h => ?_, fun h => ?_, fun h => ?_, fun since h => ?_⟩, fun h => ?_, fun a old h => ⟨fun ha => ?_, fun ha => ?_⟩,
    fun a old target capped h => ⟨fun ha => ?_, fun ha => ?_⟩⟩⟩
  · exact taken_some hp (show frameSent n s = some _ by rw [frameSent, h]; rfl)
  · exact taken_none (show frameSent n s = none by rw [frameSent, h])
  · exact taken_none (show windowExpired n s = none by rw [windowExpired, h]; rfl)
  · refine (taken_some hp (show windowExpired n s = some _ by rw [windowExpired, h]; rfl)).trans ?_
    dsimp only
    rw [modifySlot_eq, slotOf_of_touches (reachTime_touches s since 20)]
  · rw [failAttempt, h]
  · rw [failAttempt, h]
    exact if_pos ha
  · rw [failAttempt, h]
    exact (if_neg (by omega)).trans (identFailed_eq n s)
  · rw [failAttempt, h]
    exact if_pos ha
  · rw [failAttempt, h]
    exact (if_neg (by omega)).trans (debitFailed_eq n s)

/-- Settles O45: the debit's own record, its event, the owed under the supply-fall warning, and the tested DEBIT. -/
theorem settledDebitReachesSlot : Obligations.SettledDebitReachesSlot := by
  unfold Obligations.SettledDebitReachesSlot
  intro s n debit
  dsimp only
  unfold addDebit
  dsimp only
  rw [testDebit_eq]
  refine congrArg (debitTested n) ?_
  have hposted : ∀ (e : Event) (t : State), (if (decide (65535 < (slotOf s n).pending + debit) && !(slotOf s n).clamped) = true then postEvent e t else t) =
      if 65535 < (slotOf s n).pending + debit ∧ (slotOf s n).clamped = false then postEvent e t else t := fun e t => if_congr (by simp) rfl rfl
  rw [hposted]
  generalize hgot : (if 65535 < (slotOf s n).pending + debit ∧ (slotOf s n).clamped = false then _ else _ : State) = posted
  have hpfw : posted.sup.pfw = s.sup.pfw := by
    rw [← hgot]
    split
    · exact ((setSlot_touches ..).then (k := .slots :: posting) (postEvent_touches ..)).at .pfw
    · rfl
  by_cases hsame : min ((slotOf s n).pending + debit) 65535 = (slotOf s n).pending
  · rw [if_pos hsame, if_neg fun h => h.2 hsame]
    exact hgot.symm
  · rw [if_neg hsame, oweUnderPfw, hpfw, oweSlot_eq]
    exact if_congr ⟨fun h => ⟨h, hsame⟩, And.left⟩ (congrArg (owedWritten n) hgot.symm) hgot.symm

end Sys2Proof.Proofs
end

section
/-! The statements of the Supply Unit, continued: frames received and confirmations (O42, O43). -/

namespace Sys2Proof.Machine

set_option Elab.async false

/-! ## Frames received -/

/-- A complete frame within a running answer window ends the window and is judged (R124). -/
theorem exec_frameReceived {s : State} {n : Plane} {chars : List LinkChar} {since : Time} {f : LinkFrame} (hp : s.power = .on)
    (hw : (slotOf s n).window = some since) (hspan : span s.time since ≤ 20) (hf : decodeFrame chars = f) (hne : f ≠ .incomplete) :
    exec (.supplyFrameReceived n chars) s = .next (closeTake (judgeAnswer n f (setSlot n { slotOf s n with window := none } s))) := by
  refine taken_some hp ?_
  unfold frameReceived
  rw [hw, hf]
  dsimp only
  rw [if_neg (by omega)]
  split
  · exact absurd rfl hne
  · rfl

theorem frameReceived_stopped {s : State} {n : Plane} {chars : List LinkChar} (hw : (slotOf s n).window = none) : frameReceived n chars s = none := by
  rw [frameReceived, hw]

theorem frameReceived_late {s : State} {n : Plane} {chars : List LinkChar} {since : Time} (hw : (slotOf s n).window = some since)
    (hspan : 20 < span s.time since) : frameReceived n chars s = none := by
  rw [frameReceived, hw]
  exact if_pos hspan

theorem frameReceived_incomplete {s : State} {n : Plane} {chars : List LinkChar} (hf : decodeFrame chars = .incomplete) :
    frameReceived n chars s = none := by
  unfold frameReceived
  rw [hf]
  split
  · rfl
  · split <;> rfl

theorem judgeAnswer_decline {n : Plane} {s : State} (reason : Byte) :
    judgeAnswer n (.decline reason) s = failAttempt n (modifySlot n (fun r => { r with lastDecline := some reason }) s) := by
  unfold judgeAnswer
  cases (slotOf s n).exchange <;> rfl

/-- A frame that the exchange does not await fails the attempt (R124). -/
theorem judgeAnswer_unawaited {n : Plane} {s : State} {f : LinkFrame} (hdecline : ∀ reason, f ≠ .decline reason)
    (hident : ∀ serial model capacity dispensed flags tag, f = .ident serial model capacity dispensed flags tag →
      ∀ a nonce, (slotOf s n).exchange ≠ .ident a nonce)
    (htally : ∀ serial dispensed tag, f = .tally serial dispensed tag → ∀ a nonce target capped, (slotOf s n).exchange ≠ .debit a nonce target capped) :
    judgeAnswer n f s = failAttempt n s := by
  unfold judgeAnswer
  split
  · exact absurd ‹_› (hident _ _ _ _ _ _ rfl _ _)
  · exact absurd ‹_› (htally _ _ _ rfl _ _ _ _)
  · exact absurd rfl (hdecline _)
  · rfl

/-! ## Verification -/

/-- The checks of R129 read nothing of a slot but its cartridge. -/
theorem identCheck_eq {n : Plane} {s : State} {r : Slot} (hr : r.cartridge = (slotOf s n).cartridge) (nonce : BitVec 64) (serial : BitVec 48)
    (model : BitVec 16) (capacity dispensed : Nat) (flags : Byte) (tag : BitVec 64) :
    identCheck n nonce ⟨serial, model, capacity, dispensed, flags⟩ tag (setSlot n r s) =
      verificationFinding s n nonce serial model capacity dispensed tag := by
  unfold identCheck verificationFinding floorOfRecord
  rw [slotOf_setSlot_same, hr]
  rfl

/-- A slot's owed written reads its cartridge and its pending alone. -/
theorem owedWritten_setSlot {n : Plane} {s : State} {r : Slot} (hcart : r.cartridge = (slotOf s n).cartridge) (hpending : r.pending = (slotOf s n).pending) :
    owedWritten n (setSlot n r s) = setSlot n r (owedWritten n s) := by
  unfold owedWritten
  dsimp only
  rw [slotOf_setSlot_same, hcart, hpending]
  split
  · rename_i c _
    by_cases hseen : ∃ e ∈ s.supply.seen, e.serial = c.serial
    · rw [if_pos (show ∃ e ∈ (setSlot n r s).supply.seen, e.serial = c.serial from hseen), if_pos hseen]
      by_cases hb : Block.seenList ∈ s.meter.dirty <;> simp [markDirty, setSlot, hb]
    · rw [if_neg (show ¬∃ e ∈ (setSlot n r s).supply.seen, e.serial = c.serial from hseen), if_neg hseen]
  · rfl

theorem owedWritten_touches (n : Plane) (s : State) : Touches [.seen, .dirty] s (owedWritten n s) := by
  rw [← oweSlot_eq]
  exact oweSlot_touches ..

theorem owedWritten_coverage (n : Plane) (s : State) : (owedWritten n s).coverage = s.coverage := by
  unfold owedWritten
  dsimp only
  split
  · split
    · exact markDirty_coverage ..
    · rfl
  · rfl

/-- The entry of a serial other than the slot's own is as before the slot's owed is written. -/
theorem seenOf_owedWritten {n : Plane} {s : State} {serial : BitVec 48} (h : (slotOf s n).cartridge.map (·.serial) ≠ some serial) :
    (owedWritten n s).supply.seen.find? (fun e => decide (e.serial = serial)) = s.supply.seen.find? fun e => decide (e.serial = serial) := by
  unfold owedWritten
  dsimp only
  split
  · rename_i c hc
    rw [hc] at h
    have hne : c.serial ≠ serial := fun hx => h (congrArg some hx)
    split
    · rw [markDirty_supply]
      dsimp only
      refine (seenOf_owe c.serial (slotOf s n).pending s.supply.seen serial).trans ?_
      cases he : s.supply.seen.find? fun e => decide (e.serial = serial) with
      | none => rfl
      | some e =>
        have hserial : e.serial = serial := by simpa using List.find?_some he
        rw [Option.map_some, if_neg (by rw [hserial]; exact Ne.symm hne)]
    · rfl
  · rfl

/-- The slot record that a verification fills in (R131, steps 2 to 4). -/
def filledSlot (r : Slot) (same : Bool) (serial : BitVec 48) (model : BitVec 16) (capacity dispensed : Nat) (flags : Byte) (pending : Nat) : Slot :=
  { r with
    window := none, exchange := .none, cartridge := some ⟨serial, model, capacity, dispensed, flags⟩, pending := pending
    retryWaiting := false, clamped := same && r.clamped, lowWarned := same && r.lowWarned }

theorem verifiedState_eq (r : Slot) {serial : BitVec 48} {model : BitVec 16} {capacity dispensed : Nat} {flags : Byte}
    (h : r.cartridge = some ⟨serial, model, capacity, dispensed, flags⟩) :
    verifiedState r = if capacity - dispensed - r.pending = 0 ∨ flags.getLsbD 0 = true then .exhausted else .verified := by
  unfold verifiedState
  refine if_congr ?_ rfl rfl
  simp [Slot.gauge, h, endOfLife]

theorem slotOf_serialSeen (n m : Plane) (serial : BitVec 48) (floor : Nat) (s : State) : slotOf (serialSeen n serial floor s) m = slotOf s m := by
  rw [slotOf, serialSeen, markDirty_supply]
  rfl

/-- The last steps of a verification, on a slot that holds the verified cartridge (R131, steps 5 to 8). -/
theorem verified_rest {n : Plane} {t : State} {serial : BitVec 48} {model : BitVec 16} {capacity dispensed : Nat} {flags : Byte}
    (h : (slotOf t n).cartridge = some ⟨serial, model, capacity, dispensed, flags⟩) :
    (let u := oweUnderPfw n (putSeen (enterSeen serial dispensed t.supply.seen) t)
     testDebit n (testLow n (setSlotState n (verifiedState (slotOf u n)) none u))) =
      debitTested n (lowTested n (slotChanged n
        (if capacity - dispensed - (slotOf t n).pending = 0 ∨ flags.getLsbD 0 = true then .exhausted else .verified)
        (serialSeen n serial dispensed t))) := by
  dsimp only
  rw [testDebit_eq, testLow_eq, setSlotState_eq,
    show oweUnderPfw n (putSeen (enterSeen serial dispensed t.supply.seen) t) = serialSeen n serial dispensed t from oweUnderPfw_enterSeen h dispensed,
    slotOf_serialSeen, verifiedState_eq _ h]

/-- A verified IDENT, whose slot's own fields of the exchange have been cleared (R131). -/
theorem takeVerified_eq (n : Plane) (s : State) (serial : BitVec 48) (model : BitVec 16) (capacity dispensed : Nat) (flags : Byte) :
    takeVerified n ⟨serial, model, capacity, dispensed, flags⟩ (setSlot n { slotOf s n with window := none, exchange := .none } s) =
      (let r := slotOf s n
       let same := decide (r.cartridge.map (·.serial) = some serial)
       let listed := (s.supply.seen.find? fun e => decide (e.serial = serial)).map fun e => e.floor + e.owed - dispensed
       let pending := match r.cartridge with
         | some c => if c.serial = serial then c.dispensed + r.pending - dispensed else listed.getD 0
         | none => listed.getD 0
       let old := owedWritten n s
       let cleared := if same then s else { old with coverage := { s.coverage with residues := s.coverage.residues.set n 0 } }
       let filled := setSlot n (filledSlot r same serial model capacity dispensed flags pending) cleared
       let state : SlotState := if capacity - dispensed - pending = 0 ∨ flags.getLsbD 0 = true then .exhausted else .verified
       debitTested n (lowTested n (slotChanged n state (serialSeen n serial dispensed filled)))) := by
  unfold takeVerified
  have hsame : (slotOf (setSlot n { slotOf s n with window := none, exchange := .none } s) n).serial = (slotOf s n).cartridge.map (·.serial) := by
    rw [slotOf_setSlot_same]
    rfl
  dsimp only
  rw [hsame]
  by_cases hserial : (slotOf s n).cartridge.map (·.serial) = some serial
  · obtain ⟨c, hc, hcs⟩ := Option.map_eq_some_iff.mp hserial
    have hpending : verifiedPending n ⟨serial, model, capacity, dispensed, flags⟩ (setSlot n { slotOf s n with window := none, exchange := .none } s) =
        c.dispensed + (slotOf s n).pending - dispensed := by
      unfold verifiedPending
      simp only [slotOf_setSlot_same, hc, if_pos hcs]
    have htaken : (match (slotOf s n).cartridge with
        | some c => if c.serial = serial then c.dispensed + (slotOf s n).pending - dispensed else
            ((s.supply.seen.find? fun e => decide (e.serial = serial)).map fun e => e.floor + e.owed - dispensed).getD 0
        | none => ((s.supply.seen.find? fun e => decide (e.serial = serial)).map fun e => e.floor + e.owed - dispensed).getD 0) =
        c.dispensed + (slotOf s n).pending - dispensed := by
      rw [hc]
      exact if_pos hcs
    simp only [hserial, decide_true, if_true, hpending, htaken, modifySlot_setSlot]
    refine (verified_rest (by rw [slotOf_setSlot_same])).trans ?_
    rw [slotOf_setSlot_same]
    rfl
  · have hlisted : ∀ r : Slot, r.cartridge = (slotOf s n).cartridge → (seenOf (setSlot n r (owedWritten n s)) serial).map (fun e => e.floor + e.owed - dispensed) =
        (s.supply.seen.find? fun e => decide (e.serial = serial)).map fun e => e.floor + e.owed - dispensed := fun r _ =>
      congrArg (Option.map _) (seenOf_owedWritten hserial)
    have hpending : verifiedPending n ⟨serial, model, capacity, dispensed, flags⟩
        (setSlot n { slotOf s n with window := none, exchange := .none } (owedWritten n s)) =
        match (slotOf s n).cartridge with
        | some c => if c.serial = serial then c.dispensed + (slotOf s n).pending - dispensed else
            ((s.supply.seen.find? fun e => decide (e.serial = serial)).map fun e => e.floor + e.owed - dispensed).getD 0
        | none => ((s.supply.seen.find? fun e => decide (e.serial = serial)).map fun e => e.floor + e.owed - dispensed).getD 0 := by
      unfold verifiedPending
      simp only [slotOf_setSlot_same, hlisted { slotOf s n with window := none, exchange := .none } rfl] <;> rfl
    have hresidues : ∀ r, clearResidue n (setSlot n r (owedWritten n s)) =
        setSlot n r { owedWritten n s with coverage := { s.coverage with residues := s.coverage.residues.set n 0 } } := fun r => by
      rw [← owedWritten_coverage n s]
      rfl
    simp only [hserial, decide_false, Bool.false_eq_true, if_false, oweSlot_eq, modifySlot_setSlot, hresidues,
      owedWritten_setSlot (n := n) (s := s) (r := { slotOf s n with window := none, exchange := .none }) rfl rfl, hpending]
    refine (verified_rest (by rw [slotOf_setSlot_same])).trans ?_
    rw [slotOf_setSlot_same]
    rfl

/-! ## Confirmation -/

/-- The findings of R137: a serial or a tag that is not right, then a count that is not the target. -/
theorem tallyCheck_eq (c : Cartridge) (key : Option ModelKey) (nonce : BitVec 64) (target : Nat) (serial : BitVec 48) (dispensed : Nat) (tag : BitVec 64) :
    tallyCheck c key nonce target serial dispensed tag =
      if serial = c.serial ∧ ∃ k, key = some k ∧ Config.tagFunction k ⟨0x04, nonce, serial, c.model, c.capacity, dispensed⟩ = tag then
        if dispensed = target then none else some .count
      else some .tag := by
  unfold tallyCheck
  by_cases hserial : serial = c.serial
  · rw [if_neg (not_not.mpr hserial)]
    cases key with
    | none => simp
    | some k =>
      by_cases htag : Config.tagFunction k ⟨0x04, nonce, serial, c.model, c.capacity, dispensed⟩ = tag <;> simp [hserial, htag]
  · rw [if_pos hserial, if_neg fun h => hserial h.1]

theorem slotOf_lowTested (n : Plane) (s : State) : ∃ w, slotOf (lowTested n s) n = { slotOf s n with lowWarned := w } := by
  unfold lowTested
  dsimp only
  split
  · split
    · exact ⟨true, by rw [slotOf_of_touches (postEvent_touches ..), slotOf_setSlot_same]⟩
    · exact ⟨(slotOf s n).lowWarned, rfl⟩
  · exact ⟨(slotOf s n).lowWarned, rfl⟩

theorem serialSeen_touches (n : Plane) (serial : BitVec 48) (floor : Nat) (s : State) : Touches [.seen, .dirty] s (serialSeen n serial floor s) :=
  putSeen_touches s _

/-- A confirmation, on a slot whose answer window has ended (R137). -/
theorem confirmDebit_eq (n : Plane) (c : Cartridge) (target : Nat) (capped : Bool) (s : State) (hclosed : (slotOf s n).window = none) :
    confirmDebit n c target capped s =
      (let pending := if capped then 0 else (slotOf s n).pending - (target - c.dispensed)
       let seen := serialSeen n c.serial target (setSlot n { slotOf s n with cartridge := some { c with dispensed := target }, pending := pending } s)
       let low := lowTested n (if c.capacity - target - pending = 0 then slotChanged n .exhausted seen else seen)
       let ended := setSlot n { slotOf low n with exchange := .none } low
       if ∃ d ∈ s.orders.deferred, d.object = .probeSlot n then identBegun n ended else debitTested n ended) := by
  unfold confirmDebit
  dsimp only
  rw [modifySlot_eq]
  have hslot := slotOf_setSlot_same n { slotOf s n with
    cartridge := some { c with dispensed := target }, pending := if capped then 0 else (slotOf s n).pending - (target - c.dispensed) } s
  generalize hset : setSlot n { slotOf s n with
    cartridge := some { c with dispensed := target }, pending := if capped then 0 else (slotOf s n).pending - (target - c.dispensed) } s = t at hslot ⊢
  have hdeferred : t.orders.deferred = s.orders.deferred := hset ▸ rfl
  rw [show oweUnderPfw n (putSeen (enterSeen c.serial target t.supply.seen) t) = serialSeen n c.serial target t from
    oweUnderPfw_enterSeen (c := { c with dispensed := target }) (by rw [hslot]) target]
  have hgauge : (slotOf (serialSeen n c.serial target t) n).gauge = some 0 ↔
      c.capacity - target - (if capped then 0 else (slotOf s n).pending - (target - c.dispensed)) = 0 := by
    rw [slotOf_serialSeen, hslot]
    simp [Slot.gauge]
  have hexhausted := if_congr (x := setSlotState n .exhausted none (serialSeen n c.serial target t)) (y := serialSeen n c.serial target t) hgauge rfl rfl
  rw [hexhausted, setSlotState_eq, testLow_eq, afterDebit_eq, testDebit_eq]
  generalize hworn : (if c.capacity - target - (if capped then 0 else (slotOf s n).pending - (target - c.dispensed)) = 0 then
    slotChanged n .exhausted (serialSeen n c.serial target t) else serialSeen n c.serial target t) = worn
  have hkept : (slotOf worn n).window = none ∧ worn.orders.deferred = s.orders.deferred := by
    rw [← hworn]
    generalize (if capped = true then 0 else (slotOf s n).pending - (target - c.dispensed)) = pending
    split
    · rw [slotOf_slotChanged, if_pos rfl, slotOf_serialSeen, hslot, (slotChanged_touches ..).at .deferred, (serialSeen_touches ..).at .deferred]
      exact ⟨hclosed, hdeferred⟩
    · rw [slotOf_serialSeen, hslot, (serialSeen_touches ..).at .deferred]
      exact ⟨hclosed, hdeferred⟩
  obtain ⟨w, hw⟩ := slotOf_lowTested n worn
  have hwindow : (slotOf (lowTested n worn) n).window = none := by
    rw [hw]
    exact hkept.1
  have hsame : (lowTested n worn).orders.deferred = s.orders.deferred := by
    rw [← testLow_eq, (testLow_touches ..).at .deferred]
    exact hkept.2
  generalize lowTested n worn = low at hwindow hsame ⊢
  rw [show (endExchange n low).orders.deferred = s.orders.deferred from hsame]
  have hended : endExchange n low = setSlot n { slotOf low n with exchange := .none } low := by
    rw [endExchange, modifySlot_eq, ← hwindow]
  rw [hended]

/-- A rejection ends the exchange, posts SLOT_CHANGE, and answers the PROBE SLOT orders that wait (R129, R137, R140). -/
theorem setSlotState_rejected (n : Plane) (offered : Option (BitVec 48 × BitVec 16)) (reason : RejectReason) (r : Slot) (s : State)
    (h : r.state ≠ .rejected reason) :
    setSlotState n (.rejected reason) offered (setSlot n r s) =
      postEvent (.slotChange n r.state (.rejected reason) (offered.or (r.cartridge.map fun c => (c.serial, c.model))) (gaugeOf r) r.clamped)
        (setSlot n { r with state := .rejected reason } s) := by
  unfold setSlotState
  dsimp only
  rw [slotOf_setSlot_same, if_neg h, setSlot_setSlot]
  rfl

end Sys2Proof.Machine

namespace Sys2Proof.Proofs

open Sys2Proof.Machine

/-- Settles O42: outside the window nothing is taken; within it, the answer is judged by its kind and by the exchange that awaits it. -/
theorem supplyFrameReceived : Obligations.SupplyFrameReceived := by
  unfold Obligations.SupplyFrameReceived
  intro s n chars hp
  refine ⟨fun hw => taken_none (frameReceived_stopped hw), fun hf => taken_none (frameReceived_incomplete hf), fun since hw =>
    ⟨fun hlate => taken_none (frameReceived_late hw hlate), fun hspan => ?_⟩⟩
  have hjudged : ∀ f, decodeFrame chars = f → f ≠ .incomplete → exec (.supplyFrameReceived n chars) s =
      .next (closeTake (judgeAnswer n f (setSlot n { slotOf s n with window := none } s))) := fun f hf hne =>
    exec_frameReceived hp hw hspan hf hne
  have hexchange : (slotOf (setSlot n { slotOf s n with window := none } s) n).exchange = (slotOf s n).exchange := by
    rw [slotOf_setSlot_same]
  refine ⟨fun hf => ?_, fun kind hf => ?_, fun serial dispensed tag hf hex => ?_, fun serial model capacity dispensed flags tag hf hex => ?_,
    fun reason hf => ?_, fun a nonce serial model capacity dispensed flags tag hex hf => ?_⟩
  · rw [hjudged _ hf nofun, judgeAnswer_unawaited (by simp) (by simp) (by simp)]
  · rw [hjudged _ hf nofun, judgeAnswer_unawaited (by simp) (by simp) (by simp)]
  · rw [hjudged _ hf nofun, judgeAnswer_unawaited (by simp) (by simp)]
    intro _ _ _ _ a nonce target capped h
    exact hex a nonce target capped (hexchange.symm.trans h)
  · rw [hjudged _ hf nofun, judgeAnswer_unawaited (by simp) _ (by simp)]
    intro _ _ _ _ _ _ _ a nonce h
    exact hex a nonce (hexchange.symm.trans h)
  · rw [hjudged _ hf nofun, judgeAnswer_decline, modifySlot_setSlot]
  · have hident : judgeAnswer n (.ident serial model capacity dispensed flags tag) (setSlot n { slotOf s n with window := none } s) =
        probesEnded n (match verificationFinding s n nonce serial model capacity dispensed tag with
          | some reason => setSlotState n (.rejected reason) (some (serial, model)) (setSlot n { slotOf s n with window := none, exchange := .none } s)
          | none => takeVerified n ⟨serial, model, capacity, dispensed, flags⟩ (setSlot n { slotOf s n with window := none, exchange := .none } s)) := by
      unfold judgeAnswer
      rw [hexchange, hex]
      dsimp only
      unfold judgeIdent endExchange
      rw [modifySlot_setSlot, answerProbes_eq]
      dsimp only
      rw [identCheck_eq (r := { slotOf s n with window := none, exchange := .none }) rfl] <;> rfl
    rw [hjudged _ hf nofun, hident]
    refine ⟨fun reason hfound hne => ?_, fun hpasses => ?_⟩
    · rw [hfound]
      dsimp only
      rw [setSlotState_rejected n _ reason { slotOf s n with window := none, exchange := .none } s hne]
      rfl
    · rw [hpasses]
      dsimp only
      rw [takeVerified_eq]
      rfl

/-- Settles O43: the TALLY is judged by its serial, its tag and its count; a confirmation is the Debit unit's rule on the slot whose window has ended. -/
theorem tallyConfirmsDebit : Obligations.TallyConfirmsDebit := by
  unfold Obligations.TallyConfirmsDebit
  intro s n chars since a nonce target capped c serial dispensed tag hp hw hspan hex hc hstate hf
  have hjudged : exec (.supplyFrameReceived n chars) s = .next (closeTake
      (match tallyCheck c ((modelEntry s c.model).map (·.key)) nonce target serial dispensed tag with
       | some reason => probesEnded n (setSlotState n (.rejected reason) none (setSlot n { slotOf s n with window := none, exchange := .none } s))
       | none => confirmDebit n c target capped (setSlot n { slotOf s n with window := none } s))) := by
    rw [exec_frameReceived hp hw hspan hf nofun]
    unfold judgeAnswer
    rw [slotOf_setSlot_same]
    dsimp only
    rw [hex]
    dsimp only
    unfold judgeTally
    rw [slotOf_setSlot_same]
    dsimp only
    rw [hc]
    dsimp only
    unfold endExchange
    simp only [answerProbes_eq, modifySlot_setSlot]
    rfl
  have hright : (serial = c.serial ∧
      ∃ k, (modelEntry s c.model).map (·.key) = some k ∧ Config.tagFunction k ⟨0x04, nonce, serial, c.model, c.capacity, dispensed⟩ = tag) ↔
      serial = c.serial ∧ ∃ m, modelEntry s c.model = some m ∧ Config.tagFunction m.key ⟨0x04, nonce, serial, c.model, c.capacity, dispensed⟩ = tag := by
    simp [Option.map_eq_some_iff]
  rw [tallyCheck_eq] at hjudged
  have hrejects : ∀ reason, setSlotState n (.rejected reason) none (setSlot n { slotOf s n with window := none, exchange := .none } s) =
      postEvent (.slotChange n .verified (.rejected reason) (some (c.serial, c.model)) (gaugeOf (slotOf s n)) (slotOf s n).clamped)
        (setSlot n { slotOf s n with window := none, exchange := .none, state := .rejected reason } s) := fun reason => by
    rw [setSlotState_rejected n none reason { slotOf s n with window := none, exchange := .none } s (by dsimp only; rw [hstate]; simp)]
    simp only [hstate, hc, Option.map_some, Option.none_or, gaugeOf]
  refine ⟨fun hwrong => ?_, fun hok hcount => ?_, fun hok hcount => ?_⟩
  · rw [hjudged, if_neg (mt hright.mp hwrong)]
    dsimp only
    rw [hrejects]
  · rw [hjudged, if_pos (hright.mpr hok), if_neg hcount]
    dsimp only
    rw [hrejects]
  · rw [hjudged, if_pos (hright.mpr hok), if_pos hcount]
    dsimp only
    rw [confirmDebit_eq n c target capped _ (by rw [slotOf_setSlot_same])]
    simp only [slotOf_setSlot_same, setSlot_setSlot]
    rfl

end Sys2Proof.Proofs
end

section
/-! The statements of the Supply Unit, concluded: the board lines (O44). -/

namespace Sys2Proof.Machine

set_option Elab.async false

theorem exec_pfwChange {s : State} {level : Bool} (hp : s.power = .on) (h : level ≠ s.lines.pfw) :
    exec (.pfwChange level) s = .next (closeTake (pfwChanged level { s with lines := { s.lines with pfw := level } })) := by
  simp only [exec, execPfwChange, lineChange]
  rw [if_neg (by simpa using h), if_pos hp]

theorem exec_lineRawChange {s : State} {line : Line} {level : Bool} (hp : s.power = .on) (h : level ≠ rawLevel line s) :
    exec (.lineRawChange line level) s = .next (closeTake (noteRaw line level (setRaw line level s))) := by
  simp only [exec, execLineRawChange, lineChange]
  rw [if_neg (by simpa using h), if_pos hp]

theorem exec_lineRawChange_same (s : State) (line : Line) : exec (.lineRawChange line (rawLevel line s)) s = .next s := by
  simp only [exec, execLineRawChange, lineChange]
  rw [if_pos (by simp)]

theorem exec_pfwChange_same (s : State) : exec (.pfwChange s.lines.pfw) s = .next s := by
  simp only [exec, execPfwChange, lineChange]
  rw [if_pos (by simp)]

/-- What PROBE SLOT answers and a door opening read of a slot is the same in two slots: the state, the cartridge and pending. -/
def SameSupply (r q : Slot) : Prop := r.state = q.state ∧ r.cartridge = q.cartridge ∧ r.pending = q.pending

theorem sameSupply_abandoned (r : Slot) : SameSupply r.abandoned r := by
  unfold Slot.abandoned
  split <;> exact ⟨rfl, rfl, rfl⟩

theorem exchangeAbandoned_port (n : Plane) (s : State) : (exchangeAbandoned n s).port = s.port := by
  unfold exchangeAbandoned
  dsimp only
  split <;> rfl

theorem exchangeAbandoned_orders (n : Plane) (s : State) : (exchangeAbandoned n s).orders = s.orders := by
  unfold exchangeAbandoned
  dsimp only
  split <;> rfl

/-- The answer of a PROBE SLOT reads a slot's cartridge and pending besides the state it is given. -/
theorem probeResult_congr {state : SlotState} {r q : Slot} (hcart : r.cartridge = q.cartridge) (hpending : r.pending = q.pending) :
    probeResult state r = probeResult state q := by
  unfold probeResult gaugeOf
  rw [hcart, hpending]

/-- A door opening answers the PROBE SLOT orders of the slots that are not ABSENT (R121, log entry 17). -/
theorem doorAnswers_eq {s t : State} (hslot : ∀ n, SameSupply (slotOf t n) (slotOf s n)) (hport : t.port = s.port) (horders : t.orders = s.orders) :
    doorAnswers t =
      (let waits := fun (d : Deferred) => match d.object with
        | .probeSlot n => if (slotOf s n).state = .absent then none else some n
        | _ => none
       { t with
        port := { s.port with
          control := s.port.control ++
            s.orders.deferred.filterMap (fun d => (waits d).map fun n => .answer d.index (probeResult .unknown (slotOf s n))) }
        orders := { s.orders with deferred := s.orders.deferred.filter fun d => decide (waits d = none) } }) := by
  unfold doorAnswers
  rw [answerDeferred_eq, hport, horders]
  dsimp only
  have hanswer : ∀ n, probeAnswer { slotOf t n with state := .unknown } = probeResult .unknown (slotOf s n) := fun n => by
    rw [probeAnswer_eq]
    exact probeResult_congr (hslot n).2.1 (hslot n).2.2
  generalize s.orders.deferred = l
  refine congrArg₂ (fun c d => ({ t with
    port := { s.port with control := s.port.control ++ c }, orders := { s.orders with deferred := d } } : State)) ?_ ?_
  · induction l with
    | nil => rfl
    | cons d l ih =>
      rw [List.filter_cons, List.filterMap_cons]
      obtain ⟨index, object⟩ := d
      cases object with
      | probeSlot n =>
        have hstate := (hslot n).1
        by_cases habsent : (slotOf s n).state = .absent
        · simpa [hstate, habsent] using ih
        · simpa [hstate, habsent, hanswer] using ih
      | _ => simpa using ih
  · refine List.filter_congr fun d _ => ?_
    obtain ⟨index, object⟩ := d
    cases object with
    | probeSlot n =>
      have hstate := (hslot n).1
      by_cases habsent : (slotOf s n).state = .absent <;> simp [hstate, habsent]
    | _ => rfl

/-- A door opening on one slot, and on all (R121). -/
theorem doorOpensSlot_eq (n : Plane) (s : State) : doorOpensSlot n s = if (slotOf s n).state = .absent then s else slotStopped n .unknown s := rfl

theorem doorOpened_eq (s t : State) (ht : t.supply.slots = s.supply.slots) (hport : t.port = s.port) (horders : t.orders = s.orders) :
    doorOpened t =
      (let opened := { t with supply := { t.supply with doorClosed := false, doorTimer := none } }
       let gone := exchangeAbandoned 3 (exchangeAbandoned 2 (exchangeAbandoned 1 (exchangeAbandoned 0 opened)))
       let waits := fun (d : Deferred) => match d.object with
         | .probeSlot n => if (slotOf s n).state = .absent then none else some n
         | _ => none
       let told := { gone with
         port := { s.port with
           control := s.port.control ++
             s.orders.deferred.filterMap (fun d => (waits d).map fun n => .answer d.index (probeResult .unknown (slotOf s n))) }
         orders := { s.orders with deferred := s.orders.deferred.filter fun d => decide (waits d = none) } }
       let opens := fun (n : Plane) (u : State) => if (slotOf u n).state = .absent then u else slotStopped n .unknown u
       linesPosted (opens 3 (opens 2 (opens 1 (opens 0 told))))) := by
  unfold doorOpened
  simp only [abandonExchange_eq, postLines_eq]
  generalize hopened : ({ t with supply := { t.supply with doorClosed := false, doorTimer := none } } : State) = opened
  have hslots : ∀ n, slotOf opened n = slotOf s n := fun n => by rw [← hopened, slotOf, slotOf, ← ht]
  have hsame : ∀ n, SameSupply (slotOf (exchangeAbandoned 3 (exchangeAbandoned 2 (exchangeAbandoned 1 (exchangeAbandoned 0 opened)))) n) (slotOf s n) := by
    intro n
    rw [← hslots]
    simp only [← abandonExchange_eq, slotOf_each slotOf_abandonExchange]
    exact sameSupply_abandoned _
  rw [doorAnswers_eq hsame (by simp only [exchangeAbandoned_port]; exact hopened ▸ hport) (by simp only [exchangeAbandoned_orders]; exact hopened ▸ horders)]
  rfl

/-- A settled closing on one slot (R123). -/
theorem doorClosesSlot_eq (n : Plane) (s : State) : doorClosesSlot n s = if s.supply.presence.get n = true then slotWaits n s else s := by
  have htime : (slotChanged n .unknown s).time = s.time := (slotChanged_touches ..).at .time
  unfold doorClosesSlot slotWaits
  dsimp only
  rw [setSlotState_eq, modifySlot_eq, htime]

theorem slotChanged_doorClosed (n : Plane) (new : SlotState) (s : State) : (slotChanged n new s).supply.doorClosed = s.supply.doorClosed :=
  (Prod.ext_iff.mp ((slotChanged_touches n new s).at .levels)).2

/-- A settled rise (R123). -/
theorem presenceRose_eq (n : Plane) (s : State) :
    presenceRose n s =
      (let settled := { s with supply := { s.supply with presence := s.supply.presence.set n true } }
       linesPosted (if s.supply.doorClosed then slotWaits n settled else slotChanged n .unknown settled)) := by
  unfold presenceRose slotWaits
  dsimp only
  rw [setSlotState_eq, postLines_eq, modifySlot_eq, slotChanged_doorClosed, (slotChanged_touches ..).at .time]

/-- A settled fall (R122). -/
theorem presenceFell_eq (n : Plane) (s : State) :
    presenceFell n s =
      linesPosted (slotStopped n .absent (owedWritten n (probesAnswered n .absent
        (exchangeAbandoned n { s with supply := { s.supply with presence := s.supply.presence.set n false } })))) := by
  unfold presenceFell probesAnswered
  dsimp only
  rw [answerDeferred_eq, postLines_eq, stopSlotTimers_eq, oweSlot_eq, abandonExchange_eq]
  simp only [probeAnswer_eq]
  rfl

/-- A settled closing makes every present slot UNKNOWN with a probe delay (R123). -/
theorem doorShut_eq (s : State) :
    doorShut s =
      (let shut := { s with supply := { s.supply with doorClosed := true } }
       let closes := fun (n : Plane) (u : State) => if s.supply.presence.get n = true then slotWaits n u else u
       linesPosted (closes 3 (closes 2 (closes 1 (closes 0 shut))))) := by
  have hcloses : ∀ n u, (if s.supply.presence.get n = true then slotWaits n u else u : State).supply.presence = u.supply.presence := fun n u => by
    split
    · exact (Prod.ext_iff.mp ((slotChanged_touches n .unknown u).at .levels)).1
    · rfl
  unfold doorShut
  dsimp only
  rw [postLines_eq]
  simp only [doorClosesSlot_eq, hcloses]

/-- The raw levels of the door: an opening of a door that has settled closed is taken at once; otherwise the settle timer follows (R120). -/
theorem noteRaw_opening {s : State} (h : s.supply.doorClosed = true) : noteRaw .door false s = doorOpened s := by
  unfold noteRaw
  dsimp only
  rw [if_pos (by rw [h]; rfl)]

theorem noteRaw_door {level : Bool} {s : State} (h : level = true ∨ s.supply.doorClosed = false) :
    noteRaw .door level s = { s with supply := { s.supply with doorTimer := if level = s.supply.doorClosed then none else some s.time } } := by
  unfold noteRaw
  dsimp only
  rw [if_neg (by rcases h with h | h <;> rw [h] <;> simp)]

end Sys2Proof.Machine

namespace Sys2Proof.Proofs

open Sys2Proof.Machine

/-- Settles O44, line by line: a level that is no change, a raw change, a settling, and a stopped timer. -/
theorem boardLines : Obligations.BoardLines := by
  unfold Obligations.BoardLines
  intro s hp
  refine ⟨fun level h => ?_, exec_pfwChange_same s, fun n level h => ?_, fun n => exec_lineRawChange_same s (.presence n), exec_lineRawChange_same s .door,
    fun h => ?_, fun h hopen => ?_, fun h hshut => ?_, fun n since hn => ⟨fun hhigh => ?_, fun hlow => ?_⟩, fun since hd hraw => ?_, fun n hn => ?_, fun hd => ?_⟩
  · rw [exec_pfwChange hp h, pfwChanged, oweAll]
    simp only [oweSlot_eq]
    rfl
  · exact exec_lineRawChange hp h
  · rw [exec_lineRawChange hp (by rw [rawLevel, h]; decide), noteRaw_door (.inl rfl)]
    refine congrArg (fun timer : Option Time => Host.Outcome.next (closeTake { s with
      lines := { s.lines with doorClosed := true }, supply := { s.supply with doorTimer := timer } })) ?_
    exact if_congr eq_comm rfl rfl
  · rw [exec_lineRawChange hp (by rw [rawLevel, h]; decide), noteRaw_door (s := setRaw .door false s) (.inr hopen)]
    refine congrArg (fun timer : Option Time => Host.Outcome.next (closeTake { s with
      lines := { s.lines with doorClosed := false }, supply := { s.supply with doorTimer := timer } })) ?_
    exact if_pos hopen.symm
  · rw [exec_lineRawChange hp (by rw [rawLevel, h]; decide), noteRaw_opening (s := setRaw .door false s) hshut, doorOpened_eq s (setRaw .door false s) rfl rfl rfl]
    rfl
  · refine (taken_some hp (show lineSettled (.presence n) s = some _ by rw [lineSettled, hn]; rfl)).trans ?_
    dsimp only
    rw [if_pos hhigh, hhigh, presenceRose_eq]
    simp only [reachTime_supply]
  · refine (taken_some hp (show lineSettled (.presence n) s = some _ by rw [lineSettled, hn]; rfl)).trans ?_
    dsimp only
    rw [if_neg (by rw [hlow]; simp), hlow, presenceFell_eq]
    simp only [reachTime_supply]
  · refine (taken_some hp (show lineSettled .door s = some _ by rw [lineSettled, hd]; rfl)).trans ?_
    dsimp only
    rw [if_pos hraw, doorShut_eq]
    simp only [reachTime_supply]
  · exact taken_none (show lineSettled (.presence n) s = none by rw [lineSettled, hn]; rfl)
  · exact taken_none (show lineSettled .door s = none by rw [lineSettled, hd]; rfl)

end Sys2Proof.Proofs
end

section
/-! Orders that read, the mode of ATTN, and the opening and closing of jobs (O29, O30, O34, O38, O47). -/

namespace Sys2Proof.Machine

set_option Elab.async false

/-! ## The orders up to their own checks -/

theorem exec_readAccount {ps : List Nat} {s : State} (h : OrderReady 17 ps s) :
    exec .readAccount s =
      .next (closeTake (answerAndAdvance (checked [(!inSettings s.sup.device, .plain .mode 0)] (fetchDone s) (readAccountOrder ps)))) :=
  h.taken_eq inSettings readAccountOrder

theorem exec_readSlot {ps : List Nat} {s : State} (h : OrderReady 19 ps s) :
    exec .readSlot s =
      .next (closeTake (answerAndAdvance (checked [(!inSettings s.sup.device, .plain .mode 0)] (fetchDone s) (readSlotOrder ps)))) :=
  h.taken_eq inSettings readSlotOrder

theorem exec_setAttention {ps : List Nat} {s : State} (h : OrderReady 21 ps s) :
    exec .setAttention s =
      .next (closeTake (answerAndAdvance (checked [(!inSettings s.sup.device, .plain .mode 0)] (fetchDone s) (setAttentionOrder ps)))) :=
  h.taken_eq inSettings setAttentionOrder

theorem exec_openJob {ps : List Nat} {s : State} (h : OrderReady 4 ps s) :
    exec .openJob s =
      .next (closeTake (answerAndAdvance (checked [(!inWork s.sup.device, .plain .mode 0)] (fetchDone s) (openJobOrder ps)))) :=
  h.taken_eq inWork openJobOrder

theorem exec_closeJob {ps : List Nat} {s : State} (h : OrderReady 5 ps s) :
    exec .closeJob s =
      .next (closeTake (answerAndAdvance (checked [(!inWork s.sup.device, .plain .mode 0)] (fetchDone s) (closeJobOrder ps)))) :=
  h.taken_eq inWork closeJobOrder

theorem exec_unticketPage {ps : List Nat} {s : State} (h : OrderReady 9 ps s) :
    exec .unticketPage s =
      .next (closeTake (answerAndAdvance (checked [(!inWork s.sup.device, .plain .mode 0)] (fetchDone s) (unticketPageOrder ps)))) :=
  h.taken_eq inWork unticketPageOrder

theorem exec_dropPage {ps : List Nat} {s : State} (h : OrderReady 10 ps s) :
    exec .dropPage s =
      .next (closeTake (answerAndAdvance (checked [(!inWork s.sup.device, .plain .mode 0)] (fetchDone s) (dropPageOrder ps)))) :=
  h.taken_eq inWork dropPageOrder

/-! ## Marks and snapshots (R120, R178) -/

theorem snapshot_byte (s : State) :
    (snapshot s).byte.toNat = s.supply.presence.q0.toNat + 2 * s.supply.presence.q1.toNat + 4 * s.supply.presence.q2.toNat +
      8 * s.supply.presence.q3.toNat + 16 * s.supply.doorClosed.toNat + 32 * s.sup.pfw.toNat := by
  have hbyte : ∀ a b c d e f : Bool, (markByte [a, b, c, d, e, f]).toNat =
      a.toNat + 2 * b.toNat + 4 * c.toNat + 8 * d.toNat + 16 * e.toNat + 32 * f.toNat := by decide
  exact hbyte ..

theorem markByte_four (a b c d : Bool) : (markByte [a, b, c, d]).toNat = a.toNat + 2 * b.toNat + 4 * c.toNat + 8 * d.toNat := by
  revert a b c d
  decide

theorem Slot.gauge_getD (r : Slot) :
    r.gauge.getD 0 = if r.cartridge = none then 0
      else (r.cartridge.getD ⟨0, 0, 0, 0, 0⟩).capacity - (r.cartridge.getD ⟨0, 0, 0, 0, 0⟩).dispensed - r.pending := by
  unfold Slot.gauge
  cases r.cartridge <;> rfl

/-! ## The mode of ATTN (R165 to R167) -/

theorem AttnMode.ofCode_eq_none {n : Nat} : AttnMode.ofCode n = none ↔ 4 < n := by
  rcases n with _ | _ | _ | _ | _ | n <;> simp [AttnMode.ofCode]

/-- A mode that is not FIRST clears the latch and the armed flag (R166). -/
theorem Events.setMode_of_ne_first (e : Events) {m : AttnMode} (h : m ≠ .first) :
    e.setMode m = { e with mode := m, latch := false, armed := false, attn := ({ e with mode := m, latch := false, armed := false } : Events).attnLevel } := by
  unfold Events.setMode
  rw [if_neg h]
  rfl

/-- FIRST entered from another mode sets the latch on an unconsumed record, and arms it otherwise (R166). -/
theorem Events.setMode_first (e : Events) :
    ∃ latch armed, e.setMode .first = { e with mode := .first, latch := latch, armed := armed, attn := latch } ∧
      (e.mode = .first → latch = e.latch ∧ armed = e.armed) ∧
      (e.mode ≠ .first → latch = decide (1 ≤ e.unconsumed) ∧ armed = decide (e.unconsumed = 0)) := by
  unfold Events.setMode
  rw [if_pos rfl]
  by_cases hfirst : e.mode = .first
  · refine ⟨e.latch, e.armed, ?_, fun _ => ⟨rfl, rfl⟩, fun h => absurd hfirst h⟩
    rw [if_pos hfirst, Events.judge, Events.attnLevel]
    simp only [hfirst]
  · refine ⟨decide (1 ≤ e.unconsumed), decide (e.unconsumed = 0), ?_, fun h => absurd h hfirst, fun _ => ⟨rfl, rfl⟩⟩
    rw [if_neg hfirst]
    split
    · rename_i h
      rw [decide_eq_true h, decide_eq_false (by omega)]
      rfl
    · rename_i h
      rw [decide_eq_false h, decide_eq_true (by omega)]
      rfl

/-! ## Opening and closing (R44, R48) -/

/-- The free job slot is the lowest-numbered one that OPEN JOB can use (R44). -/
theorem freeJob_eq_none {s : State} : freeJob s = none ↔ ∀ j, j < 16 → ¬((jobOf s j).isFree = true ∧ (jobOf s j).key = .empty) := by
  simp [freeJob, List.find?_eq_none]

theorem freeJob_eq_some {s : State} {j : Nat} (hj : j < 16) (h : (jobOf s j).isFree = true ∧ (jobOf s j).key = .empty)
    (hfirst : ∀ i, i < j → ¬((jobOf s i).isFree = true ∧ (jobOf s i).key = .empty)) : freeJob s = some j := by
  unfold freeJob
  rw [List.find?_range_eq_some]
  refine ⟨by simpa using h, List.mem_range.mpr hj, fun i hi => ?_⟩
  have hi := hfirst i hi
  by_cases hfree : (jobOf s i).isFree = true
  · simpa [hfree] using fun hkey => hi ⟨hfree, hkey⟩
  · simp [hfree]

theorem Privacy.ofCode_eq_none {n : Nat} : Privacy.ofCode n = none ↔ 1 < n := by
  rcases n with _ | _ | n <;> simp [Privacy.ofCode]

theorem Privacy.ofCode_priv {n : Nat} : (Privacy.ofCode n).getD .shared = .priv ↔ n = 1 := by
  rcases n with _ | _ | n <;> simp [Privacy.ofCode]

/-- A job slot opened by the code of its privacy (R44, R45). -/
theorem openSlot_eq (j a privacy scrub : Nat) (s : State) :
    openSlot j a ((Privacy.ofCode privacy).getD .shared) (decide (scrub = 1)) s =
      { setJob j
          { state := .active ⟨a, if privacy = 1 then .priv else .shared, decide (scrub = 1 ∨ privacy = 1)⟩
            generation := (jobOf s j).generation + 1
            key := if privacy = 1 then .loaded ⟨s.keyDraws⟩ else .empty
            bound := 0, dropped := 0, aborted := 0 } s with keyDraws := if privacy = 1 then s.keyDraws + 1 else s.keyDraws } := by
  unfold openSlot
  by_cases hpriv : privacy = 1
  · subst hpriv
    simp [Privacy.ofCode, setJob, jobOf]
  · have hshared : (Privacy.ofCode privacy).getD .shared = .shared := by
      rcases privacy with _ | _ | n
      · rfl
      · exact absurd rfl hpriv
      · rfl
    rw [hshared]
    simp [hpriv, setJob, jobOf]

/-- The pages that a close leaves: those in print (R48). -/
theorem pageOf_dropPages_live {s : State} {j slot : Nat} {p : Page} (hslot : slot < 32) (hp : liveFor s slot j (jobOf s j).generation = some p) :
    pageOf (dropPages j s) slot = if p.inPrint then some p else none := by
  obtain ⟨q, hq, hlive⟩ := Option.bind_eq_some_iff.mp hp
  obtain ⟨hnamed, hqp⟩ := Option.ite_none_right_eq_some.mp hlive
  obtain rfl := Option.some.inj hqp
  rw [dropPages_page]
  cases hprint : q.inPrint with
  | true =>
    rw [if_neg, hq, if_pos rfl]
    rintro hmem
    obtain ⟨-, r, hr, -, -, hnot⟩ := mem_pagesOf.mp hmem
    rw [hq] at hr
    obtain rfl := Option.some.inj hr
    rw [hprint] at hnot
    cases hnot
  | false =>
    rw [if_pos (mem_pagesOf.mpr ⟨hslot, q, hq, hnamed.1, hnamed.2, by rw [hprint]; rfl⟩)]
    rfl

theorem pageOf_dropPages_other {s : State} {j slot : Nat} (hp : liveFor s slot j (jobOf s j).generation = none) :
    pageOf (dropPages j s) slot = pageOf s slot := by
  rw [dropPages_page, if_neg]
  intro hmem
  obtain ⟨-, p, hpage, hjob, hgen, -⟩ := mem_pagesOf.mp hmem
  rw [liveFor, hpage, Option.bind_some, if_pos ⟨hjob, hgen⟩] at hp
  cases hp

theorem dropPages_opening (j : Nat) (s : State) : (jobOf (dropPages j s) j).opening = (jobOf s j).opening := by
  rw [dropPages_job, if_pos rfl]
  rfl

/-- CLOSE JOB's own part once its checks have passed (R48). -/
theorem closed_eq (j : Nat) (s : State) :
    (match pageInPrint (dropPages j s) j, (jobOf (dropPages j s) j).opening with
      | true, some o =>
        (deferOrder (dropPages j s).orders.take (.closeJob j)
          (setJob j { jobOf (dropPages j s) j with state := .closing o (dropPages j s).orders.take } (dropPages j s)), (Answer.plain .pending 0 : Answer))
      | _, _ => (releaseJob j .close (dropPages j s), Answer.done)) =
      match pageInPrint s j, (jobOf s j).opening with
      | true, some o =>
        (setJob j { jobOf (dropPages j s) j with state := .closing o s.orders.take }
          { dropPages j s with orders := { (dropPages j s).orders with
            deferred := (dropPages j s).orders.deferred ++ [⟨s.orders.take, .closeJob j⟩] } }, Answer.plain .pending 0)
      | _, _ => (releaseJob j .close (dropPages j s), Answer.done) := by
  rw [pageInPrint_dropPages, dropPages_opening, (dropPages_touches s j).at .take]
  rfl

/-! ## The marks that a drop takes from the frames (R65, log entry 28) -/

theorem get_unmarkFrames {s : State} {slot : Nat} (hwf : Table.wf FrameEntry.free s.frames.entries = true) (f : Nat) :
    frameOf (unmarkFrames slot s) f =
      match (frameOf s f).binding with
      | some b => if b.page = some slot then ⟨.bound { b with page := none }, (frameOf s f).noted⟩ else frameOf s f
      | none => frameOf s f := by
  unfold unmarkFrames
  rw [frameOf_updateFrames hwf _ fun _ => rfl]
  generalize frameOf s f = e
  obtain ⟨state, noted⟩ := e
  cases state <;> rfl

/-- UNTICKET PAGE and DROP PAGE, the common page checks one by one, then the live page that they find (R62). -/
theorem pageOrder_checks {c : Instr} {s : State} {j g slot : Nat} {act : Nat → Page → State → State × Answer}
    (hx : exec c s = .next (closeTake (answerAndAdvance
      (checked [(!inWork s.sup.device, .plain .mode 0)] (fetchDone s) fun s => onPage false [j, g, slot] s act)))) {Q : Page → Prop}
    (hact : ∀ p, liveFor s slot j (jobOf s j).generation = some p →
      exec c s = .next (closeTake (answerAndAdvance (act slot p (fetchDone s)))) → Q p) :
    if s.sup.device ≠ .run ∧ s.sup.device ≠ .service then exec c s = .next (refusedWith s .mode 0) else
    if 15 < j then exec c s = .next (refusedWith s .range 1)
    else if 31 < slot then exec c s = .next (refusedWith s .range 3)
    else if BitVec.ofNat 16 g ≠ (jobOf s j).generation then exec c s = .next (refusedWith s .stale 2)
    else if (jobOf s j).isFree = true then exec c s = .next (refusedWith s .state 1)
    else
      (liveFor s slot j (jobOf s j).generation = none → exec c s = .next (refusedWith s .state 3)) ∧
      ∀ p, liveFor s slot j (jobOf s j).generation = some p → Q p := by
  refine refused_or_rest hx (not_inWork_iff _) fun _ hx => ?_
  rw [checked_nil, onPage, pageChecks] at hx
  refine refused_or_rest hx (by simp [arg]) fun _ hx => ?_
  refine refused_or_rest hx (by simp [arg]) fun _ hx => ?_
  refine refused_or_rest hx (staleGeneration_iff ..) fun _ hx => ?_
  rw [checked_cons_same] at hx
  refine refused_or_rest hx (by simp [arg]) fun _ hx => ?_
  obtain ⟨hnone, hlive⟩ := refused_or_live (s := s) hx
  refine ⟨hnone, fun p hp => hact p hp ?_⟩
  obtain ⟨hpage, hx⟩ := hlive p hp
  have hfound : pageOf (fetchDone s) (arg [j, g, slot] 3) = some p := hpage
  rw [hfound] at hx
  exact hx

end Sys2Proof.Machine

namespace Sys2Proof.Proofs

open Sys2Proof.Machine

/-- Settles O38: each order's checks one by one, then the data as they stand; the marks and the snapshot bit by bit. -/
theorem readOrders : Obligations.ReadOrders := by
  unfold Obligations.ReadOrders
  refine fun s => ⟨fun a part h => ?_, fun n h => ?_⟩
  · refine refused_or_rest (exec_readAccount h) (not_inSettings_iff _) fun _ hx => ?_
    rw [checked_nil, readAccountOrder] at hx
    refine refused_or_rest hx (by simp [arg]) fun _ hx => ?_
    refine refused_or_rest hx (by simp [arg]) fun hpart hx => ?_
    refine carried_out hx rfl ?_
    obtain rfl | rfl | rfl : part = 0 ∨ part = 1 ∨ part = 2 := by omega
    · rfl
    · rfl
    · rfl
  · refine refused_or_rest (exec_readSlot h) (not_inSettings_iff _) fun _ hx => ?_
    rw [checked_nil, readSlotOrder] at hx
    by_cases hn : n < 4
    · rw [dif_pos hn]
      simp only [show arg [n] 1 = n from rfl, planeOfCode_of_lt hn] at hx
      refine ⟨(snapshot s).byte, (slotItems ⟨n, hn⟩ s).marks, ?_, snapshot_byte s, ?_⟩
      · refine hx.trans (congrArg (fun d => Host.Outcome.next (answered (fetchDone s) ⟨.done, 0, some d⟩)) ?_)
        refine congrArg (AnswerData.mk · _) ?_
        change (slotItems ⟨n, hn⟩ s).items = _
        unfold slotItems
        dsimp only
        rw [Slot.gauge_getD]
        generalize slotOf s ⟨n, hn⟩ = r
        cases r.exchange <;> rfl
      · refine (markByte_four ..).trans ?_
        generalize slotOf s ⟨n, hn⟩ = r
        cases r.exchange <;> rfl
    · rw [dif_neg hn]
      simp only [show arg [n] 1 = n from rfl, planeOfCode_of_not_lt hn] at hx
      exact hx

/-- Settles O47: the range check, then the mode's latch, armed flag and ATTN, mode by mode. -/
theorem setAttentionOrder : Obligations.SetAttentionOrder := by
  unfold Obligations.SetAttentionOrder
  intro s mode h
  refine refused_or_rest (exec_setAttention h) (not_inSettings_iff _) fun _ hx => ?_
  rw [checked_nil, Machine.setAttentionOrder] at hx
  have harg : arg [mode] 1 = mode := rfl
  rw [harg] at hx
  split
  · rename_i hmode
    rw [AttnMode.ofCode_eq_none.mpr hmode] at hx
    exact hx
  · rename_i hmode
    have hattn : ∀ m : AttnMode, m ≠ .first → AttnMode.ofCode mode = some m → exec .setAttention s = .next (answered
        { fetchDone s with events := { s.events with
          mode := m, latch := false, armed := false
          attn := ({ s.events with mode := m, latch := false, armed := false } : Events).attnLevel } } (.doneWith (leBytes 1 mode))) := by
      intro m hm hcode
      rw [hcode] at hx
      rw [← Events.setMode_of_ne_first s.events hm]
      exact hx
    obtain rfl | rfl | rfl | rfl | rfl : mode = 0 ∨ mode = 1 ∨ mode = 2 ∨ mode = 3 ∨ mode = 4 := by omega
    · exact ⟨.off, false, false, _, hattn .off nofun rfl, by simp [Events.attnLevel]⟩
    · exact ⟨.each, false, false, _, hattn .each nofun rfl, by simp; rfl⟩
    · exact ⟨.batch, false, false, _, hattn .batch nofun rfl, by simp; rfl⟩
    · exact ⟨.alarmOnly, false, false, _, hattn .alarmOnly nofun rfl, by simp; rfl⟩
    · obtain ⟨latch, armed, hset, hsame, hentered⟩ := s.events.setMode_first
      refine ⟨.first, latch, armed, latch, ?_, by simp, by simp, by simp, by simp, fun _ => ⟨rfl, rfl, hsame, hentered⟩⟩
      rw [← hset]
      exact hx

/-- Settles O29: the checks of R43 and R44 one by one, then the lowest-numbered slot that OPEN JOB can use. -/
theorem openJobOrder : Obligations.OpenJobOrder := by
  unfold Obligations.OpenJobOrder
  intro s a privacy scrub h
  refine refused_or_rest (exec_openJob h) (not_inWork_iff _) fun _ hx => ?_
  rw [checked_nil, Machine.openJobOrder] at hx
  refine refused_or_rest hx (by rw [Bool.and_eq_true, decide_eq_true_iff, decide_eq_true_iff, Privacy.ofCode_priv]; rfl) fun _ hx => ?_
  refine refused_or_rest hx (by simp [arg]) fun _ hx => ?_
  refine refused_or_rest hx (by simp [arg, Privacy.ofCode_eq_none]) fun _ hx => ?_
  refine refused_or_rest hx (by simp [arg]) fun _ hx => ?_
  refine refused_or_rest hx decide_eq_true_iff fun _ hx => ?_
  refine ⟨fun hnone => ?_, fun j hj husable hfirst => ?_⟩
  · rw [checked_cons, if_pos (by rw [show freeJob (fetchDone s) = none from freeJob_eq_none.mpr hnone]; rfl)] at hx
    exact hx
  · have hfree : freeJob (fetchDone s) = some j := freeJob_eq_some hj husable hfirst
    rw [hfree] at hx
    simp only [Option.isNone_some, checked_cons, Bool.false_eq_true, if_false] at hx
    refine carried_out hx ?_ ?_
    · dsimp only
      rw [hfree]
      exact openSlot_eq j a privacy scrub (fetchDone s)
    · dsimp only
      rw [hfree, Option.getD_some, show arg [a, privacy, scrub] 1 = a from rfl, show arg [a, privacy, scrub] 2 = privacy from rfl,
        show arg [a, privacy, scrub] 3 = scrub from rfl, openSlot_eq]
      have hjob : ∀ (r : Job) (draws : Nat), jobOf { setJob j r (fetchDone s) with keyDraws := draws } j = r := fun r draws => by
        rw [show jobOf { setJob j r (fetchDone s) with keyDraws := draws } j = jobOf (setJob j r (fetchDone s)) j from rfl, jobOf_setJob, if_pos rfl]
      rw [hjob]
      rfl

/-- Settles O30: the checks of R47 one by one, then the release or the deferral, by whether a page of the job is in print. -/
theorem closeJobOrder : Obligations.CloseJobOrder := by
  unfold Obligations.CloseJobOrder
  intro s j g h
  refine refused_or_rest (exec_closeJob h) (not_inWork_iff _) fun _ hx => ?_
  rw [checked_nil, Machine.closeJobOrder] at hx
  refine refused_or_rest hx (by simp [arg]) fun _ hx => ?_
  refine refused_or_rest hx (staleGeneration_iff ..) fun _ hx => ?_
  refine refused_or_rest hx (by simp [arg]) fun _ hx => ?_
  refine refused_or_rest hx (by rw [Bool.and_eq_true, decide_eq_true_iff]; rfl) fun _ hx => ?_
  rw [checked_nil] at hx
  have hclosed := closed_eq j (fetchDone s)
  refine ⟨fun slot p hslot hp => pageOf_dropPages_live (s := fetchDone s) hslot hp, fun slot hp => pageOf_dropPages_other (s := fetchDone s) hp,
    fun hprint => ?_, fun hprint o ho => ?_⟩
  · rw [show pageInPrint (fetchDone s) j = false from hprint] at hclosed
    exact hx.trans (congrArg (fun r => Host.Outcome.next (closeTake (answerAndAdvance r))) hclosed)
  · rw [show pageInPrint (fetchDone s) j = true from hprint, show (jobOf (fetchDone s) j).opening = some o from ho] at hclosed
    exact hx.trans (congrArg (fun r => Host.Outcome.next (closeTake (answerAndAdvance r))) hclosed)

/-- Settles O34: the common page checks one by one, then the live page by its state. -/
theorem unticketAndDropPageOrders : Obligations.UnticketAndDropPageOrders := by
  unfold Obligations.UnticketAndDropPageOrders
  rintro s c j g slot (⟨rfl, h⟩ | ⟨rfl, h⟩)
  · refine pageOrder_checks (exec_unticketPage h) fun p hp hx => ?_
    cases hstate : p.state <;> simp only [hstate] at hx
    case staged => exact ⟨by simp [Page.inPrint, hstate], fun _ _ => hx, nofun, nofun, nofun⟩
    case ticketed cap =>
      refine ⟨by simp [Page.inPrint, hstate], nofun, nofun, fun c hc _ => ?_, nofun⟩
      cases hc
      simp only [releaseTicket, hstate] at hx
      exact hx
    all_goals exact ⟨fun _ => hx, nofun, nofun, nofun, nofun⟩
  · refine pageOrder_checks (exec_dropPage h) fun p hp hx => ?_
    have hpage : pageOf (fetchDone s) slot = some p := pageOf_of_liveFor hp
    have hunmarks : ∀ u w : State, w = { u with frames := (unmarkFrames slot (fetchDone s)).frames } →
        exec .dropPage s = .next (closeTake (answerAndAdvance (w, .done))) →
        ∃ frames : Frames, frames.size = s.frames.size ∧
          (Table.wf FrameEntry.free s.frames.entries = true → ∀ f, Table.get FrameEntry.free frames.entries f =
            match (frameOf s f).binding with
            | some b => if b.page = some slot then ⟨.bound { b with page := none }, (frameOf s f).noted⟩ else frameOf s f
            | none => frameOf s f) ∧
          exec .dropPage s = .next (answered { u with frames := frames } .done) := fun u w hw hu =>
      ⟨(unmarkFrames slot (fetchDone s)).frames, rfl, fun hwf f => get_unmarkFrames (s := fetchDone s) (slot := slot) hwf f,
        by rw [hu, hw]; rfl⟩
    have hdropped : dropPage slot (fetchDone s) = setPage slot none (unmarkFrames slot (releaseTicket p (fetchDone s))) := by
      rw [dropPage, hpage]
    rw [hdropped] at hx
    cases hstate : p.state <;> simp only [hstate, Page.inPrint, releaseTicket, Bool.false_eq_true, if_false, if_true] at hx
    case staged => exact ⟨by simp [Page.inPrint, hstate], nofun, fun _ _ => hunmarks _ _ rfl hx, nofun, nofun⟩
    case ticketed cap =>
      refine ⟨by simp [Page.inPrint, hstate], nofun, nofun, nofun, fun c hc _ => ?_⟩
      cases hc
      exact hunmarks _ _ rfl hx
    all_goals exact ⟨fun _ => hx, nofun, nofun, nofun, nofun⟩

end Sys2Proof.Proofs
end

section
/-! Admission's outcome and the end of a page by its stall timer (O20, O24); the fetch of orders and the checks common to all of them (O25). -/

namespace Sys2Proof.Machine

set_option Elab.async false

/-! ## Admission (R67 to R69) -/

/-- The first reason that applies is found reason by reason. -/
theorem firstReason_cons (b : Bool) (r : WithheldReason) (l : List (Bool × WithheldReason)) :
    (((b, r) :: l).find? (·.1)).map (·.2) = if b = true then some r else (l.find? (·.1)).map (·.2) := by
  cases b <;> rfl

theorem inWork_eq_false_iff (d : DeviceState) : inWork d = false ↔ d ≠ .run ∧ d ≠ .service := by
  cases d <;> simp [inWork]

theorem setAccount_setAccount (a : Nat) (r q : Account) (s : State) : setAccount a r (setAccount a q s) = setAccount a r s := by
  simp [setAccount, Table.set_set]

/-- A TICKETED page's charge moves from held to inflight (R69, R99). -/
theorem raiseInflight_lowerHeld (a n : Nat) (s : State) :
    raiseInflight a n (lowerHeld a n s) =
      setAccount a { accountOf s a with held := (accountOf s a).held - n, inflight := (accountOf s a).inflight + n } s := by
  rw [raiseInflight, accountOf_lowerHeld, if_pos rfl, lowerHeld, setAccount_setAccount]

/-- The charge that an admission captures from the tariff of the page's size class (R68). -/
theorem pageTariff_eq (s : State) (p : Page) : pageTariff s p = (s.meter.tariff.get p.sizeClass).of p.colour := rfl

/-! ## The end of a page (R50, R75, R76) -/

theorem reachTime_cases (since : Time) (ms : Nat) (s : State) :
    reachTime since ms s = s ∨ reachTime since ms s = { s with time := since + BitVec.ofNat 32 ms } := by
  unfold reachTime
  split
  · exact .inl rfl
  · exact .inr rfl

theorem settleEnding_eq {s : State} {slot : Nat} {p : Page} (hp : pageOf s slot = some p) (ending : Outcome) :
    settleEnding slot ending s =
      if (jobOf (settlePage slot ending s) p.job).isClosing = true ∧ pageInPrint (settlePage slot ending s) p.job = false then
        answerClose p.job .done (releaseJob p.job .close (settlePage slot ending s))
      else settlePage slot ending s := by
  unfold settleEnding
  rw [hp]
  dsimp only
  cases hstate : (jobOf (settlePage slot ending s) p.job).state with
  | closing o i =>
    rw [show (jobOf (settlePage slot ending s) p.job).isClosing = true by rw [Job.isClosing, hstate]]
    cases pageInPrint (settlePage slot ending s) p.job <;> rfl
  | _ => exact (if_neg (by rw [Job.isClosing, hstate]; simp)).symm

/-- A page has a last progress time exactly while it is in print. -/
theorem progress_eq_none_iff (p : Page) : p.progress = none ↔ p.inPrint = false := by
  unfold Page.progress Page.inPrint
  cases p.state <;> simp

/-! ## The orders' table (R157, R180) -/

theorem mayFetch_iff (s : State) :
    mayFetch s = true ↔ s.orders.heldPost ≠ s.orders.take ∧ s.orders.fetching = false ∧ s.port.control.length < 4 ∧
      ∀ d ∈ s.orders.deferred, d.index.toNat % 64 ≠ s.orders.take.toNat % 64 := by
  simp only [mayFetch, slotDeferred, Bool.and_eq_true, decide_eq_true_eq, Bool.not_eq_true', List.any_eq_false, and_assoc]

theorem orderWidths_eq_none {k : Nat} (h : k = 0 ∨ 26 < k) : orderWidths k = none := by
  rcases h with rfl | h
  · rfl
  · unfold orderWidths
    split <;> first | rfl | omega

/-- Each command of the table takes the orders of its kind, whose parameters have the table's length, in the table's device states. -/
theorem orderTable_row : ∀ row ∈ orderTable, ∃ accepts act, (∀ s, exec row.1 s = taken (takeOrder row.2.1 accepts act) s) ∧
    orderLength row.2.1 = row.2.2.1 ∧ ∀ d, accepts d = true ↔ d ∈ row.2.2.2 := by
  have hwork : ∀ d, inWork d = true ↔ d ∈ ([.run, .service] : List DeviceState) := by intro d; cases d <;> simp [inWork]
  have hsettings : ∀ d, inSettings d = true ↔ d ∈ ([.provision, .run, .service] : List DeviceState) := by intro d; cases d <;> simp [inSettings]
  simp only [orderTable, List.forall_mem_cons]
  refine ⟨⟨inWork, _, fun _ => rfl, rfl, hwork⟩, ⟨inWork, _, fun _ => rfl, rfl, hwork⟩, ⟨inSettings, _, fun _ => rfl, rfl, hsettings⟩,
    ⟨inWork, _, fun _ => rfl, rfl, hwork⟩, ⟨inWork, _, fun _ => rfl, rfl, hwork⟩, ⟨inWork, _, fun _ => rfl, rfl, hwork⟩,
    ⟨inWork, _, fun _ => rfl, rfl, hwork⟩, ⟨inWork, _, fun _ => rfl, rfl, hwork⟩, ⟨inWork, _, fun _ => rfl, rfl, hwork⟩,
    ⟨inWork, _, fun _ => rfl, rfl, hwork⟩, ⟨inSettings, _, fun _ => rfl, rfl, hsettings⟩, ⟨inSettings, _, fun _ => rfl, rfl, hsettings⟩,
    ⟨inSettings, _, fun _ => rfl, rfl, hsettings⟩, ⟨inSettings, _, fun _ => rfl, rfl, hsettings⟩, ⟨inWork, _, fun _ => rfl, rfl, hwork⟩,
    ⟨inWork, _, fun _ => rfl, rfl, hwork⟩, ⟨inSettings, _, fun _ => rfl, rfl, hsettings⟩, ⟨inSettings, _, fun _ => rfl, rfl, hsettings⟩,
    ⟨inSettings, _, fun _ => rfl, rfl, hsettings⟩, ⟨inSettings, _, fun _ => rfl, rfl, hsettings⟩, ⟨inSettings, _, fun _ => rfl, rfl, hsettings⟩,
    ⟨inProvision, _, fun _ => rfl, rfl, ?_⟩, ⟨inProvision, _, fun _ => rfl, rfl, ?_⟩, ⟨inService, _, fun _ => rfl, rfl, ?_⟩,
    ⟨inWork, _, fun _ => rfl, rfl, hwork⟩, ⟨inLockdown, _, fun _ => rfl, rfl, ?_⟩, nofun⟩ <;>
  · intro d; cases d <;> simp [inProvision, inService, inLockdown]

/-- The common checks of a fetched order, one by one (R157). -/
theorem exec_ofTable {row : Instr × Nat × Nat × List DeviceState} (hrow : row ∈ orderTable) {s : State} {o : OrderSlot} (hp : s.power = .on)
    (ho : fetchedOrder s = some o) (hkind : o.kind = row.2.1) :
    (o.length ≠ row.2.2.1 → exec row.1 s = .next (refusedWith s .format 2)) ∧
    (o.length = row.2.2.1 → o.turn ≠ orderTurn s.orders.take → exec row.1 s = .next (refusedWith s .format 3)) ∧
    (o.length = row.2.2.1 → o.turn = orderTurn s.orders.take → s.sup.device ∉ row.2.2.2 → exec row.1 s = .next (refusedWith s .mode 0)) := by
  obtain ⟨accepts, act, hexec, hlength, haccepts⟩ := orderTable_row row hrow
  have hx := (hexec s).trans (taken_some hp (takeOrder_some (accepts := accepts) (act := act) ho hkind))
  rw [commonChecks, hkind, hlength] at hx
  refine ⟨fun h => ?_, fun h hturn => ?_, fun h hturn hdevice => ?_⟩
  · rw [checked_cons, if_pos (decide_eq_true h)] at hx
    exact hx
  · rw [checked_cons, if_neg (by simpa using h), checked_cons, if_pos (decide_eq_true hturn)] at hx
    exact hx
  · rw [checked_cons, if_neg (by simpa using h), checked_cons, if_neg (by simpa using hturn), checked_cons,
      if_pos (by rw [Bool.not_eq_true', Bool.eq_false_iff]; exact mt (haccepts _).mp hdevice)] at hx
    exact hx

end Sys2Proof.Machine

namespace Sys2Proof.Proofs

open Sys2Proof.Machine

/-- Settles O20: the reasons of R68 one by one, then the withheld or the admitted page with its hold, its inflight clicks and its entry. -/
theorem admissionOutcome : Obligations.AdmissionOutcome := by
  unfold Obligations.AdmissionOutcome
  intro s slot p hprint
  have hadmission : takeAdmission slot p s = match withholding p s with
      | some reason => withholdPage slot p reason s
      | none => admitPage slot p s := if_neg (by rw [hprint]; simp)
  refine ⟨fun hstate => ?_, fun c hstate => ?_⟩
  · intro reason
    have hreason : withholding p s = reason := by
      simp only [withholding, withholdingReasons, firstReason_cons, List.find?_nil, Option.map_none, Page.isTicketed, hstate, Bool.not_false,
        Bool.true_and, Bool.not_eq_true', inWork_eq_false_iff, decide_eq_true_eq, reason]
      rfl
    rw [hadmission, hreason]
    clear_value reason
    cases reason with
    | some r => simp only [withholdPage, releaseTicket, Page.isTicketed, hstate]
    | none =>
      simp only [admitPage, hstate]
      exact reserve_eq _
  · intro reason
    have hreason : withholding p s = reason := by
      simp only [withholding, withholdingReasons, firstReason_cons, List.find?_nil, Option.map_none, Page.isTicketed, hstate, Bool.not_true,
        Bool.false_and, Bool.not_eq_true', inWork_eq_false_iff, Bool.false_eq_true, if_false, reason]
    rw [hadmission, hreason]
    clear_value reason
    cases reason with
    | some r =>
      simp only [withholdPage, releaseTicket, Page.isTicketed, hstate]
      rfl
    | none =>
      simp only [admitPage, hstate]
      exact raiseInflight_lowerHeld ..

/-- Settles O24: the settled page's job is released exactly where it is CLOSING and nothing of it is left in print. -/
theorem stallTimerExpires : Obligations.StallTimerExpires := by
  unfold Obligations.StallTimerExpires
  refine fun s slot => ⟨fun p ending hp => ⟨fun h => ?_, fun hclosing hprint => ?_⟩, fun hp => ⟨fun p last hpage hlast => ?_, fun h => ?_⟩⟩
  · rw [settleEnding_eq hp, if_neg]
    rintro ⟨hclosing, hprint⟩
    rcases h with h | h
    · rw [hclosing] at h; cases h
    · rw [hprint] at h; cases h
  · rw [settleEnding_eq hp, if_pos ⟨hclosing, hprint⟩]
    rfl
  · refine ⟨reachTime_cases .., taken_some hp ?_⟩
    rw [stallExpired, hpage, Option.bind_some, hlast]
    rfl
  · refine taken_none (show stallExpired slot s = none from ?_)
    unfold stallExpired
    cases hpage : pageOf s slot with
    | none => rfl
    | some p => rw [Option.bind_some, (progress_eq_none_iff p).mpr (h p hpage)]; rfl

/-- Settles O25: the fetch by its four conditions; then the table's commands, of which each has its kind, its length and its device states. -/
theorem orderFetchAndCommonChecks : Obligations.OrderFetchAndCommonChecks := by
  unfold Obligations.OrderFetchAndCommonChecks
  refine ⟨fun _ => rfl, fun _ _ => rfl, fun _ _ _ => rfl, fun s hp => ⟨⟨fun hmay => ?_, fun hmay => ?_⟩, fun i hi => ?_, fun o ho =>
    ⟨fun hkind => ?_, fun row hrow hkind => exec_ofTable hrow hp ho hkind⟩⟩⟩
  · exact taken_some hp (if_pos ((mayFetch_iff s).mpr hmay))
  · exact taken_none (if_neg (mt (mayFetch_iff s).mp hmay))
  · rw [fetchedOrder, hi]
    rfl
  · refine taken_some hp (show takeUnknown s = some _ from ?_)
    rw [takeUnknown, ho, Option.bind_some, orderWidths_eq_none hkind]
    rfl

end Sys2Proof.Proofs
end

section
/-! The end of a take and the end of a store write (O3, O50). -/

namespace Sys2Proof.Machine

set_option Elab.async false

/-! ## The fold's entries (R111, R112) -/

theorem countsTake_eq_false_iff {st : Store} {e : Entry} {a : Nat} (h : e.concerns a = true) :
    countsTake st e a = false ↔ e.sequence ≤ (Table.get CountsBlock.blank st.counts a).lastFolded := by
  simp [countsTake, h]

/-- An entry that needs no store write has been taken by every block it concerns, and no other. -/
theorem entryTaken_iff (st : Store) (e : Entry) : entryTaken st e ↔ entryWrite st e = none := by
  obtain ⟨q, body⟩ := e
  cases body with
  | settle a cls col clicks o =>
    simp only [entryTaken, entryWrite, totalsTake]
    simp [countsTake, Entry.concerns]
  | credit a clicks => simp [entryTaken, entryWrite, countsTake, Entry.concerns]
  | roll =>
    simp only [entryTaken, entryWrite, Option.map_eq_none_iff, List.find?_eq_none, List.mem_range]
    refine forall₂_congr fun a ha => ?_
    simp [countsTake, Entry.concerns, ha]

/-- The store write that an entry needs is the one that the fold asks for (R111). -/
theorem asksFold_of_entryWrite {st : Store} {e : Entry} {w : StoreWrite} (h : entryWrite st e = some w) : asksFold st e w := by
  obtain ⟨q, body⟩ := e
  cases body with
  | settle a cls col clicks o =>
    simp only [entryWrite, totalsTake] at h
    have hw := (Option.some.inj (Option.ite_none_right_eq_some.mp h).2).symm
    simpa [asksFold, countsTake, Entry.concerns] using hw
  | credit a clicks =>
    simp only [entryWrite] at h
    split at h
    · exact (Option.some.inj h).symm
    · cases h
  | roll =>
    obtain ⟨a, ha, rfl⟩ := Option.map_eq_some_iff.mp h
    obtain ⟨htake, hmem, hfirst⟩ := List.find?_range_eq_some.mp ha
    have hlt := List.mem_range.mp hmem
    refine ⟨a, hlt, ?_, fun b hb => ?_, rfl⟩
    · simpa [countsTake, Entry.concerns, hlt] using htake
    · have := hfirst b hb
      simpa [countsTake, Entry.concerns, show b < 256 by omega] using this

/-! ## Fold complete (R117, R170) -/

/-- Posting an event reads nothing of the meters. -/
theorem postEvent_meterOf (e : Event) (m : Meter) (s : State) : postEvent e { s with meter := m } = { postEvent e s with meter := m } := by
  unfold postEvent
  dsimp only
  rw [show occupancy { s with meter := m } = occupancy s from rfl]
  split
  · rfl
  · rfl

theorem reportFold_eq (s : State) : reportFold s = foldComplete s := by
  unfold reportFold foldComplete
  dsimp only
  cases hstart : s.sup.startWaiting with
  | none => rfl
  | some i =>
    rw [if_pos (show (some i).isSome = true from rfl), if_neg (by simp), answerDeferred_eq]
    simp only [enterRun, postStateChange, modifySup, postEvent_orders]
    rfl

/-- The write in progress stands apart from the report of the fold. -/
theorem foldComplete_write (w : Option (StoreWrite × Nat)) (s : State) :
    foldComplete { s with meter := { s.meter with write := w } } =
      { foldComplete s with meter := { (foldComplete s).meter with write := w } } := by
  unfold foldComplete
  dsimp only
  split
  · rfl
  · have hposted := postEvent_meterOf (.stateChange s.sup.device .run .start s.sup.cold) { s.meter with foldReported := true, write := w }
      { s with meter := { s.meter with foldReported := true }, sup := { s.sup with device := .run, keepalive := some s.time, startWaiting := none } }
    have hmeter := postEvent_meter (.stateChange s.sup.device .run .start s.sup.cold)
      (s := { s with meter := { s.meter with foldReported := true }, sup := { s.sup with device := .run, keepalive := some s.time, startWaiting := none } })
    dsimp only at hposted hmeter ⊢
    rw [hposted]
    simp only [hmeter]

theorem foldComplete_touches (s : State) : Touches reporting s (foldComplete s) := by
  rw [← reportFold_eq]
  exact reportFold_touches s

theorem foldComplete_store (s : State) : (foldComplete s).store = s.store := by
  unfold foldComplete
  dsimp only
  split
  · rfl
  · exact postEvent_store ..

theorem failStore_journal (w : StoreWrite) (s : State) : (failStore w s).store.journal = s.store.journal := by
  rw [failStore, postEvent_store]

/-! ## The end of a take (R109, R152) -/

/-- The write that the writer takes at the end of a take (R109, R110). -/
def writeTaken (s : State) : Option (StoreWrite × Nat) :=
  if s.meter.write.isNone && !s.meter.failed then (nextWrite (dropFolded s)).map fun w => (w, 1) else s.meter.write

theorem writeTaken_eq {s : State} (hwrite : s.meter.write = none) (hfailed : s.meter.failed = false) :
    writeTaken s =
      (let fold := (s.store.journal.dropWhile fun e => (entryWrite s.store e).isNone).head?.bind (entryWrite s.store)
       let block := s.meter.dirty.head?.map StoreWrite.block
       (if s.meter.lastWasFold then block.or fold else fold.or block).map fun w => (w, 1)) := by
  rw [writeTaken, if_pos (by rw [hwrite, hfailed]; rfl), nextWrite]
  have hsame : entryWrite (dropFolded s).store = entryWrite s.store := funext fun e => entryWrite_congr rfl rfl e
  rw [hsame]
  rfl

/-- The store's part of the end of a take, while the store is not FAILED: the journal that is left, the write taken, and the report of the fold. -/
theorem advanceStore_eq {s : State} (h : s.meter.failed = false) :
    advanceStore s =
      (let rest := s.store.journal.dropWhile fun e => (entryWrite s.store e).isNone
       let folded := { s with store := { s.store with journal := rest }, meter := { s.meter with write := writeTaken s } }
       if s.store.journal ≠ [] ∧ rest = [] then foldComplete folded else folded) := by
  have hstart : ∀ u : State, u.meter.write = s.meter.write → u.meter.failed = s.meter.failed → nextWrite u = nextWrite (dropFolded s) →
      startWrite u = { u with meter := { u.meter with write := writeTaken s } } := by
    intro u hwrite hfailed hnext
    unfold startWrite writeTaken
    rw [hwrite, hfailed, hnext]
    split
    · rfl
    · rw [← hwrite]
  unfold advanceStore
  rw [if_neg (by rw [h]; simp)]
  dsimp only
  have hdropped : (dropFolded s).store.journal = s.store.journal.dropWhile fun e => (entryWrite s.store e).isNone := rfl
  rw [hdropped]
  split
  · have htouches := foldComplete_touches (dropFolded s)
    rw [reportFold_eq, hstart _ (htouches.at .write) (htouches.at .failed) ?_]
    · exact (foldComplete_write (writeTaken s) (dropFolded s)).symm
    · unfold nextWrite
      rw [foldComplete_store, htouches.at .dirty, htouches.at .lastWasFold]
  · exact hstart _ rfl rfl rfl

/-- The part-owned words and the header write that they ask for (R152). -/
theorem placeHeader_eq {u : State} {words : HeaderWords} (hwords : headerWords u = words) :
    placeHeader u =
      if words ≠ u.orders.lastHeader ∧ (u.port.control.any (·.isHeader)) = false then
        { u with
          port := { u.port with control := u.port.control ++ [.header false words] }
          orders := { u.orders with lastHeader := words } }
      else u := by
  unfold placeHeader
  rw [hwords]
  refine if_congr ?_ rfl rfl
  simp

/-! ## What a store write leaves (R109, R112) -/

theorem countsFolded_eq (a : Nat) (b : CountsBlock) (e : Entry) : countsFolded a b e = foldCounts a b e := by
  obtain ⟨q, body⟩ := e
  unfold countsFolded foldCounts
  by_cases hq : q ≤ b.lastFolded
  · rw [if_pos hq, if_neg (by simp; omega)]
  · have hlt : b.lastFolded < q := by omega
    rw [if_neg hq]
    cases body with
    | settle c cls col clicks o =>
      by_cases hc : c = a
      · simp [Entry.concerns, Entry.onCounts, hc, hlt, Counts.settle, saturate]
      · simp [Entry.concerns, hc]
    | credit c clicks =>
      by_cases hc : c = a
      · simp [Entry.concerns, Entry.onCounts, hc, hlt, Counts.credit]
      · simp [Entry.concerns, hc]
    | roll =>
      by_cases ha : a < 256
      · simp [Entry.concerns, Entry.onCounts, ha, hlt, Counts.roll]
      · simp [Entry.concerns, ha, Nat.le_of_not_lt ha]

theorem totalsFolded_eq (b : TotalsBlock) (e : Entry) : totalsFolded b e = foldTotals b e := by
  obtain ⟨q, body⟩ := e
  cases body with
  | settle a cls col clicks o =>
    unfold totalsFolded foldTotals
    dsimp only
    by_cases hq : q ≤ b.lastFolded
    · rw [if_pos hq, if_neg (by omega)]
    · rw [if_neg hq, if_pos (Nat.lt_of_not_le hq)]
      cases col <;> fin_cases cls <;> rfl
  | credit | roll => rfl

theorem storeCommitted_committed (w : StoreWrite) (s : State) : storeCommitted w s (committed w s) := by
  cases w with
  | block b =>
    cases b with
    | accountSettings a => exact ⟨fun c hc => by cases hc; rfl, nofun, nofun, nofun, nofun, nofun⟩
    | tariff => exact ⟨nofun, fun _ => rfl, nofun, nofun, nofun, nofun⟩
    | coverage => exact ⟨nofun, nofun, fun _ => rfl, nofun, nofun, nofun⟩
    | supplySettings => exact ⟨nofun, nofun, nofun, fun _ => rfl, nofun, nofun⟩
    | seenList => exact ⟨nofun, nofun, nofun, nofun, fun _ => rfl, nofun⟩
  | fold e account totals =>
    refine ⟨nofun, nofun, nofun, nofun, nofun, fun f b x h => ?_⟩
    cases h
    refine ⟨(foldInto e account s.store).counts, ?_, fun a => ?_⟩
    · rw [totalsFolded_eq]
      cases account <;> cases totals <;> rfl
    · rw [foldInto_counts, countsFolded_eq]
      rfl

/-- The header write that the end of a take places, its words from the state at the take (R152, R153). -/
theorem placeHeader_words {s u : State} {n : Nat} (htake : u.orders.take = s.orders.take) (hwritten : u.events.written = s.events.written)
    (hcold : u.sup.cold = s.sup.cold) (hslots : u.supply.slots = s.supply.slots) (hfree : freeCount u = n)
    (hlast : u.orders.lastHeader = s.orders.lastHeader) :
    placeHeader u =
      (let byte := fun n => BitVec.ofNat 8 ((slotOf s n).state.code + if (slotOf s n).clamped then 128 else 0)
       let words : HeaderWords :=
        { take := s.orders.take, produce := s.events.written, device := u.sup.device, cold := s.sup.cold
          slots := ⟨byte 0, byte 1, byte 2, byte 3⟩, free := n }
       let waits := u.port.control.any fun a => match a with
        | .header _ _ => true
        | _ => false
       if words ≠ s.orders.lastHeader ∧ waits = false then
        { u with
          port := { u.port with control := u.port.control ++ [.header false words] }
          orders := { u.orders with lastHeader := words } }
       else u) := by
  have hslot : ∀ n, slotOf u n = slotOf s n := fun n => congrArg (Quad.get · n) hslots
  have hwords : headerWords u = { take := s.orders.take, produce := s.events.written, device := u.sup.device, cold := s.sup.cold
                                  slots := ⟨(slotOf s 0).stateByte, (slotOf s 1).stateByte, (slotOf s 2).stateByte, (slotOf s 3).stateByte⟩
                                  free := n } := by
    rw [headerWords, htake, hwritten, hcold, hfree]
    simp only [hslot]
  rw [placeHeader_eq hwords, hlast]
  rfl

end Sys2Proof.Machine

namespace Sys2Proof.Proofs

open Sys2Proof.Machine

/-- Settles O3: the entries that leave are those at the head that need no write; then the writer's choice, the report of the fold, and the header. -/
theorem closeTakeFrame : Obligations.CloseTakeFrame := by
  unfold Obligations.CloseTakeFrame
  intro s
  cases hfailed : s.meter.failed with
  | true =>
    refine ⟨[], s.store.journal, s.meter.write, rfl, by simp, fun _ => rfl, nofun, fun _ => rfl, nofun, ?_⟩
    rw [closeTake, advanceStore, if_pos hfailed]
    exact placeHeader_words (s := s) (u := s) rfl rfl rfl rfl rfl rfl
  | false =>
    refine ⟨s.store.journal.takeWhile fun e => (entryWrite s.store e).isNone, s.store.journal.dropWhile fun e => (entryWrite s.store e).isNone,
      writeTaken s, List.takeWhile_append_dropWhile.symm, fun e he => ?_, nofun, fun _ e he => ?_, fun h => ?_, fun _ hwrite => ⟨fun h => ?_, fun e he h => ?_⟩, ?_⟩
    · have hnone : (entryWrite s.store e).isNone = true := List.mem_takeWhile_imp (p := fun e => (entryWrite s.store e).isNone) he
      exact (entryTaken_iff s.store e).mpr (Option.isNone_iff_eq_none.mp hnone)
    · rw [entryTaken_iff]
      have hhead := List.head?_dropWhile_not (fun e => (entryWrite s.store e).isNone) s.store.journal
      rw [he] at hhead
      intro hnone
      simp [hnone] at hhead
    · rcases h with h | h
      · cases h
      · rw [writeTaken, if_neg (by cases hw : s.meter.write <;> simp_all)]
    · rw [writeTaken_eq hwrite hfailed]
      rcases h with h | ⟨hblock, hlast⟩
      · rw [h]
        cases s.meter.dirty.head? <;> cases s.meter.lastWasFold <;> rfl
      · obtain ⟨b, hb⟩ := Option.isSome_iff_exists.mp hblock
        obtain ⟨c, hc, -⟩ := Option.map_eq_some_iff.mp hb
        rw [hlast, hc]
        rfl
    · have hhead := List.head?_dropWhile_not (fun e => (entryWrite s.store e).isNone) s.store.journal
      rw [he] at hhead
      obtain ⟨f, hf⟩ : ∃ f, entryWrite s.store e = some f := Option.ne_none_iff_exists'.mp fun hnone => by simp [hnone] at hhead
      refine ⟨f, asksFold_of_entryWrite hf, ?_⟩
      rw [writeTaken_eq hwrite hfailed, he, Option.bind_some, hf]
      rcases h with h | h
      · rw [Option.map_eq_none_iff.mp h]
        cases s.meter.lastWasFold <;> rfl
      · rw [h]
        rfl
    · have hemptied : (s.store.journal ≠ [] ∧ (s.store.journal.dropWhile fun e => (entryWrite s.store e).isNone) = []) ↔
          ((s.store.journal.takeWhile fun e => (entryWrite s.store e).isNone) ≠ [] ∧
            (s.store.journal.dropWhile fun e => (entryWrite s.store e).isNone) = []) := and_congr_left fun hrest => by
        have hsplit := List.takeWhile_append_dropWhile (p := fun e => (entryWrite s.store e).isNone) (l := s.store.journal)
        rw [hrest, List.append_nil] at hsplit
        rw [hsplit]
      rw [closeTake, advanceStore_eq hfailed]
      dsimp only
      rw [if_congr hemptied rfl rfl]
      generalize hfolded : ({ s with
        store := { s.store with journal := s.store.journal.dropWhile fun e => (entryWrite s.store e).isNone }
        meter := { s.meter with write := writeTaken s } } : State) = folded
      generalize (s.store.journal.takeWhile fun e => (entryWrite s.store e).isNone) = gone
      generalize (s.store.journal.dropWhile fun e => (entryWrite s.store e).isNone) = rest at hfolded ⊢
      generalize hreported : (if gone ≠ [] ∧ rest = [] then foldComplete folded else folded : State) = u
      have hu : Touches reporting folded u := hreported ▸ .ite (fun _ => foldComplete_touches folded) fun _ => .refl folded
      refine placeHeader_words (s := s) (u := u) ?_ ?_ ?_ ?_ ?_ ?_
      · rw [hu.at .take, ← hfolded]
      · rw [hu.at .written, ← hfolded]
      · rw [hu.at .cold, ← hfolded]
      · rw [hu.at .slots, ← hfolded]
      · rw [freeCount, hu.at .journal, hu.at .reservations, ← hfolded]
      · rw [hu.at .lastHeader, ← hfolded]

/-- Settles O50: the write that stands in the store, the second attempt, and the failure with its report. -/
theorem storeWriteEnds : Obligations.StoreWriteEnds := by
  unfold Obligations.StoreWriteEnds
  intro s hp
  refine ⟨fun hw good => taken_none (show storeWriteDone good s = none by rw [storeWriteDone, hw]; rfl), fun w attempt hw => ⟨?_, fun hattempt => ?_, fun hattempt => ?_⟩⟩
  · refine ⟨committed w s, ?_, storeCommitted_committed w s⟩
    refine (taken_some hp (show storeWriteDone true s = some _ by rw [storeWriteDone, hw]; rfl)).trans ?_
    cases w <;> rfl
  · refine taken_some hp (show storeWriteDone false s = some _ by rw [storeWriteDone, hw]; exact congrArg some (if_pos hattempt))
  · refine (taken_some hp (show storeWriteDone false s = some _ by rw [storeWriteDone, hw]; exact congrArg some (if_neg hattempt))).trans ?_
    rw [reportFold_eq]
    cases w with
    | block b => exact congrArg (fun t => Host.Outcome.next (closeTake t)) (if_congr (by rw [failStore_journal]) rfl rfl)
    | fold e account totals =>
      cases account <;> exact congrArg (fun t => Host.Outcome.next (closeTake t)) (if_congr (by rw [failStore_journal]) rfl rfl)

end Sys2Proof.Proofs
end

section
/-! The resets and the loss of power (O51). -/

namespace Sys2Proof.Machine

set_option Elab.async false

/-! ## Lines of a write (R23) -/

theorem length_lines {α : Type} {g : Nat → List α} {n : Nat} (hg : ∀ i, i < n → (g i).length = 64) : ((List.range n).flatMap g).length = 64 * n := by
  rw [List.length_flatMap, List.map_congr_left fun i hi => hg i (List.mem_range.mp hi)]
  simp [Nat.mul_comm]

/-- Of lines of 64 positions one after another, each position stands in its line. -/
theorem getD_lines {α : Type} {g : Nat → List α} (d : α) {n i : Nat} (hg : ∀ i, i < n → (g i).length = 64) (hi : i < 64 * n) :
    ((List.range n).flatMap g).getD i d = (g (i / 64)).getD (i % 64) d := by
  induction n with
  | zero => omega
  | succ n ih =>
    have hbelow : ∀ i, i < n → (g i).length = 64 := fun i hi => hg i (by omega)
    have hlength := length_lines hbelow
    rw [List.range_succ, List.flatMap_append, List.flatMap_singleton]
    by_cases hn : i < 64 * n
    · rw [List.getD_append _ _ _ _ (by omega), ih hbelow hn]
    · rw [List.getD_append_right _ _ _ _ (by omega), hlength, show i / 64 = n by omega, show i - 64 * n = i % 64 by omega]

theorem length_lineOf {α : Type} {l : List α} {i : Nat} (hi : i < l.length / 64) : (lineOf l i).length = 64 := by
  rw [lineOf, List.length_take, List.length_drop]
  omega

theorem getD_lineOf {α : Type} (l : List α) (d : α) (i : Nat) {k : Nat} (hk : k < 64) : (lineOf l i).getD k d = l.getD (64 * i + k) d := by
  rw [lineOf, List.getD_eq_getElem?_getD, List.getElem?_take_of_lt hk, List.getElem?_drop, ← List.getD_eq_getElem?_getD]

/-- The lines of a cut write that had been performed keep their bytes; the others write nothing (R23). -/
theorem length_performedLines (cut : ResetCut) (bs : List (Option Byte)) : (performedLines cut bs).length = 64 * (bs.length / 64) := by
  refine length_lines fun i hi => ?_
  split
  · exact length_lineOf hi
  · rw [List.length_map, length_lineOf hi]

theorem getD_performedLines {cut : ResetCut} {bs : List (Option Byte)} {i : Nat} (hi : i < 64 * (bs.length / 64)) :
    (performedLines cut bs).getD i none = if cut.linesPerformed.getLsbD (i / 64) = true then bs.getD i none else none := by
  rw [performedLines, getD_lines none (fun k hk => ?_) hi]
  · split
    · rw [getD_lineOf _ _ _ (Nat.mod_lt _ (by decide)), show 64 * (i / 64) + i % 64 = i by omega]
    · rw [List.getD_eq_getElem?_getD, List.getElem?_map]
      cases (lineOf bs (i / 64))[i % 64]? <;> rfl
  · split
    · exact length_lineOf hk
    · rw [List.length_map, length_lineOf hk]

/-! ## Page memory after a write (R25, R38) -/

theorem readByte_portWrite (a : Nat) (bytes : List (Option Byte)) (s : State) (x : Nat) :
    readByte (portWrite a bytes s) x =
      if fitted s a = true ∧ a ≤ x ∧ x < a + bytes.length then (bytes.getD (x - a) none).getD (readByte s x) else readByte s x := by
  unfold portWrite
  split
  · rename_i hfit
    simp only [readByte, get_writeCells, hfit, true_and]
  · rename_i hfit
    rw [if_neg fun h => hfit h.1]

/-- A line of zeros written (R147). -/
theorem readByte_zeros (a : Nat) (s : State) (x : Nat) :
    readByte (portWrite a (List.replicate 64 (some 0)) s) x = if fitted s a = true ∧ a ≤ x ∧ x < a + 64 then 0 else readByte s x := by
  rw [readByte_portWrite, List.length_replicate]
  refine ite_congr rfl (fun h => ?_) fun _ => rfl
  rw [List.getD_eq_getElem?_getD, List.getElem?_replicate, if_pos (by omega)]
  rfl

/-- What a reset or a loss of power cuts changes nothing but page memory (R23). -/
theorem cutMemory_eq (cut : ResetCut) (s : State) : cutMemory cut s = { s with mem := (cutMemory cut s).mem } := by
  have hport : ∀ a bytes, portWrite a bytes s = { s with mem := (portWrite a bytes s).mem } := fun a bytes => by unfold portWrite; split <;> rfl
  unfold cutMemory
  split
  · split
    · exact hport ..
    · rfl
  · split
    · exact hport ..
    · rfl
  · rfl

/-- Page memory after the cut of the access in progress, byte by byte (R23, R151). -/
theorem readByte_cutMemory (cut : ResetCut) (s : State) (x : Nat) :
    readByte (cutMemory cut s) x =
      match s.port.grant, s.filter.service with
      | some (.scrub f l _), _ =>
        if fitted s (lineAddress f l) = true ∧ cut.linesPerformed.getLsbD 0 = true ∧ lineAddress f l ≤ x ∧ x < lineAddress f l + 64 then 0 else readByte s x
      | some .link, some v =>
        match v.phase with
        | .performing (.write bytes) =>
          let i := x - v.part.addr
          if fitted s v.part.addr = true ∧ v.part.addr ≤ x ∧ i < 64 * (bytes.length / 64) ∧ cut.linesPerformed.getLsbD (i / 64) = true then
            (bytes.getD i none).getD (readByte s x)
          else readByte s x
        | _ => readByte s x
      | _, _ => readByte s x := by
  unfold cutMemory
  generalize s.port.grant = grant
  generalize s.filter.service = service
  cases grant with
  | none => rfl
  | some grant =>
    cases grant with
    | control a => rfl
    | scrub f l live =>
      dsimp only
      split
      · rename_i hline
        rw [readByte_zeros]
        simp only [hline, true_and]
      · rename_i hline
        rw [if_neg fun h => hline h.2.1]
    | link =>
      cases service with
      | none => rfl
      | some v =>
        dsimp only
        generalize v.phase = phase
        cases phase with
        | asking a => rfl
        | performing a =>
          cases a with
          | read | mergeRead => rfl
          | write bytes =>
            dsimp only
            rw [readByte_portWrite, length_performedLines]
            by_cases hin : fitted s v.part.addr = true ∧ v.part.addr ≤ x ∧ x < v.part.addr + 64 * (bytes.length / 64)
            · obtain ⟨hfit, hle, hlt⟩ := hin
              rw [if_pos ⟨hfit, hle, hlt⟩, getD_performedLines (by omega)]
              by_cases hline : cut.linesPerformed.getLsbD ((x - v.part.addr) / 64) = true
              · rw [if_pos hline, if_pos ⟨hfit, hle, by omega, hline⟩]
              · rw [if_neg hline, if_neg fun h => hline h.2.2.2]
                rfl
            · rw [if_neg hin, if_neg fun h => hin ⟨h.1, h.2.1, by omega⟩]

/-- A slot record at a reset, by its line and the door (R119, R123). -/
theorem startSlot_eq (present doorClosed : Bool) :
    startSlot present doorClosed = { Slot.absentFresh with
      state := if present then .unknown else .absent
      probeDelay := if present = true ∧ doorClosed = true then some 0 else none } := by
  cases present <;> cases doorClosed <;> rfl

end Sys2Proof.Machine

namespace Sys2Proof.Proofs

open Sys2Proof.Machine

/-- Settles O51: page memory after the cut byte by byte, the store whole or not at all, and every volatile state anew. -/
theorem resetsAndPowerLoss : Obligations.ResetsAndPowerLoss := by
  unfold Obligations.ResetsAndPowerLoss
  intro s cut cutAt cutStored clean
  have hcut : ∀ c : ResetCut, cutAt c.linesPerformed (cutMemory c s).mem := fun c x => readByte_cutMemory c s x
  have hstored : cutStored (cutStore cut s) := by
    refine ⟨fun w n hw hc => ?_, fun h => ?_⟩
    · rw [cutStore, hw]
      dsimp only
      rw [if_pos hc]
      exact storeCommitted_committed w s
    · unfold cutStore
      split
      · rename_i hw
        rcases h with h | h
        · rw [hw] at h; cases h
        · rw [if_neg (by rw [h]; simp)]
      · rfl
  have hclean : ∀ (cold : Bool) (c : ResetCut) (p : Power), clean cold c.linesPerformed (cutStore c s) { afterReset cold c s with power := p } := by
    intro cold c p
    rw [afterReset, cutMemory_eq]
    refine ⟨rfl, rfl, rfl, rfl, rfl, rfl, ⟨(loadedMeter (cutStore c s)).accounts, ?_, fun a => ?_⟩, rfl, rfl, rfl, rfl, rfl, rfl, rfl, fun n => ?_, rfl, rfl, rfl,
      rfl, rfl, rfl, rfl, rfl, rfl, rfl, rfl, rfl, rfl, hcut c⟩
    · rw [funext₂ totalsFolded_eq]
      rfl
    · rw [loadedMeter, Table.get_ofFn]
      refine ite_congr rfl (fun _ => ?_) fun _ => rfl
      rw [funext₂ (countsFolded_eq a)]
      rfl
    · fin_cases n <;> exact startSlot_eq ..
  refine ⟨⟨afterReset true cut s, _, hstored, hclean true cut .on, rfl, rfl⟩, fun hp => ⟨_, _, hstored, hclean false cut .held, rfl, ?_⟩, fun hp => ?_,
    fun hp => ⟨afterReset false ⟨false, 0⟩ s, ?_, rfl, ?_⟩, fun hp => ?_, fun hp => ⟨(cutMemory cut s).mem, _, hstored, hcut cut, ?_⟩, fun hp => ?_⟩
  · exact if_pos hp
  · exact if_neg hp
  · have hnone : cutStore ⟨false, 0⟩ s = s.store := by
      unfold cutStore
      split <;> rfl
    exact hnone ▸ hclean false ⟨false, 0⟩ .on
  · exact if_pos hp
  · exact if_neg hp
  · refine (if_neg hp).trans ?_
    rw [cutMemory_eq]
  · exact if_pos hp

end Sys2Proof.Proofs
end

section
/-! The transfer path at the link: the parts of a transfer, a part's record, the accesses performed, the line cipher, the snooped indices and the scrub
lines (O7, O8, O13 to O17). -/

namespace Sys2Proof.Machine

set_option Elab.async false

/-! ## The parts of a transfer (R21) -/

/-- A write carries 64 byte positions a line. -/
def wholeLines : Access → Prop
  | .read _ => True
  | .write bytes => bytes.length % 64 = 0

theorem Transfer.wf_iff (t : Transfer) :
    t.wf = true ↔ t.addr.toNat % 64 = 0 ∧ 1 ≤ t.access.lineCount ∧ t.access.lineCount ≤ 8 ∧ wholeLines t.access := by
  unfold Transfer.wf wholeLines
  cases t.access <;> simp [and_assoc]

theorem lineCount_takeLines {a : Access} (h : wholeLines a) (k : Nat) : (takeLines k a).lineCount = min k a.lineCount := by
  cases a with
  | read n => rfl
  | write bytes =>
    have hwhole : bytes.length % 64 = 0 := h
    simp only [takeLines, Access.lineCount, List.length_take]
    omega

theorem lineCount_dropLines {a : Access} (h : wholeLines a) (k : Nat) : (dropLines k a).lineCount = a.lineCount - k := by
  cases a with
  | read n => rfl
  | write bytes =>
    have hwhole : bytes.length % 64 = 0 := h
    simp only [dropLines, Access.lineCount, List.length_drop]
    omega

theorem isWrite_iff (p : Part) : p.isWrite = true ↔ ∃ bytes, p.access = .write bytes := by
  unfold Part.isWrite
  cases p.access <;> simp

/-- The two forms of a transfer's parts: its lines stand in one frame, or cross into the next one (R21). -/
theorem parts_eq (t : Transfer) (h : t.wf = true) :
    (t.addr.toNat % 1048576 + 64 * t.access.lineCount ≤ 1048576 ∧ Transfer.parts t = [⟨t.source, t.addr.toNat, t.access⟩]) ∨
    ∃ room, t.addr.toNat % 1048576 + 64 * room = 1048576 ∧ 1 ≤ room ∧ room < t.access.lineCount ∧
      Transfer.parts t = [⟨t.source, t.addr.toNat, takeLines room t.access⟩,
        ⟨t.source, (t.addr.toNat + 64 * room) % 4294967296, dropLines room t.access⟩] := by
  obtain ⟨haligned, hone, height, -⟩ := (Transfer.wf_iff t).mp h
  unfold Transfer.parts
  simp only [frameSize]
  by_cases hroom : t.access.lineCount ≤ (1048576 - t.addr.toNat % 1048576) / 64
  · exact .inl ⟨by omega, if_pos hroom⟩
  · exact .inr ⟨_, by omega, by omega, by omega, if_neg hroom⟩

/-! ## The record of a part (R11, R22, R31) -/

theorem isBreach_iff (p : Part) (c : FrameClass) (v : View) (live : Bool) :
    isBreach p c v live = true ↔
      ((v = .blank ∨ (v = .metered ∧ p.isWrite = true)) ∧ (c = .control ∨ c = .priv ∨ c = .retired)) ∨
        (p.source = .print ∧ p.isWrite = false ∧ live = false) := by
  have hguarded : c.guarded = true ↔ c = .control ∨ c = .priv ∨ c = .retired := by cases c <;> simp [FrameClass.guarded]
  rw [← hguarded]
  unfold isBreach
  cases v <;> simp [and_assoc]

theorem usable_eq_some_iff {k : Key} (slot : KeySlot) : slot.usable = some k ↔ slot = .loaded k := by
  cases slot <;> simp [KeySlot.usable]

/-! ## The line cipher (R27) -/

/-- Chunks of one length, one after another: each stands at its place. -/
theorem chunk_flatMap {α : Type} {g : Nat → List α} {c n : Nat} (hg : ∀ i, i < n → (g i).length = c) {k : Nat} (hk : k < n) :
    (((List.range n).flatMap g).drop (c * k)).take c = g k := by
  obtain ⟨m, rfl⟩ : ∃ m, n = k + (m + 1) := ⟨n - k - 1, by omega⟩
  have hbefore : ((List.range k).flatMap g).length = c * k := by
    rw [List.length_flatMap, List.map_congr_left fun i hi => hg i (by have := List.mem_range.mp hi; omega)]
    simp [Nat.mul_comm]
  rw [List.range_add, List.flatMap_append, List.drop_left' hbefore, List.range_succ_eq_map, List.map_cons, List.flatMap_cons, Nat.add_zero,
    List.take_left' (hg k hk)]

/-- A list is its chunks one after another. -/
theorem flatMap_chunks {α : Type} (l : List α) (c n : Nat) : ((List.range n).flatMap fun k => (l.drop (c * k)).take c) = l.take (c * n) := by
  induction n with
  | zero => simp
  | succ n ih => rw [List.range_succ, List.flatMap_append, ih, List.flatMap_singleton, Nat.mul_succ, List.take_add]

theorem blockBits_blockBytes (b : BitVec 128) : blockBits (blockBytes b) = b := by
  apply BitVec.eq_of_toNat_eq
  have hlt := b.isLt
  rw [blockBits, blockBytes, fromLe_leBytes, BitVec.toNat_ofNat]
  omega

theorem fromLe_lt (bs : List Byte) : fromLe bs < 256 ^ bs.length := by
  induction bs with
  | nil => simp [fromLe]
  | cons b t ih =>
    have hb : b.toNat < 256 := b.isLt
    rw [fromLe, List.length_cons, Nat.pow_succ]
    omega

theorem blockBytes_blockBits {bs : List Byte} (h : bs.length = 16) : blockBytes (blockBits bs) = bs := by
  have hlt := fromLe_lt bs
  rw [h] at hlt
  rw [blockBits, blockBytes, BitVec.toNat_ofNat, Nat.mod_eq_of_lt (by simpa using hlt), ← h, leBytes_fromLe]

theorem length_cipherLine (f : Tweak → BitVec 128 → BitVec 128) (r : PartRecord) (line : Nat) (bs : List Byte) :
    (cipherLine f r line bs).length = 64 := by
  simp [cipherLine, List.length_flatMap, blockBytes]

/-- The line cipher undoes a line where its block function undoes each block (R27). -/
theorem cipherLine_cipherLine {f g : Tweak → BitVec 128 → BitVec 128} (h : ∀ t b, g t (f t b) = b) (r : PartRecord) (line : Nat) {bs : List Byte}
    (hbs : bs.length = 64) : cipherLine g r line (cipherLine f r line bs) = bs := by
  have hblock : ∀ k, k < 4 → (((cipherLine f r line bs).drop (16 * k)).take 16) =
      blockBytes (f (r.tweak line k) (blockBits ((bs.drop (16 * k)).take 16))) := fun k hk =>
    chunk_flatMap (fun i _ => leBytes_length 16 _) hk
  have hall : cipherLine g r line (cipherLine f r line bs) = (List.range 4).flatMap fun k => (bs.drop (16 * k)).take 16 := by
    refine List.flatMap_congr fun k hk => ?_
    have hk4 := List.mem_range.mp hk
    rw [hblock k hk4, blockBits_blockBytes, h, blockBytes_blockBits]
    rw [List.length_take, List.length_drop]
    omega
  rw [hall, flatMap_chunks, List.take_of_length_le (by omega)]

/-! ## Accesses performed (R20, R24, R38) -/

theorem exec_linkPerformed {s : State} {v : Service} {a : LinkAccess} (h : performs s v a) :
    exec .linkAccessPerformed s = .next (closeTake (linkPerformed v a s)) := by
  obtain ⟨hp, hgrant, hservice, hphase⟩ := h
  refine taken_some hp ?_
  unfold linkAccess
  rw [hgrant, hservice]
  dsimp only
  rw [hphase]

theorem serveParts_nil (write : Bool) (data : List Byte) (s : State) :
    serveParts write [] data s = { s with filter := { s.filter with service := none, answer := some (linkAnswer write data) } } := rfl

/-- The erasure of a key reads and changes the Job Table alone (R54). -/
theorem eraseDraining_filterOf (key : Option Key) (filter : Filter) (s : State) :
    eraseDraining key { s with filter := filter } = { eraseDraining key s with filter := filter } := by
  cases key <;> rfl

theorem endService_eq {v : Service} (hpost : v.post = none) (hconsume : v.consume = none) (data : List Byte) (s : State) :
    endService v data s =
      serveParts v.part.isWrite v.rest (v.data ++ data) (eraseDraining v.record.key { s with filter := { s.filter with service := none } }) := by
  rw [endService, hpost, hconsume]
  rfl

/-- A part of which nothing is left to take: the erasure of its key, and the answer. -/
theorem serveParts_last (write : Bool) (data : List Byte) (key : Option Key) (s : State) :
    serveParts write [] data (eraseDraining key s) =
      eraseDraining key { s with filter := { s.filter with service := none, answer := some (linkAnswer write data) } } := by
  cases key <;> rfl

theorem portWrite_eq (a : Nat) (bytes : List (Option Byte)) (s : State) : portWrite a bytes s = { s with mem := (portWrite a bytes s).mem } := by
  unfold portWrite
  split <;> rfl

/-! ## Snooped indices (R155, R162, R165) -/

theorem ringDistance_pos_iff (a b : Index) : 1 ≤ ringDistance a b ↔ a ≠ b := by
  unfold ringDistance
  bv_omega

/-- ATTN judged anew is what the mode says of the unconsumed count, the alarm and the latch (R165, R166). -/
theorem Events.judge_eq (e : Events) : e.judge = { e with attn := attnUnder e.mode e.unconsumed e.alarmWaits e.latch } := by
  unfold Events.judge Events.attnLevel attnUnder
  cases e.mode <;> rfl

/-- The alarm index that is left unconsumed by a consume value (R162). -/
def alarmLeft (e : Events) (value : Index) : Option Index :=
  match e.lastAlarm with
  | some i => if ringDistance i value < ringDistance e.written value then some i else none
  | none => none

/-- An alarm waits exactly where its index is left. -/
theorem alarmWaits_of_left (e : Events) (value : Index) : ({ e with consume := value } : Events).alarmWaits = (alarmLeft e value).isSome := by
  unfold Events.alarmWaits alarmLeft Events.unconsumed
  cases e.lastAlarm with
  | none => rfl
  | some i =>
    dsimp only
    split <;> simp_all

/-- The alarm index is dropped where the alarm is consumed, and kept otherwise (R162). -/
theorem lastAlarm_left (e : Events) (value : Index) :
    (if ({ e with consume := value } : Events).alarmWaits = true then { e with consume := value }
      else { e with consume := value, lastAlarm := none }) = { e with consume := value, lastAlarm := alarmLeft e value } := by
  rw [alarmWaits_of_left]
  unfold alarmLeft
  obtain ⟨_, _, _, _, lastAlarm, _, _, _, _⟩ := e
  cases lastAlarm with
  | none => rfl
  | some i =>
    dsimp only
    split <;> rfl

/-- The events with a consume value taken, before ATTN is judged (R162, R166). -/
def consumedEvents (e : Events) (value : Index) : Events :=
  { e with
    consume := value
    lastAlarm := alarmLeft e value
    latch := if e.mode = .first then false else e.latch
    armed := if e.mode = .first then decide (ringDistance e.written value = 0) else e.armed }

/-- What is left of the alarm waits. -/
theorem alarmWaits_consumedEvents (e : Events) (value : Index) : (consumedEvents e value).alarmWaits = (alarmLeft e value).isSome := by
  unfold Events.alarmWaits consumedEvents Events.unconsumed alarmLeft
  cases e.lastAlarm with
  | none => rfl
  | some i =>
    dsimp only
    by_cases h : ringDistance i value < ringDistance e.written value
    · simp [h]
    · simp [h]

/-- A consume value that is taken: its effect on the events, and ATTN under the mode (R162, R165, R166). -/
theorem Events.consumed_eq (e : Events) (value : Index) :
    e.consumed value = { consumedEvents e value with
      attn := attnUnder e.mode (ringDistance e.written value) (alarmLeft e value).isSome (if e.mode = .first then false else e.latch) } := by
  have hset : e.consumed value = (consumedEvents e value).judge := by
    unfold Events.consumed
    dsimp only
    rw [lastAlarm_left]
    unfold consumedEvents
    by_cases hfirst : e.mode = .first
    · simp only [if_pos hfirst, Events.unconsumed] <;> rfl
    · simp only [if_neg hfirst]
  rw [hset, Events.judge_eq, alarmWaits_consumedEvents]
  rfl

/-- Snooped values leave the filter as it is. -/
theorem handOver_filter (post consume : Option Index) (s : State) : (handOver post consume s).filter = s.filter := by
  have hpost : ∀ value, (takePost value s).filter = s.filter := fun value => by
    unfold takePost
    dsimp only
    split
    · rfl
    · exact postEvent_filter ..
  have hconsume : ∀ value t, (takeConsume value t).filter = t.filter := fun value t => by
    unfold takeConsume
    split
    · rfl
    · exact postEvent_filter ..
  unfold handOver
  cases post <;> cases consume <;> simp [hpost, hconsume]

/-- The post value's conditions, as R155 says them. -/
theorem takePost_eq (value : Index) (s : State) :
    takePost value s =
      if ringDistance value s.orders.take ≤ 64 ∧ (s.orders.fetching = true → value ≠ s.orders.take) then
        { s with orders := { s.orders with heldPost := value } }
      else postEvent (.ringFaultPost value s.orders.heldPost s.orders.take) s := by
  unfold takePost
  simp only [ringDistance_pos_iff]

/-- A consume value taken behind a post value is judged by the indices that stood before. -/
theorem takeConsume_eq {s t : State} (hconsume : t.events.consume = s.events.consume) (hwritten : t.events.written = s.events.written)
    (hlast : t.events.lastAlarm = s.events.lastAlarm) (hmode : t.events.mode = s.events.mode) (hlatch : t.events.latch = s.events.latch)
    (harmed : t.events.armed = s.events.armed) (value : Index) :
    takeConsume value t =
      if ringDistance value s.events.consume ≤ ringDistance s.events.written s.events.consume then
        { t with events := { t.events with
          consume := value
          lastAlarm := alarmLeft s.events value
          latch := if s.events.mode = .first then false else s.events.latch
          armed := if s.events.mode = .first then decide (ringDistance s.events.written value = 0) else s.events.armed
          attn := attnUnder s.events.mode (ringDistance s.events.written value) (alarmLeft s.events value).isSome
            (if s.events.mode = .first then false else s.events.latch) } }
      else postEvent (.ringFaultConsume value s.events.consume s.events.written) t := by
  have hleft : alarmLeft t.events value = alarmLeft s.events value := by rw [alarmLeft, alarmLeft, hlast, hwritten] <;> rfl
  unfold takeConsume
  simp only [Events.consumed_eq, consumedEvents, hconsume, hwritten, hmode, hlatch, harmed, hleft]

/-- What a post value leaves of the events (R155). -/
theorem takeConsume_takePost (value post : Index) (s : State) :
    takeConsume value (takePost post s) =
      if ringDistance value s.events.consume ≤ ringDistance s.events.written s.events.consume then
        { takePost post s with events := { (takePost post s).events with
          consume := value
          lastAlarm := alarmLeft s.events value
          latch := if s.events.mode = .first then false else s.events.latch
          armed := if s.events.mode = .first then decide (ringDistance s.events.written value = 0) else s.events.armed
          attn := attnUnder s.events.mode (ringDistance s.events.written value) (alarmLeft s.events value).isSome
            (if s.events.mode = .first then false else s.events.latch) } }
      else postEvent (.ringFaultConsume value s.events.consume s.events.written) (takePost post s) := by
  have htouches := takePost_touches (s := s) post
  have hattention := htouches.at .attention
  simp only [Aspect.same, Prod.mk.injEq] at hattention
  obtain ⟨hlast, hmode, hlatch, harmed, -⟩ := hattention
  exact takeConsume_eq (htouches.at .consume) (htouches.at .written) hlast hmode hlatch harmed value

/-- The last part's end: the snooped values, the erasure and the answer (R20, R35). -/
theorem endService_last {v : Service} (hrest : v.rest = []) (hkey : v.record.key = none) (hwrite : v.part.isWrite = true) (data : List Byte) (s : State) :
    endService v data s =
      { handOver v.post v.consume s with filter := { s.filter with service := none, answer := some .completion } } := by
  unfold endService
  rw [hrest, hkey, hwrite, serveParts_nil, ← handOver_filter v.post v.consume s]
  rfl

/-! ## Scrub lines (R147 to R150) -/

theorem freePort_portWrite (a : Nat) (bytes : List (Option Byte)) (s : State) :
    freePort (portWrite a bytes s) = { s with mem := (portWrite a bytes s).mem, port := { s.port with grant := none } } := by
  rw [portWrite_eq]
  rfl

/-- The line of a removed head counts for nothing (R150). -/
theorem scrubPerformed_removed {s : State} {f l : Nat} (h : s.port.grant = some (.scrub f l false)) :
    scrubPerformed s = some (freePort (portWrite (lineAddress f l) (List.replicate 64 (some 0)) s)) := by
  unfold scrubPerformed
  rw [h]
  rfl

/-- The head's progress after a line that was performed, or the end of its scrub (R147, R148). -/
def lineScrubbed (f l : Nat) (s : State) : State :=
  if l < 16383 then { s with scrub := { s.scrub with progress := some (l + 1), offered := true } } else endScrub f s

theorem lineScrubbed_last {f l : Nat} (h : ¬ l < 16383) (s : State) : lineScrubbed f l s = endScrub f s := if_neg h

theorem lineScrubbed_next {f l : Nat} (h : l < 16383) (s : State) :
    lineScrubbed f l s = { s with scrub := { s.scrub with progress := some (l + 1), offered := true } } := if_pos h

theorem scrubPerformed_live {s : State} {f l : Nat} (h : s.port.grant = some (.scrub f l true)) :
    scrubPerformed s = some (lineScrubbed f l (freePort (portWrite (lineAddress f l) (List.replicate 64 (some 0)) s))) := by
  unfold scrubPerformed lineScrubbed
  rw [h]
  dsimp only
  rw [if_pos rfl]
  by_cases hl : l < 16383
  · simp only [if_pos hl]
  · simp only [if_neg hl]

/-- The end of a frame's scrub hands the turn to the next of the queue (R148). -/
theorem endScrub_cons {f g : Nat} {q : List Nat} {s : State} (hq : s.scrub.queue.tail = g :: q) :
    endScrub f s = setFrame g ⟨.scrubbing, false⟩ (setFrame f ⟨.opened, false⟩
      { s with scrub := ⟨g :: q, some 0, true, min (s.scrub.scrubbed + 1) 65535, s.scrub.removed⟩ }) := by
  unfold endScrub nextHead
  rw [hq]
  simp only [setFrame_scrub]
  rfl

/-- The end of the last frame's scrub posts SCRUB_IDLE and clears the counts (R149). -/
theorem endScrub_nil {f : Nat} {s : State} (hq : s.scrub.queue.tail = []) :
    endScrub f s =
      { postEvent (.scrubIdle (min (s.scrub.scrubbed + 1) 65535) s.scrub.removed f .scrubbed)
          (setFrame f ⟨.opened, false⟩ { s with scrub := ⟨[], none, false, min (s.scrub.scrubbed + 1) 65535, s.scrub.removed⟩ }) with
        scrub := ⟨[], none, false, 0, 0⟩ } := by
  unfold endScrub nextHead
  rw [hq]
  simp only [setFrame_scrub]
  unfold scrubIdle
  simp only [postEvent_scrub]
  rfl

/-! ## PLAIN writes (R29, R30) -/

/-- What a PLAIN write stores of one line. -/
def plainLine (r : PartRecord) (p : Part) (stored : List Byte) (i : Nat) : List (Option Byte) :=
  let line := lineOf p.bytes i
  if lineEmpty line then line
  else
    let plain := if lineFull line then line.map (·.getD 0) else overlay line (decipherLine r (p.lineIndex i) (lineOf stored i))
    (encipherLine r (p.lineIndex i) plain).map some

theorem plainWrite_eq (r : PartRecord) (p : Part) (stored : List Byte) :
    plainWrite r p stored = (List.range p.access.lineCount).flatMap (plainLine r p stored) := rfl

/-- Over a full line nothing of the stored line is left. -/
theorem overlay_full {line : List (Option Byte)} {stored : List Byte} (hfull : lineFull line = true) (hlength : line.length = stored.length) :
    List.zipWith (fun w b => w.getD b) line stored = line.map (·.getD 0) := by
  induction line generalizing stored with
  | nil => rfl
  | cons w line ih =>
    cases stored with
    | nil => simp at hlength
    | cons b stored =>
      simp only [lineFull, List.all_cons, Bool.and_eq_true] at hfull
      obtain ⟨x, rfl⟩ := Option.isSome_iff_exists.mp hfull.1
      rw [List.zipWith_cons_cons, ih hfull.2 (by simpa using hlength)]
      rfl

end Sys2Proof.Machine

namespace Sys2Proof.Proofs

open Sys2Proof.Machine

/-- Settles O7, by the two forms of a transfer's parts. -/
theorem partsCoverTransfer : Obligations.PartsCoverTransfer := by
  unfold Obligations.PartsCoverTransfer
  intro t hwf
  obtain ⟨haligned, hone, height, hwhole⟩ := (Transfer.wf_iff t).mp hwf
  have hlt := t.addr.isLt
  rcases parts_eq t hwf with ⟨hroom, hparts⟩ | ⟨room, hroom, hpos, hless, hparts⟩
  · have hwrite := isWrite_iff ⟨t.source, t.addr.toNat, t.access⟩
    rw [hparts]
    simp only [frameSize, List.length_singleton, List.mem_singleton, forall_eq, List.flatMap_singleton, Part.size]
    refine ⟨.inl trivial, ⟨fun _ => by omega, fun _ => trivial⟩, ⟨trivial, hone, haligned, hlt, by omega, hwrite⟩, ?_, fun bytes hb => ?_⟩
    · refine List.map_congr_left fun i hi => ?_
      have := List.mem_range.mp hi
      omega
    · simp only [Part.bytes, hb]
  · rw [hparts]
    have hlower := lineCount_takeLines hwhole room
    have hupper := lineCount_dropLines hwhole room
    simp only [frameSize, List.length_cons, List.length_nil, List.forall_mem_cons, List.flatMap_cons, List.flatMap_nil, List.append_nil, Part.size, hlower, hupper,
      Nat.min_eq_left (Nat.le_of_lt hless)]
    refine ⟨.inr trivial, ⟨nofun, fun h => by omega⟩, ⟨⟨trivial, hpos, haligned, hlt, by omega, ?_⟩, ⟨trivial, by omega, by omega, by omega, by omega, ?_⟩, nofun⟩, ?_,
      fun bytes hb => ?_⟩
    · cases t.access <;> simp [isWrite_iff, takeLines]
    · cases t.access <;> simp [isWrite_iff, dropLines]
    · obtain ⟨m, hm⟩ : ∃ m, t.access.lineCount = room + m := ⟨t.access.lineCount - room, by omega⟩
      rw [hm, List.range_add, List.map_append, List.map_map, Nat.add_sub_cancel_left]
      refine congrArg₂ _ (List.map_congr_left fun i hi => ?_) (List.map_congr_left fun i hi => ?_)
      · have := List.mem_range.mp hi
        omega
      · have := List.mem_range.mp hi
        simp only [Function.comp]
        omega
    · simp only [Part.bytes, hb, takeLines, dropLines, List.take_append_drop]

/-- Settles O8: the record's fields as the tables stand, and the breach by its two causes. -/
theorem recordAtTake : Obligations.RecordAtTake := by
  unfold Obligations.RecordAtTake
  intro s p
  refine ⟨?_, fun hout => ?_, fun hin => ⟨fun c hc => ?_, fun b o hb ho => ?_⟩⟩
  · unfold formRecord
    dsimp only
    split <;> rfl
  · exact if_neg (Nat.not_lt.mpr hout)
  · have hclass : classOf s (frameOf s p.frame) = c := by
      unfold classOf
      cases hstate : (frameOf s p.frame).state <;> simp_all [unboundClass]
    have hbinding : (frameOf s p.frame).binding = none := by
      unfold FrameEntry.binding
      cases hstate : (frameOf s p.frame).state <;> simp_all [unboundClass]
    have hrecord : formRecord s p = ⟨p.frame, true, some c, some (s.views.look c p.source), none, none, none, none, none,
        isBreach p c (s.views.look c p.source) (liveByte s p none)⟩ := by
      unfold formRecord
      rw [if_pos hin]
      simp only [hclass, hbinding, Option.map_none, Option.bind_none, ite_self]
    rw [hrecord]
    exact ⟨rfl, isBreach_iff ..⟩
  · have hbinding : (frameOf s p.frame).binding = some b := by rw [FrameEntry.binding, hb]
    have hclass : classOf s (frameOf s p.frame) = if o.privacy = .priv then .priv else .shared := by
      unfold classOf
      rw [hb]
      dsimp only
      rw [ho]
    generalize hc : (if o.privacy = .priv then .priv else .shared : FrameClass) = c at hclass
    have hrecord : formRecord s p = ⟨p.frame, true, some c, some (s.views.look c p.source), some b.job, some (jobOf s b.job).generation, some b.block, b.page,
        if (decide (s.views.look c p.source = .plain) || (decide (s.views.look c p.source = .metered) && decide (c = .priv))) = true then
          (jobOf s b.job).key.usable else none,
        isBreach p c (s.views.look c p.source) (liveByte s p b.page)⟩ := by
      unfold formRecord
      rw [if_pos hin]
      simp only [hclass, hbinding, Option.map_some, Option.bind_some]
    refine ⟨c, _, rfl, rfl, ?_, fun k => ?_, ?_⟩
    · rw [hrecord]
    · rw [hrecord]
      simp only [Option.ite_none_right_eq_some, usable_eq_some_iff, Bool.or_eq_true, Bool.and_eq_true, decide_eq_true_eq]
    · rw [hrecord]
      exact isBreach_iff ..

/-- Settles O13: the read that a part's view hands over, and the end of its service or the take of the upper part. -/
theorem linkReadPerformed : Obligations.LinkReadPerformed := by
  unfold Obligations.LinkReadPerformed
  intro s v hv hpost hconsume hread
  have hexec : ∀ bytes, readUnder v (portRead s v.part.addr v.part.size) { s with openReads := s.openReads + 1 } =
      ({ s with openReads := s.openReads + 1 }, bytes) → exec .linkAccessPerformed s =
      .next (closeTake (serveParts false v.rest (v.data ++ bytes) (eraseDraining v.record.key { s with
        openReads := s.openReads + 1
        port := { s.port with grant := none }
        filter := { s.filter with service := none } }))) := fun bytes hbytes => by
    rw [exec_linkPerformed hv, linkPerformed]
    dsimp only
    rw [hbytes, endService_eq hpost hconsume, hread]
    rfl
  have hstored : (v.record.view = some .pass ∨ v.record.view = some .cipher) →
      readUnder v (portRead s v.part.addr v.part.size) { s with openReads := s.openReads + 1 } =
        ({ s with openReads := s.openReads + 1 }, portRead s v.part.addr v.part.size) := fun h => by
    rcases h with h | h <;> simp only [readUnder, h]
  have hplain : v.record.view = some .plain →
      readUnder v (portRead s v.part.addr v.part.size) { s with openReads := s.openReads + 1 } =
        ({ s with openReads := s.openReads + 1 }, decipherPart v.record v.part (portRead s v.part.addr v.part.size)) := fun h => by
    simp only [readUnder, h]
  refine ⟨fun hfit => if_pos hfit, fun hrest hview => ?_, fun hrest hview => ?_, fun p hrest => ⟨fun hview => ?_, fun hview => ?_⟩⟩
  · rw [hexec _ (hstored hview), hrest, serveParts_last]
    rfl
  · rw [hexec _ (hplain hview), hrest, serveParts_last]
    rfl
  · rw [hexec _ (hstored hview), hrest]
  · rw [hexec _ (hplain hview), hrest]

/-- Settles O14: the stored bytes, and the end of the part's service or the take of the upper part; the inserted read goes on to its write. -/
theorem linkWritePerformed : Obligations.LinkWritePerformed := by
  unfold Obligations.LinkWritePerformed
  refine fun s v => ⟨fun bytes hv hpost hconsume hwrite => ⟨(portWrite v.part.addr bytes s).mem, ?_, ?_, fun x => readByte_portWrite ..⟩, fun hv => ?_⟩
  · intro hrest
    rw [exec_linkPerformed hv, linkPerformed, endService_eq hpost hconsume, hrest, hwrite, serveParts_last, portWrite_eq]
    rfl
  · intro p hrest
    rw [exec_linkPerformed hv, linkPerformed, endService_eq hpost hconsume, hrest, hwrite, List.append_nil, portWrite_eq]
    rfl
  · exact exec_linkPerformed hv

/-- Settles O15: the cipher's blocks undo each other; of a PLAIN write each line is kept, or enciphers the enabled bytes over the deciphered ones. -/
theorem plainWriteKeepsUnenabledBytes : Obligations.PlainWriteKeepsUnenabledBytes := by
  unfold Obligations.PlainWriteKeepsUnenabledBytes
  intro r k hk
  have hcipher : ∀ line bytes, encipherLine r line bytes = cipherLine (fun t b => Config.lineCipher k t b) r line bytes := fun line bytes => by
    rw [encipherLine, hk]
  have hdecipher : ∀ line bytes, decipherLine r line bytes = cipherLine (fun t b => (Config.lineCipher k t).symm b) r line bytes := fun line bytes => by
    rw [decipherLine, hk]
  have hundone : ∀ line bytes, bytes.length = 64 → decipherLine r line (encipherLine r line bytes) = bytes := fun line bytes hbytes => by
    rw [hcipher, hdecipher]
    exact cipherLine_cipherLine (fun t b => (Config.lineCipher k t).symm_apply_apply b) r line hbytes
  refine ⟨fun line bytes hbytes => ⟨?_, hundone line bytes hbytes, ?_⟩, fun p bytes stored i haccess hlength hstored hi => ?_⟩
  · rw [hcipher]
    exact length_cipherLine ..
  · rw [hcipher, hdecipher]
    exact cipherLine_cipherLine (fun t b => (Config.lineCipher k t).apply_symm_apply b) r line hbytes
  · have hbytes : p.bytes = bytes := by rw [Part.bytes, haccess]
    have hline : ∀ m, m < p.access.lineCount → (lineOf bytes m).length = 64 := fun m hm => length_lineOf (by omega)
    have hdeciphered : ∀ line l, (decipherLine r line l).length = 64 := fun line l => by
      rw [hdecipher]
      exact length_cipherLine ..
    have hwritten : lineOf (plainWrite r p stored) i = plainLine r p stored i := by
      rw [plainWrite_eq]
      refine chunk_flatMap (fun m hm => ?_) hi
      unfold plainLine
      dsimp only
      by_cases hempty : lineEmpty (lineOf p.bytes m) = true
      · rw [if_pos hempty, hbytes]
        exact hline m hm
      · rw [if_neg hempty, hcipher, List.length_map, length_cipherLine]
    rw [hwritten, plainLine, hbytes]
    refine ⟨fun hempty => if_pos hempty, fun hempty => ?_⟩
    rw [if_neg (by rw [hempty]; simp)]
    refine ⟨_, rfl, ?_⟩
    rw [hundone]
    · split
      · rename_i hfull
        exact (overlay_full hfull (by rw [hline i hi, hdeciphered])).symm
      · rfl
    · split
      · rw [List.length_map, hline i hi]
      · rw [overlay, List.length_zipWith, hline i hi, hdeciphered, Nat.min_self]

/-- Settles O16: the stored bytes, then the post value and the consume value by their conditions. -/
theorem snoopedIndicesTaken : Obligations.SnoopedIndicesTaken := by
  unfold Obligations.SnoopedIndicesTaken
  intro s v bytes hv hrest hwrite hkey
  have hmem : (portWrite v.part.addr bytes s).mem = if fitted s v.part.addr then writeCells s.mem v.part.addr bytes else s.mem := by
    unfold portWrite
    split <;> rfl
  refine ⟨_, hmem, ?_⟩
  rw [exec_linkPerformed hv, linkPerformed, endService_last hrest hkey hwrite, freePort_portWrite]
  dsimp only
  refine congrArg (fun t : State => Host.Outcome.next (closeTake { t with filter := { s.filter with service := none, answer := some .completion } })) ?_
  unfold handOver
  cases v.post with
  | none =>
    cases v.consume with
    | none => rfl
    | some value => exact takeConsume_eq rfl rfl rfl rfl rfl rfl value
  | some post =>
    cases v.consume with
    | none => exact takePost_eq ..
    | some value =>
      dsimp only
      rw [takeConsume_takePost, takePost_eq]
      rfl

/-- Settles O17: the zeros of the line, and the head's progress or the end of its scrub. -/
theorem scrubLinePerformed : Obligations.ScrubLinePerformed := by
  unfold Obligations.ScrubLinePerformed
  intro s f l live hp hg
  refine ⟨(portWrite (lineAddress f l) (List.replicate 64 (some 0)) s).mem, fun x => readByte_zeros .., ?_⟩
  cases live with
  | false => exact (taken_some hp (scrubPerformed_removed hg)).trans (by rw [freePort_portWrite]; exact (congrArg (fun t => Host.Outcome.next (closeTake t)) (if_pos rfl)).symm)
  | true => 
    refine (taken_some hp (scrubPerformed_live hg)).trans ?_
    rw [freePort_portWrite]
    refine congrArg (fun t => Host.Outcome.next (closeTake t)) (Eq.trans ?_ (if_neg Bool.noConfusion).symm)
    by_cases hl : l < 16383
    · exact (lineScrubbed_next hl _).trans (if_pos hl).symm
    · refine (lineScrubbed_last hl _).trans (Eq.trans ?_ (if_neg hl).symm)
      cases hq : s.scrub.queue.tail with
      | nil => exact endScrub_nil hq
      | cons g q => exact endScrub_cons hq

end Sys2Proof.Proofs
end

section
/-! The take of a transfer's parts and the arbiter: what a part asks for, what ends at its take, and which client is granted (O9 to O12). -/

namespace Sys2Proof.Machine

set_option Elab.async false

/-! ## Notes of a breach (R4, R12) -/

theorem noteBreach_eq (p : Part) (r : PartRecord) (s : State) :
    noteBreach p r s =
      if r.breach = true ∧ (frameOf s r.frame).noted = false then
        setFrame r.frame { frameOf s r.frame with noted := true } (postEvent (breachEvent s p r) s)
      else s := by
  unfold noteBreach
  simp only [Bool.and_eq_true, Bool.not_eq_eq_eq_not, Bool.not_true]

theorem noteBreach_filter (p : Part) (r : PartRecord) (s : State) : (noteBreach p r s).filter = s.filter := by
  rw [noteBreach_eq]
  split <;> simp

theorem noteBreach_views (p : Part) (r : PartRecord) (s : State) : (noteBreach p r s).views = s.views := (noteBreach_touches s p r).at .views

/-- A noted breach changes no frame's state. -/
theorem frameState_noteBreach (p : Part) (r : PartRecord) (s : State) (f : Nat) : (frameOf (noteBreach p r s) f).state = (frameOf s f).state := by
  rw [noteBreach_eq]
  split
  · rw [frameOf_setFrame]
    split
    · rename_i h
      rw [← h]
    · rw [frameOf_of_touches (postEvent_touches ..)]
  · rfl

theorem classOf_congr {s t : State} (hjobs : t.jobs = s.jobs) {e f : FrameEntry} (h : f.state = e.state) : classOf t f = classOf s e := by
  unfold classOf jobOf
  rw [h, hjobs]

theorem liveByte_congr {s t : State} (h : t.pages = s.pages) (p : Part) (page : Option Nat) : liveByte t p page = liveByte s p page := by
  have hpage : pageOf t = pageOf s := funext fun slot => by rw [pageOf, pageOf, h]
  unfold liveByte
  rw [hpage]

/-- What a part asks for does not hang on the note of its breach. -/
theorem firstAccess_noteBreach (p : Part) (r : PartRecord) (s : State) (filter : Filter) :
    firstAccess { noteBreach p r s with filter := filter } p r = firstAccess s p r := by
  have hpages : (noteBreach p r s).pages = s.pages := (noteBreach_touches s p r).at .pages
  unfold firstAccess
  simp only [liveByte_congr (s := s) (t := { noteBreach p r s with filter := filter }) hpages]

/-! ## The take of a part (R20, R21, R34) -/

/-- The take of a part: a breach is noted, and the shadows take the snooped values. -/
def partTaken (p : Part) (s : State) : State :=
  { noteBreach p (formRecord s p) s with filter := { s.filter with
    postShadow := shadowed (snoopWord p 0 s.filter.postShadow) s.filter.postShadow
    consumeShadow := shadowed (snoopWord p 6 s.filter.consumeShadow) s.filter.consumeShadow } }

theorem serveParts_asks {p : Part} {s : State} {a : LinkAccess} (h : firstAccess s p (formRecord s p) = some a) (write : Bool) (rest : List Part)
    (data : List Byte) :
    serveParts write (p :: rest) data s = { partTaken p s with filter := { (partTaken p s).filter with
      service := some ⟨p, formRecord s p, .asking a, rest, data, snoopWord p 0 s.filter.postShadow, snoopWord p 6 s.filter.consumeShadow⟩ } } := by
  unfold serveParts partTaken
  simp only [noteBreach_filter, firstAccess_noteBreach, h]

theorem serveParts_ends {p : Part} {s : State} (h : firstAccess s p (formRecord s p) = none) (hpost : snoopWord p 0 s.filter.postShadow = none)
    (hconsume : snoopWord p 6 s.filter.consumeShadow = none) (write : Bool) (rest : List Part) (data : List Byte) :
    serveParts write (p :: rest) data s = serveParts write rest (data ++ fillOf p) (partTaken p s) := by
  unfold partTaken
  rw [serveParts]
  simp only [noteBreach_filter, firstAccess_noteBreach, h, hpost, hconsume]
  rfl

theorem snoopWord_eq_none {p : Part} (h : p.source ≠ .cpu ∨ p.frame ≠ 0) (a : Nat) (shadow : Index) : snoopWord p a shadow = none := by
  unfold snoopWord
  rw [if_neg]
  simp only [Bool.and_eq_true, decide_eq_true_eq]
  exact fun hc => h.elim (fun hs => hs hc.1.1.1) fun hf => hf hc.1.2

/-- A part that snoops nothing leaves the filter as it is. -/
theorem partTaken_eq {p : Part} (h : p.source ≠ .cpu ∨ p.frame ≠ 0) (s : State) : partTaken p s = noteBreach p (formRecord s p) s := by
  unfold partTaken
  rw [snoopWord_eq_none h, snoopWord_eq_none h, ← noteBreach_filter p (formRecord s p) s]
  rfl

theorem firstAccess_filled {r : PartRecord} (h : r.view = none ∨ r.view = some .blank) (s : State) (p : Part) : firstAccess s p r = none := by
  unfold firstAccess
  rcases h with h | h <;> rw [h]

/-- Parts that are all filled end at their takes, and the answer leaves with their fill (R4, R20, R26). -/
theorem serveParts_filled {P : State → Part → Prop} (hkept : ∀ s p q, P s p → P s q → P (noteBreach q (formRecord s q) s) p)
    (hquiet : ∀ s p, P s p → (p.source ≠ .cpu ∨ p.frame ≠ 0) ∧ firstAccess s p (formRecord s p) = none) (write : Bool) (parts : List Part) :
    ∀ (data : List Byte) (s : State), (∀ p ∈ parts, P s p) → ∃ u, Touches (.entries :: posting) s u ∧ u.filter = s.filter ∧
      serveParts write parts data s = { u with filter := { s.filter with service := none, answer := some (linkAnswer write (data ++ parts.flatMap fillOf)) } } := by
  induction parts with
  | nil =>
    intro data s _
    exact ⟨s, .refl s, rfl, by rw [serveParts_nil, List.flatMap_nil, List.append_nil]⟩
  | cons p rest ih =>
    intro data s hparts
    have hp := hparts p (List.mem_cons_self ..)
    obtain ⟨hsource, hends⟩ := hquiet s p hp
    obtain ⟨u, hu, hfilter, heq⟩ := ih (data ++ fillOf p) (noteBreach p (formRecord s p) s) fun q hq =>
      hkept s q p (hparts q (List.mem_cons_of_mem _ hq)) hp
    rw [noteBreach_filter] at hfilter heq
    refine ⟨u, ((noteBreach_touches s p _).trans hu), hfilter, ?_⟩
    rw [serveParts_ends hends (snoopWord_eq_none hsource ..) (snoopWord_eq_none hsource ..), partTaken_eq hsource, heq, List.flatMap_cons, List.append_assoc]

theorem exec_transferAccept {t : Transfer} {s : State} (hp : s.power = .on) (hidle : s.filter.service = none) (hwf : t.wf = true) :
    exec (.transferAccept t) s = .next (closeTake (serveParts (match t.access with
      | .read _ => false
      | .write _ => true) (Transfer.parts t) [] s)) := by
  refine taken_some hp ?_
  unfold acceptTransfer
  rw [hidle, hwf]
  rfl

/-! ## What a part asks for (R25 to R31) -/

theorem lineEmpty_iff (l : List (Option Byte)) : lineEmpty l = true ↔ ∀ b ∈ l, b = none := by
  simp [lineEmpty, List.all_eq_true]

theorem writeAccess_none {l : List (Option Byte)} (h : ∀ b ∈ l, b = none) : writeAccess l = none := if_pos ((lineEmpty_iff l).mpr h)

theorem writeAccess_some {l : List (Option Byte)} (h : ¬ ∀ b ∈ l, b = none) : writeAccess l = some (.write l) :=
  if_neg fun he => h ((lineEmpty_iff l).mp he)

theorem hasPartial_iff (p : Part) :
    hasPartial p = true ↔ ∃ i, i < p.access.lineCount ∧ (∃ b ∈ lineOf p.bytes i, b.isSome = true) ∧ (∃ b ∈ lineOf p.bytes i, b = none) := by
  simp [hasPartial, lineEmpty, lineFull, Option.isSome_iff_ne_none, -ne_eq, -not_not]

theorem portion_isSome_iff (pg : Page) (n : Plane) (lo hi : Nat) :
    (portion pg n lo hi).isSome = true ↔ ∃ x, lo ≤ x ∧ x < hi ∧ pg.starts.get n ≤ x ∧ x < pg.starts.get n + (pg.pixels + 3) / 4 := by
  unfold portion Page.length planeLength
  dsimp only
  split
  · rename_i h
    exact iff_of_true rfl ⟨max lo (pg.starts.get n), by omega⟩
  · rename_i h
    refine iff_of_false nofun ?_
    rintro ⟨x, hx⟩
    omega

theorem mem_planesOf_iff (c : Colour) (n : Plane) : n ∈ planesOf c ↔ n = 0 ∨ c = .colour := by
  cases c
  · simp [planesOf]
  · refine iff_of_true ?_ (.inr rfl)
    fin_cases n <;> decide

theorem liveByte_iff (s : State) (p : Part) (page : Option Nat) :
    liveByte s p page = true ↔ ∃ (slot : Nat) (pg : Page) (n : Plane) (x : Nat), page = some slot ∧ pageOf s slot = some pg ∧
      (n = 0 ∨ pg.colour = .colour) ∧ p.addr ≤ x ∧ x < p.addr + 64 * p.access.lineCount ∧
      pg.starts.get n ≤ x ∧ x < pg.starts.get n + (pg.pixels + 3) / 4 := by
  unfold liveByte
  cases page with
  | none => simp
  | some slot =>
    simp only [Option.bind_some, Option.some.injEq]
    cases hpage : pageOf s slot with
    | none => simp [hpage]
    | some pg =>
      simp only [Page.touches, List.any_eq_true, portion_isSome_iff, mem_planesOf_iff, Part.size]
      constructor
      · rintro ⟨n, hn, x, hx⟩
        exact ⟨slot, pg, n, x, rfl, hpage, hn, hx⟩
      · rintro ⟨slot', pg', n, x, rfl, hpage', hn, hx⟩
        obtain rfl : pg = pg' := by simpa [hpage] using hpage'
        exact ⟨n, hn, x, hx⟩

/-- What a CPU write of the header's frame stores: not the part-owned words (R25). -/
theorem length_maskHeader (p : Part) : (maskHeader p).length = p.bytes.length := by
  unfold maskHeader
  split
  · rw [List.length_mapIdx]
  · rfl

theorem getD_maskHeader (p : Part) {i : Nat} (hi : i < p.bytes.length) :
    (maskHeader p).getD i none =
      if p.source = .cpu ∧ ((2 ≤ p.addr + i ∧ p.addr + i < 6) ∨ (8 ≤ p.addr + i ∧ p.addr + i < 16)) then none else p.bytes.getD i none := by
  have hget : p.bytes.getD i none = p.bytes[i] := by rw [List.getD_eq_getElem?_getD, List.getElem?_eq_getElem hi, Option.getD_some]
  unfold maskHeader
  by_cases hc : p.source = .cpu ∧ p.frame = 0
  · rw [if_pos (by simp [hc])]
    rw [List.getD_eq_getElem?_getD, List.getElem?_mapIdx, List.getElem?_eq_getElem hi, hget]
    simp [hc.1]
  · rw [if_neg (by simpa using hc), if_neg]
    rintro ⟨hcpu, hrange⟩
    refine hc ⟨hcpu, ?_⟩
    unfold Part.frame frameSize
    omega

/-- A line with an enabled byte, where the bytes have one. -/
theorem exists_line {p : Part} (hlength : p.bytes.length = 64 * p.access.lineCount) (h : ¬ ∀ b ∈ p.bytes, b = none) :
    ∃ i, i < p.access.lineCount ∧ lineEmpty (lineOf p.bytes i) = false := by
  obtain ⟨k, hk, hsome⟩ : ∃ k, ∃ hk : k < p.bytes.length, p.bytes[k] ≠ none := by
    simpa [List.mem_iff_getElem] using h
  refine ⟨k / 64, by omega, ?_⟩
  rw [← Bool.not_eq_true, lineEmpty_iff]
  intro hempty
  have hline := getD_lineOf p.bytes none (k / 64) (Nat.mod_lt k (by omega : 0 < 64))
  rw [Nat.div_add_mod, List.getD_eq_getElem?_getD, List.getD_eq_getElem?_getD, List.getElem?_eq_getElem hk, List.getElem?_eq_getElem (by
    rw [length_lineOf (by omega)]; omega), Option.getD_some, Option.getD_some] at hline
  exact hsome (hline ▸ hempty _ (List.getElem_mem ..))

theorem mem_of_mem_lineOf {l : List (Option Byte)} {i : Nat} {b : Option Byte} (h : b ∈ lineOf l i) : b ∈ l :=
  List.mem_of_mem_drop (List.mem_of_mem_take h)

/-- A PLAIN write stores nothing exactly where no byte is enabled (R29). -/
theorem plainWrite_none_iff {p : Part} (hlength : p.bytes.length = 64 * p.access.lineCount) (r : PartRecord) (stored : List Byte) :
    (∀ b ∈ plainWrite r p stored, b = none) ↔ ∀ b ∈ p.bytes, b = none := by
  rw [plainWrite_eq]
  constructor
  · intro h
    by_contra hsome
    obtain ⟨i, hi, hline⟩ := exists_line hlength hsome
    have hplain := fun b hb => h b (List.mem_flatMap.mpr ⟨i, List.mem_range.mpr hi, hb⟩)
    have hne : ∀ bytes : List Byte, bytes.length = 64 → ¬ ∀ b ∈ bytes.map some, b = none := fun bytes hb hall => by
      cases bytes with
      | nil => simp at hb
      | cons x t => exact Option.some_ne_none x (hall _ (List.mem_cons_self ..))
    unfold plainLine at hplain
    dsimp only at hplain
    rw [hline, if_neg (by simp)] at hplain
    refine hne _ ?_ hplain
    unfold encipherLine
    split
    · exact length_cipherLine ..
    · exact List.length_replicate
  · intro h b hb
    obtain ⟨i, -, hb⟩ := List.mem_flatMap.mp hb
    have hempty : lineEmpty (lineOf p.bytes i) = true := (lineEmpty_iff _).mpr fun c hc => h c (mem_of_mem_lineOf hc)
    unfold plainLine at hb
    dsimp only at hb
    rw [if_pos hempty] at hb
    exact h b (mem_of_mem_lineOf hb)

theorem not_hasPartial_of_none {p : Part} (h : ∀ b ∈ p.bytes, b = none) : hasPartial p = false := by
  rw [← Bool.not_eq_true, hasPartial_iff]
  rintro ⟨i, -, ⟨b, hb, hsome⟩, -⟩
  rw [h b (mem_of_mem_lineOf hb)] at hsome
  simp at hsome

/-- Two bytes as one 16-bit value, the low byte first. -/
theorem toNat_append_bytes (h l : Byte) : ((h ++ l : BitVec (8 + 8)) : Index).toNat = l.toNat + 256 * h.toNat := by
  have hl := l.isLt
  have happend : (h ++ l : BitVec (8 + 8)).toNat = h.toNat <<< 8 + l.toNat := by
    rw [BitVec.toNat_append, Nat.shiftLeft_add_eq_or_of_lt hl]
  rw [Nat.shiftLeft_eq] at happend
  omega

/-- A snooped word of the header: its enabled bytes over the shadow's (R34). -/
theorem snoopWord_covers {p : Part} (haligned : p.addr % 64 = 0) {a : Nat} (ha : a < 63) (shadow : Index) :
    if p.source = .cpu ∧ p.isWrite = true ∧ p.addr = 0 ∧ ((p.bytes.getD a none).isSome = true ∨ (p.bytes.getD (a + 1) none).isSome = true) then
      (snoopWord p a shadow).map (·.toNat) = some (((p.bytes.getD a none).map (·.toNat)).getD (shadow.toNat % 256) +
        256 * ((p.bytes.getD (a + 1) none).map (·.toNat)).getD (shadow.toNat / 256))
    else snoopWord p a shadow = none := by
  unfold snoopWord
  by_cases hzero : p.addr = 0
  · have hframe : p.frame = 0 := by rw [Part.frame, hzero]; rfl
    have hsource : (decide (p.source = .cpu) && p.isWrite && decide (p.frame = 0) && decide (p.addr ≤ a)) = true ↔ p.source = .cpu ∧ p.isWrite = true := by
      simp [hframe, hzero]
    rw [if_congr hsource rfl rfl, hzero, Nat.sub_zero, Nat.sub_zero]
    have hlow : (shadow.setWidth 8).toNat = shadow.toNat % 256 := by simp
    have hhigh : ((shadow >>> 8).setWidth 8).toNat = shadow.toNat / 256 := by
      have := shadow.isLt
      simp [Nat.shiftRight_eq_div_pow]
      omega
    generalize p.bytes.getD a none = lo
    generalize p.bytes.getD (a + 1) none = hi
    by_cases hwrite : p.source = .cpu ∧ p.isWrite = true
    · rw [if_pos hwrite]
      by_cases hcovers : lo.isSome = true ∨ hi.isSome = true
      · rw [if_pos ⟨hwrite.1, hwrite.2, rfl, hcovers⟩, if_pos (by simpa using hcovers), Option.map_some, toNat_append_bytes]
        cases lo <;> cases hi <;> simp only [Option.getD_none, Option.getD_some, Option.map_none, Option.map_some, hlow, hhigh]
      · rw [if_neg fun h => hcovers h.2.2.2, if_neg (by simpa using hcovers)]
    · rw [if_neg fun h => hwrite ⟨h.1, h.2.1⟩, if_neg hwrite]
  · rw [if_neg (fun h => hzero h.2.2.1), if_neg]
    simp only [Bool.and_eq_true, decide_eq_true_eq]
    rintro ⟨⟨-, hframe⟩, hle⟩
    omega

/-! ## Transfers of one part -/

theorem SinglePart.isWrite {t : Transfer} {p : Part} {s : State} (h : SinglePart t p s) :
    (match t.access with
      | .read _ => false
      | .write _ => true) = p.isWrite := by
  have hparts := h.parts
  rcases parts_eq t h.wf with ⟨-, heq⟩ | ⟨room, -, -, -, heq⟩
  · rw [heq] at hparts
    obtain rfl := List.singleton_inj.mp hparts
    unfold Part.isWrite
    cases t.access <;> rfl
  · rw [heq] at hparts
    simp at hparts

theorem exec_filled {t : Transfer} {p : Part} {s : State} (h : SinglePart t p s) (hsource : p.source ≠ .cpu ∨ p.frame ≠ 0)
    (hview : (formRecord s p).view = none ∨ (formRecord s p).view = some .blank) {u : State} (hu : noteBreach p (formRecord s p) s = u) :
    exec (.transferAccept t) s = .next (closeTake { u with filter := { u.filter with
      answer := some (if p.isWrite then .completion else .data (List.replicate p.size 0)) } }) := by
  have hidle : u.filter.service = none := by rw [← hu, noteBreach_filter, h.idle]
  have hfill : linkAnswer p.isWrite ([] ++ fillOf p) = if p.isWrite then .completion else .data (List.replicate p.size 0) := by
    unfold linkAnswer fillOf
    cases p.isWrite <;> rfl
  rw [exec_transferAccept h.on h.idle h.wf, h.isWrite, h.parts, serveParts_ends (firstAccess_filled hview s p) (snoopWord_eq_none hsource ..)
    (snoopWord_eq_none hsource ..), partTaken_eq hsource, hu, serveParts_nil, hfill]
  refine congrArg (fun f : Filter => Host.Outcome.next (closeTake { u with filter := f })) ?_
  rw [← hidle]

/-! ## PRIVATE frames (R9, R26) -/

/-- A part of the CPU or of NET on a PRIVATE frame, under a lawful View Table. -/
structure Hidden (s : State) (p : Part) : Prop where
  lawful : ViewsLawful s
  source : p.source = .cpu ∨ p.source = .net
  frame : p.frame ≠ 0
  range : p.frame < frameLimit s
  priv : classOf s (frameOf s p.frame) = .priv

theorem Hidden.view {s : State} {p : Part} (h : Hidden s p) : (formRecord s p).view = some .blank := by
  have hlook : s.views.look .priv p.source = .blank := by
    have hlawful := h.lawful .priv p.source
    rcases h.source with hs | hs <;> rw [hs] at hlawful ⊢ <;> exact hlawful
  unfold formRecord
  rw [if_pos h.range]
  dsimp only
  rw [h.priv, hlook]

theorem Hidden.noteBreach {s : State} {p : Part} (h : Hidden s p) (q : Part) (r : PartRecord) : Hidden (noteBreach q r s) p where
  lawful := viewsLawful_of_touches (noteBreach_touches s q r) (by decide) h.lawful
  source := h.source
  frame := h.frame
  range := by
    have hsize := (noteBreach_touches s q r).at .size
    have hrange := h.range
    simp only [Aspect.same] at hsize
    rwa [frameLimit, hsize]
  priv := (classOf_congr ((noteBreach_touches s q r).at .jobs) (frameState_noteBreach q r s p.frame)).trans h.priv

theorem linkAnswer_fill {t : Transfer} (hwf : t.wf = true) :
    linkAnswer (match t.access with
      | .read _ => false
      | .write _ => true) ((Transfer.parts t).flatMap fillOf) =
      match t.access with
      | .read n => .data (List.replicate (64 * n) 0)
      | .write _ => .completion := by
  cases haccess : t.access with
  | write bytes => rfl
  | read n =>
    rcases parts_eq t hwf with ⟨-, heq⟩ | ⟨room, -, -, hless, heq⟩
    · rw [heq, haccess, List.flatMap_singleton]
      rfl
    · rw [haccess] at hless
      have hless : room < n := hless
      have hsplit : List.replicate (64 * min room n) (0 : Byte) ++ List.replicate (64 * (n - room)) 0 = List.replicate (64 * n) 0 := by
        rw [List.replicate_append_replicate]
        congr 1
        omega
      rw [heq, haccess, List.flatMap_cons, List.flatMap_singleton]
      exact congrArg LinkAnswer.data hsplit

/-! ## The arbiter (R37) -/

theorem linkWaits_iff (s : State) : linkWaits s = true ↔ ∃ v a, asks s v a := by
  unfold linkWaits asks
  cases s.filter.service with
  | none => simp
  | some v =>
    dsimp only
    cases h : v.phase with
    | asking a => exact iff_of_true rfl ⟨v, a, rfl, h⟩
    | performing a =>
      refine iff_of_false Bool.noConfusion ?_
      rintro ⟨w, b, hw, hb⟩
      cases hw
      rw [h] at hb
      cases hb

theorem scrubWaits_iff (s : State) : scrubWaits s = true ↔ s.scrub.offered = true ∧ scrubHeldBack s = false := by simp [scrubWaits]

theorem arbiter_link {s : State} (hlink : linkWaits s = true) (h : s.port.guardCount < 16 ∨ (s.port.control = [] ∧ ¬ scrubWaits s = true)) :
    arbiter s = some .link := by
  unfold arbiter
  dsimp only
  rcases h with h | ⟨hcontrol, hscrub⟩
  · rw [if_neg (by omega), if_pos hlink]
  · simp [hcontrol, hscrub, hlink]

theorem arbiter_control {s : State} (hcontrol : s.port.control ≠ []) (h : 16 ≤ s.port.guardCount ∨ ¬ linkWaits s = true) : arbiter s = some .control := by
  have hwaits : (!s.port.control.isEmpty) = true := by simpa using hcontrol
  unfold arbiter
  dsimp only
  rw [if_pos hwaits]
  rcases h with h | h
  · rw [if_pos h]
  · rw [if_neg h, if_pos hwaits, ite_self]

theorem arbiter_scrub {s : State} (hcontrol : s.port.control = []) (hscrub : scrubWaits s = true) (h : 16 ≤ s.port.guardCount ∨ ¬ linkWaits s = true) :
    arbiter s = some .scrub := by
  unfold arbiter
  rcases h with h | h <;> simp [hcontrol, hscrub, h]

theorem arbiter_none {s : State} (hlink : ¬ linkWaits s = true) (hcontrol : s.port.control = []) (hscrub : ¬ scrubWaits s = true) : arbiter s = none := by
  unfold arbiter
  simp [hcontrol, hscrub, hlink]

/-- The grant of the control queue's head: an answer is written at once, another access is in progress (R37). -/
def headGranted (x : ControlAccess) (rest : List ControlAccess) (s : State) : State :=
  match x with
  | .answer i ans => writeAnswer i ans { s with port := { s.port with guardCount := 0, control := rest } }
  | a => { s with port := { grant := some (.control a), guardCount := 0, control := rest } }

theorem grantControl_cons {s : State} {x : ControlAccess} {rest : List ControlAccess} (h : s.port.control = x :: rest) :
    grantControl s = headGranted x rest s := by
  unfold grantControl headGranted
  rw [h] <;> cases x <;> rfl

/-- The grant of a client. -/
def grantTo (s : State) : Client → State
  | .link => grantLink s
  | .control => grantControl s
  | .scrub => grantScrub s

theorem exec_memoryGrant {s : State} (hp : s.power = .on) (hfree : s.port.grant = none) {c : Client} (hc : arbiter s = some c) :
    exec .memoryGrant s = .next (closeTake (grantTo s c)) := by
  refine taken_some hp ?_
  unfold memoryGrant
  rw [if_pos (by rw [hfree]; rfl), hc]
  cases c <;> rfl

/-! ## Answer writes (R158, R180) -/

theorem getD_padTo (n : Nat) (bs : List Byte) {i : Nat} (hi : i < n) : (padTo n bs).getD i 0 = bs.getD i 0 := by
  rw [padTo, List.getD_eq_getElem?_getD, List.getElem?_take_of_lt hi, List.getD_eq_getElem?_getD]
  by_cases hlt : i < bs.length
  · rw [List.getElem?_append_left hlt]
  · rw [List.getElem?_append_right (by omega), List.getElem?_replicate, if_pos (by omega), List.getElem?_eq_none (by omega)]
    rfl

/-- Bytes stored whole, read back. -/
theorem get_storeBytes (m : List Host.Cell) (a : Nat) (bytes : List Byte) (x : Nat) :
    Table.get unlistedByte (writeCells m a (bytes.map some)) x =
      if a ≤ x ∧ x < a + bytes.length then bytes.getD (x - a) 0 else Table.get unlistedByte m x := by
  rw [get_writeCells, List.length_map]
  split
  · rename_i h
    rw [List.getD_eq_getElem?_getD, List.getD_eq_getElem?_getD, List.getElem?_map, List.getElem?_eq_getElem (by omega)]
    rfl
  · rfl

/-- The result bytes of an answer: code, detail and turn, and zeros. -/
theorem getD_result (c d t : Byte) (k : Nat) : ([c, d, t, 0, 0, 0, 0, 0] : List Byte).getD k 0 = [c, d, t].getD k 0 := by
  rcases k with _ | _ | _ | k
  · rfl
  · rfl
  · rfl
  · rcases k with _ | _ | _ | _ | _ | k <;> rfl

/-- The bytes that an answer write stores in the order's slot. -/
theorem readByte_writeAnswer (i : Index) (ans : Answer) (s : State) (a : Nat) :
    Table.get unlistedByte (writeAnswer i ans s).mem a =
      let base := 4096 + 64 * (i.toNat % 64)
      if base + 56 ≤ a ∧ a < base + 64 then
        [BitVec.ofNat 8 ans.code.code, BitVec.ofNat 8 ans.detail, BitVec.ofNat 8 (i.toNat / 64 % 2)].getD (a - (base + 56)) 0
      else
        match ans.data with
        | none => readByte s a
        | some d =>
          if a = base + 55 then d.marks
          else if base + 8 ≤ a ∧ a < base + 55 then d.items.getD (a - (base + 8)) 0
          else readByte s a := by
  have hresult : (leBytes 1 ans.code.code ++ leBytes 1 ans.detail ++ leBytes 1 (orderTurn i) ++ List.replicate 5 0 : List Byte) =
      [BitVec.ofNat 8 ans.code.code, BitVec.ofNat 8 ans.detail, BitVec.ofNat 8 (i.toNat / 64 % 2), 0, 0, 0, 0, 0] := rfl
  unfold writeAnswer controlWrite answerBytes orderAddress
  dsimp only
  rw [hresult]
  generalize 4096 + 64 * (i.toNat % 64) = base
  cases ans.data with
  | none =>
    dsimp only
    rw [get_storeBytes]
    refine ite_congr (by simp) (fun _ => getD_result ..) fun _ => rfl
  | some d =>
    dsimp only
    rw [get_storeBytes, List.length_append, List.length_append, padTo_length]
    by_cases hin : base + 8 ≤ a ∧ a < base + 64
    · rw [if_pos (by simpa [← Nat.add_assoc] using hin)]
      by_cases hlast : base + 56 ≤ a
      · rw [if_pos (by omega), List.getD_append_right _ _ _ _ (by simp; omega), getD_result]
        congr 1
        simp
        omega
      · rw [if_neg (by omega), List.getD_append _ _ _ _ (by simp; omega)]
        by_cases hmark : a = base + 55
        · rw [if_pos hmark, List.getD_append_right _ _ _ _ (by simp; omega), padTo_length, hmark, show base + 55 - (base + 8) - 47 = 0 by omega]
          rfl
        · rw [if_neg hmark, if_pos (by omega), List.getD_append _ _ _ _ (by simp; omega), getD_padTo _ _ (by omega)]
    · rw [if_neg (by simpa [← Nat.add_assoc] using hin), if_neg (by omega), if_neg (by omega), if_neg (by omega)]
      rfl

end Sys2Proof.Machine

namespace Sys2Proof.Proofs

open Sys2Proof.Machine

/-- Settles O9: a part out of range or under BLANK ends at its take. -/
theorem filledTransferAnswered : Obligations.FilledTransferAnswered := by
  unfold Obligations.FilledTransferAnswered
  intro s t p h hsource
  refine ⟨fun hout => ?_, fun hin hview => ?_⟩
  · have hrecord : formRecord s p = ⟨p.frame, false, none, none, none, none, none, none, none, true⟩ := if_neg (Nat.not_lt.mpr hout)
    refine exec_filled h hsource (.inl (by rw [hrecord])) ?_
    rw [noteBreach_eq, hrecord]
    cases (frameOf s p.frame).noted <;> simp [breachEvent]
  · have hrecord : (formRecord s p).frame = p.frame ∧ (formRecord s p).cls = some (classOf s (frameOf s p.frame)) ∧ (formRecord s p).view = some .blank ∧
        (formRecord s p).breach = isBreach p (classOf s (frameOf s p.frame)) .blank (liveByte s p ((frameOf s p.frame).binding.bind (·.page))) := by
      unfold formRecord
      rw [if_pos hin]
      dsimp only
      rw [hview]
      exact ⟨rfl, rfl, rfl, rfl⟩
    obtain ⟨hframe, hcls, hblank, hbreach⟩ := hrecord
    refine exec_filled h hsource (.inr hblank) ?_
    rw [noteBreach_eq, hframe]
    refine ite_congr (propext ?_) (fun _ => ?_) fun _ => rfl
    · rw [hbreach, isBreach_iff]
      tauto
    · rw [breachEvent, hcls, hblank, hframe]

/-- Settles O10: the parts in order, and what each view asks for or ends. -/
theorem transferAsksForGrant : Obligations.TransferAsksForGrant := by
  unfold Obligations.TransferAsksForGrant
  refine ⟨fun s t hp hidle hwf => ⟨_, ?_, exec_transferAccept hp hidle hwf⟩, fun write data s => rfl, fun write p rest data s haligned hlength => ?_⟩
  · cases t.access <;> simp
  have hnoted : (if (formRecord s p).breach = true ∧ (frameOf s (formRecord s p).frame).noted = false then
      setFrame (formRecord s p).frame { frameOf s (formRecord s p).frame with noted := true } (postEvent (breachEvent s p (formRecord s p)) s)
    else s) = noteBreach p (formRecord s p) s := (noteBreach_eq ..).symm
  have hcovers6 := snoopWord_covers haligned (a := 6) (by omega) s.filter.consumeShadow
  refine ⟨snoopWord p 0 s.filter.postShadow, snoopWord p 6 s.filter.consumeShadow, maskHeader p, snoopWord_covers haligned (a := 0) (by omega) _, hcovers6,
    length_maskHeader p, fun i hi => getD_maskHeader p hi, ?_⟩
  intro u asks ends none_ partial_
  have hu : u = partTaken p s := congrArg (fun t : State => { t with filter := { s.filter with
    postShadow := (snoopWord p 0 s.filter.postShadow).getD s.filter.postShadow
    consumeShadow := (snoopWord p 6 s.filter.consumeShadow).getD s.filter.consumeShadow } }) hnoted
  have hasks : ∀ a, firstAccess s p (formRecord s p) = some a → asks a := fun a ha => (serveParts_asks ha ..).trans (by rw [hu])
  have hends : firstAccess s p (formRecord s p) = none → ends := fun hnone hpost hconsume => by
    rw [hu, serveParts_ends hnone hpost hconsume]
    rfl
  refine ⟨fun hview => hends (firstAccess_filled hview s p), fun hread hview => hasks _ ?_, fun hread hview => ⟨fun hlive => hasks _ ?_, fun hdead => hends ?_⟩,
    fun hwrite => ⟨fun hview => ?_, fun hview => ?_, fun hview => ?_, fun hview => hends ?_⟩⟩
  · rcases hview with hview | hview | hview <;> simp [firstAccess, hview, hread]
  · simp [firstAccess, hview, hread, (liveByte_iff ..).mpr hlive]
  · simp [firstAccess, hview, hread, mt (liveByte_iff ..).mp hdead]
  · have haccess : firstAccess s p (formRecord s p) = writeAccess (maskHeader p) := by simp [firstAccess, hview, hwrite]
    exact ⟨fun hnone => hends (haccess.trans (writeAccess_none hnone)), fun hsome => hasks _ (haccess.trans (writeAccess_some hsome))⟩
  · have haccess : firstAccess s p (formRecord s p) = writeAccess p.bytes := by simp [firstAccess, hview, hwrite]
    exact ⟨fun hnone => hends (haccess.trans (writeAccess_none hnone)), fun hsome => hasks _ (haccess.trans (writeAccess_some hsome))⟩
  · have haccess : firstAccess s p (formRecord s p) = if hasPartial p then some .mergeRead else writeAccess (plainWrite (formRecord s p) p []) := by
      simp [firstAccess, hview, hwrite]
    have hplain := plainWrite_none_iff (hlength hwrite) (formRecord s p) []
    refine ⟨fun hnone => hends ?_, fun hpartial => hasks _ ?_, fun hsome hwhole => hasks _ ?_⟩
    · rw [haccess, not_hasPartial_of_none hnone]
      exact writeAccess_none (hplain.mpr hnone)
    · rw [haccess, if_pos ((hasPartial_iff p).mpr hpartial)]
    · rw [haccess, if_neg (mt (hasPartial_iff p).mp hwhole)]
      exact writeAccess_some (mt hplain.mp hsome)
  · simp [firstAccess, hview, hwrite]

/-- Settles O11: every part of the transfer is filled. -/
theorem privateFrameHiddenFromCpuAndNet : Obligations.PrivateFrameHiddenFromCpuAndNet := by
  unfold Obligations.PrivateFrameHiddenFromCpuAndNet
  intro s t hlawful hp hidle hwf hsource hframes
  have hhidden : ∀ p ∈ Transfer.parts t, Hidden s p := fun p hmem => by
    obtain ⟨hframe, hrange, hpriv⟩ := hframes p hmem
    refine ⟨hlawful, ?_, hframe, hrange, hpriv⟩
    rcases parts_eq t hwf with ⟨-, heq⟩ | ⟨room, -, -, -, heq⟩ <;> rw [heq] at hmem
    · rw [List.mem_singleton.mp hmem]
      exact hsource
    · rcases List.mem_pair.mp hmem with rfl | rfl <;> exact hsource
  obtain ⟨u, hu, hfilter, heq⟩ := serveParts_filled (P := Hidden) (fun s p q hkept _ => hkept.noteBreach q _)
    (fun s p h => ⟨.inr h.frame, firstAccess_filled (.inr h.view) s p⟩) (match t.access with
      | .read _ => false
      | .write _ => true) (Transfer.parts t) [] s hhidden
  rw [List.nil_append, linkAnswer_fill hwf] at heq
  refine ⟨_, (exec_transferAccept hp hidle hwf).trans (congrArg (fun t => Host.Outcome.next (closeTake t)) heq), ?_, ?_, ?_, ?_⟩
  · exact ((closeTake_touches _).at .mem).trans (hu.at .mem)
  · exact (closeTake_touches _).at .service
  · exact ((closeTake_touches _).at .grant).trans (hu.at .grant)
  · exact (closeTake_touches _).at .linkAnswer

/-- Settles O12: the arbiter's choice by the guard count, each client's grant, and an answer write's bytes. -/
theorem memoryGrantArbitrates : Obligations.MemoryGrantArbitrates := by
  unfold Obligations.MemoryGrantArbitrates
  refine fun s hp => and_assoc.mp ⟨?_, by decide⟩
  have hscrub := scrubWaits_iff s
  have hlink : (∀ v a, ¬ asks s v a) → ¬ linkWaits s = true := fun h hw => by
    obtain ⟨v, a, ha⟩ := (linkWaits_iff s).mp hw
    exact h v a ha
  refine ⟨fun hbusy => ?_, fun hfree => ⟨fun v a hasks hfirst => ?_, fun x rest hcontrol hfirst => ?_,
    fun f q l hqueue hprogress hready hcontrol hfirst => ?_, fun hidle hcontrol hscrubbed => ?_⟩⟩
  · exact taken_none (by unfold memoryGrant; rw [if_neg (by simpa [Option.isSome_iff_ne_none] using hbusy)])
  · rw [exec_memoryGrant hp hfree (arbiter_link ((linkWaits_iff s).mpr ⟨v, a, hasks⟩) (by rwa [hscrub]))]
    have hguard : linkGuard s = if s.port.control = [] ∧ s.scrub.offered = false then 0 else min (s.port.guardCount + 1) 16 := by
      unfold linkGuard
      simp
    have hgranted : Service.granted v = { v with phase := .performing a } := by rw [Service.granted, hasks.2]
    rw [grantTo, grantLink, hguard, hasks.1, Option.map_some, hgranted]
  · have hexec := exec_memoryGrant hp hfree (arbiter_control (by rw [hcontrol]; simp) (hfirst.imp_right hlink))
    rw [hexec, grantTo, grantControl_cons hcontrol]
    cases x with
    | answer i ans => exact ⟨_, rfl, readByte_writeAnswer i ans _⟩
    | _ => rfl
  · rw [exec_memoryGrant hp hfree (arbiter_scrub hcontrol (hscrub.mpr hready) (hfirst.imp_right hlink))]
    unfold grantTo grantScrub
    dsimp only
    rw [hqueue, hprogress, hcontrol]
  · exact taken_none (by unfold memoryGrant; rw [arbiter_none (hlink hidle) hcontrol (mt hscrub.mp hscrubbed)]; exact ite_self _)

end Sys2Proof.Proofs
end

section
/-! The encodings: the order slot read back, and the supply-link frame read back or found faulty (O4, O5, O6). -/

namespace Sys2Proof.Machine

set_option Elab.async false

/-! ## Byte fields -/

theorem padTo_of_le {n : Nat} {bs : List Byte} (h : bs.length ≤ n) : padTo n bs = bs ++ List.replicate (n - bs.length) 0 := by
  rw [padTo, List.take_append, List.take_of_length_le h, List.take_replicate, Nat.min_eq_left (Nat.sub_le ..)]

/-- A number that stands at an offset of a payload is read back (R182). -/
theorem payloadNumber_field {before : List Byte} {o : Nat} (ho : before.length = o) (n v : Nat) (behind : List Byte) :
    payloadNumber (before ++ (beBytes n v ++ behind)) o n = v % 256 ^ n := by
  rw [payloadNumber, List.drop_left' ho, List.take_left' (beBytes_length n v), fromBe_beBytes]

theorem getD_at {before : List Byte} {o : Nat} (ho : before.length = o) (b : Byte) (behind : List Byte) : (before ++ ([b] ++ behind)).getD o 0 = b := by
  rw [List.getD_append_right _ _ _ _ (Nat.le_of_eq ho), ho, Nat.sub_self]
  rfl

/-- A bit vector whose bytes a field holds. -/
theorem ofNat_field {w n : Nat} (x : BitVec w) (hw : w = 8 * n) : BitVec.ofNat w (x.toNat % 256 ^ n) = x := by
  have hpow : 256 ^ n = 2 ^ w := by rw [hw, Nat.pow_mul]
  rw [hpow, Nat.mod_eq_of_lt x.isLt, BitVec.ofNat_toNat, BitVec.setWidth_eq]

theorem decodePayload_ident (p : List Byte) :
    decodePayload 0x02 p = .ident (BitVec.ofNat 48 (payloadNumber p 0 6)) (BitVec.ofNat 16 (payloadNumber p 6 2)) (payloadNumber p 8 3)
      (payloadNumber p 11 3) (p.getD 14 0) (BitVec.ofNat 64 (payloadNumber p 15 8)) := rfl

theorem decodePayload_tally (p : List Byte) :
    decodePayload 0x04 p = .tally (BitVec.ofNat 48 (payloadNumber p 0 6)) (payloadNumber p 6 3) (BitVec.ofNat 64 (payloadNumber p 9 8)) := rfl

/-! ## The order slot (R154, R180) -/

/-- An order kind of the table fits its field, and its parameters fit the slot. -/
theorem orderWidths_fit {kind : Nat} {widths : List Nat} (h : orderWidths kind = some widths) : kind < 256 ∧ widths.sum ≤ 56 := by
  unfold orderWidths at h
  split at h <;> cases h <;> exact ⟨by decide, by decide⟩

theorem length_packParams {widths params : List Nat} (h : List.Forall₂ (fun w v => v < 256 ^ w) widths params) :
    (packParams widths params).length = widths.sum := by
  induction h with
  | nil => rfl
  | cons _ _ ih => rw [packParams, List.length_append, leBytes_length, ih, List.sum_cons]

/-- Parameters within their widths are read back (R178). -/
theorem unpackParams_packParams {widths params : List Nat} (h : List.Forall₂ (fun w v => v < 256 ^ w) widths params) (behind : List Byte) :
    unpackParams widths (packParams widths params ++ behind) = params := by
  induction h with
  | nil => rfl
  | cons hv _ ih =>
    rw [packParams, List.append_assoc, unpackParams, List.take_left' (leBytes_length ..), List.drop_left' (leBytes_length ..), fromLe_leBytes,
      Nat.mod_eq_of_lt hv, ih]

/-! ## The supply-link frame (R124, R182) -/

theorem decodeFrame_noise {noise : List LinkChar} (h : ∀ c ∈ noise, c.data ≠ startMarker) (l : List LinkChar) : decodeFrame (noise ++ l) = decodeFrame l := by
  induction noise with
  | nil => rfl
  | cons c noise ih =>
    rw [List.cons_append, decodeFrame, if_neg (h c (List.mem_cons_self ..)), ih fun d hd => h d (List.mem_cons_of_mem _ hd)]

/-- A turned parity bit makes a character's parity wrong (R182). -/
theorem parityGood_turned (c : LinkChar) : parityGood { c with parity := !c.parity } = !parityGood c := by
  have hmod : onesOf c.data % 2 = 0 ∨ onesOf c.data % 2 = 1 := by omega
  rcases hmod with h | h <;> cases hp : c.parity <;> simp [parityGood, Nat.add_mod, h, hp]

/-- The bytes of a frame behind its marker: kind, length, payload and a CRC (R182). -/
def frameBytes (kind : Byte) (payload : List Byte) (crc : BitVec 16) : List Byte :=
  kind :: BitVec.ofNat 8 payload.length :: payload ++ beBytes 2 crc.toNat

/-- What a complete frame is read as (R124, R182). -/
theorem decodeBody_complete {cs : List LinkChar} {kind : Byte} {payload : List Byte} {crc : BitVec 16} (hcs : cs.map (·.data) = frameBytes kind payload crc)
    (hlength : payload.length < 256) (markerGood : Bool) (tail : List LinkChar) :
    decodeBody markerGood (cs ++ tail) =
      if !markerGood || !(cs.all parityGood) then .faulty
      else if crc16 (kind :: BitVec.ofNat 8 payload.length :: payload) ≠ crc then .faulty
      else if (frameLength kind).any (· != payload.length) then .faulty
      else decodePayload kind payload := by
  have hcount : cs.length = payload.length + 4 := by
    have := congrArg List.length hcs
    simpa [frameBytes, beBytes_length] using this
  have hlen : (BitVec.ofNat 8 payload.length).toNat = payload.length := by
    rw [BitVec.toNat_ofNat]
    omega
  have hbytes : (cs ++ tail).map (·.data) = kind :: BitVec.ofNat 8 payload.length :: (payload ++ (beBytes 2 crc.toNat ++ tail.map (·.data))) := by
    rw [List.map_append, hcs, frameBytes]
    simp
  have hcrc : BitVec.ofNat 16 (payloadNumber (kind :: BitVec.ofNat 8 payload.length :: (payload ++ (beBytes 2 crc.toNat ++ tail.map (·.data)))) (2 + payload.length) 2) = crc := by
    have hfield := payloadNumber_field (before := kind :: BitVec.ofNat 8 payload.length :: payload) (o := 2 + payload.length) (by simp; omega) 2 crc.toNat (tail.map (·.data))
    rw [List.cons_append, List.cons_append] at hfield
    rw [hfield]
    apply BitVec.eq_of_toNat_eq
    have := crc.isLt
    rw [BitVec.toNat_ofNat]
    omega
  have htotal : ¬ ((cs ++ tail).map (·.data)).length < payload.length + 4 := by
    rw [List.length_map, List.length_append]
    omega
  unfold decodeBody
  dsimp only
  rw [hbytes] at htotal ⊢
  rw [show (kind :: BitVec.ofNat 8 payload.length :: (payload ++ (beBytes 2 crc.toNat ++ tail.map (·.data)))).getD 1 0 = BitVec.ofNat 8 payload.length from rfl,
    hlen, if_neg htotal, List.take_left' hcount, hcrc, Nat.add_comm 2 payload.length, List.take_succ_cons, List.take_succ_cons, List.drop_succ_cons, List.drop_succ_cons,
    List.drop_zero, List.take_left' rfl]
  rfl

theorem encodeFrame_eq (kind : Byte) (payload : List Byte) :
    encodeFrame kind payload = linkChar startMarker :: (frameBytes kind payload (crc16 (kind :: BitVec.ofNat 8 payload.length :: payload))).map linkChar := rfl

theorem map_data_linkChar (bs : List Byte) : (bs.map linkChar).map (·.data) = bs := by
  rw [List.map_map]
  exact List.map_id bs

/-- Turning parity bits changes no byte. -/
theorem map_data_modify (cs : List LinkChar) (i : Nat) : (cs.modify i fun c => { c with parity := !c.parity }).map (·.data) = cs.map (·.data) := by
  induction cs generalizing i with
  | nil => cases i <;> rfl
  | cons c cs ih =>
    cases i with
    | zero => rfl
    | succ i => rw [List.modify_succ_cons, List.map_cons, List.map_cons, ih]

/-- One turned parity bit among good ones is found. -/
theorem all_modify_turned {cs : List LinkChar} {i : Nat} (hi : i < cs.length) (h : cs.all parityGood = true) :
    (cs.modify i fun c => { c with parity := !c.parity }).all parityGood = false := by
  induction cs generalizing i with
  | nil => cases hi
  | cons c cs ih =>
    obtain ⟨hc, hcs⟩ : parityGood c = true ∧ cs.all parityGood = true := by simpa using h
    cases i with
    | zero => rw [List.modify_zero_cons, List.all_cons, parityGood_turned, hc]; rfl
    | succ i => rw [List.modify_succ_cons, List.all_cons, ih (by simpa using hi) hcs, Bool.and_false]

theorem all_parityGood (bs : List Byte) : (bs.map linkChar).all parityGood = true := by simp [parityGood_linkChar]

/-- A frame as it was sent is read by its kind. -/
theorem decodeFrame_sent {noise : List LinkChar} (hnoise : ∀ c ∈ noise, c.data ≠ startMarker) (tail : List LinkChar) {kind : Byte} {payload : List Byte}
    (hlength : payload.length < 256) :
    decodeFrame (noise ++ encodeFrame kind payload ++ tail) =
      if (frameLength kind).any (· != payload.length) then .faulty else decodePayload kind payload := by
  rw [List.append_assoc, decodeFrame_noise hnoise, encodeFrame_eq, List.cons_append, decodeFrame, if_pos (by rfl),
    decodeBody_complete (map_data_linkChar _) hlength, parityGood_linkChar, all_parityGood]
  simp

end Sys2Proof.Machine

namespace Sys2Proof.Proofs

open Sys2Proof.Machine

/-- Settles O4: each field stands at its place, and the parameters at their widths. -/
theorem orderSlotRoundTrip : Obligations.OrderSlotRoundTrip := by
  unfold Obligations.OrderSlotRoundTrip
  intro o widths hwidths hparams hlength hturn
  obtain ⟨hkind, hsum⟩ := orderWidths_fit hwidths
  have hpacked := length_packParams hparams
  have hslot : encodeOrder o = leBytes 2 o.kind ++ (BitVec.ofNat 8 o.length :: BitVec.ofNat 8 o.turn :: 0 :: 0 :: 0 :: 0 ::
      (packParams widths o.params ++ List.replicate (56 - widths.sum) 0)) := by
    rw [encodeOrder, hwidths, padTo_of_le (by simp [hpacked]; omega)]
    simp [hpacked, leBytes]
  have hread : fromLe ((encodeOrder o).take 2) = o.kind := by
    rw [hslot, List.take_left' (leBytes_length ..), fromLe_leBytes]
    omega
  unfold decodeOrder
  dsimp only
  rw [hread, hwidths, hslot]
  have hl : (BitVec.ofNat 8 o.length).toNat = o.length := by rw [BitVec.toNat_ofNat]; omega
  have ht : (BitVec.ofNat 8 o.turn).toNat = o.turn := by rw [BitVec.toNat_ofNat]; omega
  have hunpacked := unpackParams_packParams hparams (List.replicate (56 - widths.sum) 0)
  obtain ⟨kind, length, turn, params⟩ := o
  simp only [leBytes, List.cons_append, List.nil_append, List.getD_cons_succ, List.getD_cons_zero, List.drop_succ_cons, List.drop_zero, Option.getD_some]
  exact OrderSlot.mk.injEq .. |>.mpr ⟨rfl, hl, ht, hunpacked⟩

/-- Settles O5: each number of the payload stands at its offset. -/
theorem supplyFrameRoundTrip : Obligations.SupplyFrameRoundTrip := by
  unfold Obligations.SupplyFrameRoundTrip
  refine fun noise tail hnoise => ⟨fun serial model capacity dispensed flags tag hcapacity hdispensed => ?_, fun serial dispensed tag hdispensed => ?_,
    fun reason => ?_⟩
  · have hcapacity : capacity % 256 ^ 3 = capacity := Nat.mod_eq_of_lt hcapacity
    have hdispensed : dispensed % 256 ^ 3 = dispensed := Nat.mod_eq_of_lt hdispensed
    have hserial := payloadNumber_field (before := []) (o := 0) (by simp) 6 serial.toNat
      (beBytes 2 model.toNat ++ (beBytes 3 capacity ++ (beBytes 3 dispensed ++ ([flags] ++ beBytes 8 tag.toNat))))
    have hmodel := payloadNumber_field (before := beBytes 6 serial.toNat) (o := 6) (by simp) 2 model.toNat
      (beBytes 3 capacity ++ (beBytes 3 dispensed ++ ([flags] ++ beBytes 8 tag.toNat)))
    have hcap := payloadNumber_field (before := beBytes 6 serial.toNat ++ beBytes 2 model.toNat) (o := 8) (by simp) 3 capacity
      (beBytes 3 dispensed ++ ([flags] ++ beBytes 8 tag.toNat))
    have hdis := payloadNumber_field (before := beBytes 6 serial.toNat ++ beBytes 2 model.toNat ++ beBytes 3 capacity) (o := 11) (by simp) 3 dispensed
      ([flags] ++ beBytes 8 tag.toNat)
    have hflags := getD_at (before := beBytes 6 serial.toNat ++ beBytes 2 model.toNat ++ beBytes 3 capacity ++ beBytes 3 dispensed) (o := 14) (by simp) flags (beBytes 8 tag.toNat)
    have htag := payloadNumber_field (before := beBytes 6 serial.toNat ++ beBytes 2 model.toNat ++ beBytes 3 capacity ++ beBytes 3 dispensed ++ [flags]) (o := 15) (by simp) 8
      tag.toNat []
    rw [decodeFrame_sent hnoise tail (by simp), if_neg (by simp [frameLength]), decodePayload_ident]
    simp only [List.append_assoc, List.append_nil, List.nil_append] at hserial hmodel hcap hdis hflags htag ⊢
    rw [hserial, hmodel, hcap, hdis, hflags, htag, hcapacity, hdispensed, ofNat_field serial rfl, ofNat_field model rfl, ofNat_field tag rfl]
  · have hdispensed : dispensed % 256 ^ 3 = dispensed := Nat.mod_eq_of_lt hdispensed
    have hserial := payloadNumber_field (before := []) (o := 0) (by simp) 6 serial.toNat (beBytes 3 dispensed ++ beBytes 8 tag.toNat)
    have hdis := payloadNumber_field (before := beBytes 6 serial.toNat) (o := 6) (by simp) 3 dispensed (beBytes 8 tag.toNat)
    have htag := payloadNumber_field (before := beBytes 6 serial.toNat ++ beBytes 3 dispensed) (o := 9) (by simp) 8 tag.toNat []
    rw [decodeFrame_sent hnoise tail (by simp), if_neg (by simp [frameLength]), decodePayload_tally]
    simp only [List.append_assoc, List.append_nil, List.nil_append] at hserial hdis htag ⊢
    rw [hserial, hdis, htag, hdispensed, ofNat_field serial rfl, ofNat_field tag rfl]
  · rw [decodeFrame_sent hnoise tail (by simp), if_neg (by simp [frameLength])]
    rfl

/-- Settles O6: a frame is read as faulty by its parity, its CRC and its length. -/
theorem faultyFrameDetected : Obligations.FaultyFrameDetected := by
  unfold Obligations.FaultyFrameDetected
  refine fun noise tail kind payload hnoise hlength => ⟨fun i hi => ?_, fun crc hcrc => ?_, fun n hn hne => ?_⟩
  · rw [List.append_assoc, decodeFrame_noise hnoise, encodeFrame_eq]
    cases i with
    | zero =>
      rw [List.modify_zero_cons, List.cons_append, decodeFrame, if_pos (by rfl), decodeBody_complete (map_data_linkChar _) hlength, parityGood_turned,
        parityGood_linkChar]
      rfl
    | succ i =>
      rw [List.modify_succ_cons, List.cons_append, decodeFrame, if_pos (by rfl), decodeBody_complete ((map_data_modify ..).trans (map_data_linkChar _)) hlength,
        parityGood_linkChar, all_modify_turned (by simp [frameBytes]; omega) (all_parityGood _)]
      rfl
  · rw [List.append_assoc, decodeFrame_noise hnoise]
    refine (congrArg decodeFrame (List.cons_append ..)).trans ?_
    rw [decodeFrame, if_pos (by rfl)]
    refine (decodeBody_complete (crc := crc) (map_data_linkChar _) hlength ..).trans ?_
    rw [parityGood_linkChar, all_parityGood, if_neg (by simp), if_pos hcrc.symm]
  · rw [decodeFrame_sent hnoise tail hlength, hn, if_pos (by simpa using fun h => hne h.symm)]

end Sys2Proof.Proofs
end

section
/-! Event and header writes: what an event is written as, the bytes of its record, and those of the control header (O46). -/

namespace Sys2Proof.Machine

set_option Elab.async false

/-! ## Event records (R164, R181) -/

theorem flagByte_eq (b : Bool) : [flagByte b] = leBytes 1 b.toNat := by cases b <;> rfl

theorem markByte_eq (l : List Bool) : [markByte l] = leBytes 1 (l.foldr (fun b n => b.toNat + 2 * n) 0) := by
  induction l with
  | nil => rfl
  | cons b l ih =>
    have hl : markByte l = BitVec.ofNat 8 (l.foldr (fun b n => b.toNat + 2 * n) 0) := List.singleton_inj.mp ih
    rw [markByte, hl, List.foldr_cons, leBytes, leBytes, BitVec.ofNat_add, BitVec.ofNat_mul]
    cases b <;> rfl

/-- The last two bytes of a SLOT_CHANGE: the flag CLAMPED, and the marks (R181). -/
theorem flagByte_marks (clamped a b c : Bool) :
    [flagByte clamped, markByte [a, b, c]] = leBytes 1 clamped.toNat ++ leBytes 1 (a.toNat + 2 * b.toNat + 4 * c.toNat) := by
  revert clamped a b c
  decide

/-- The row of R181 for an event: its kind, whether it is an alarm, and its payload. -/
theorem eventRow_eq (e : Event) : eventRow e = (e.kind, e.isAlarm, e.payload) := by
  unfold eventRow Event.kind Event.isAlarm Event.payload
  cases e with
  | lines l =>
    simp only [LineSnapshot.byte, markByte_eq, List.foldr_cons, List.foldr_nil, Prod.mk.injEq, true_and]
    refine congrArg (leBytes 1) ?_
    omega
  | slotChange n old new cart gauge clamped =>
    cases new <;> simp [SlotState.isRejected, SlotState.reason, flagByte_marks]
  | storeFault block sequence entries =>
    rcases block with a | b | _
    · rfl
    · cases b <;> rfl
    · rfl
  | _ => simp [flagByte_eq, packQuad]

theorem length_payload_le (e : Event) : e.payload.length ≤ 24 := by
  cases e <;> simp [Event.payload, packQuad]

/-- The bytes of an event record: its payload, and zeros behind it (R161, R181). -/
theorem getD_eventBytes (r : EventRecord) (k : Nat) (hk : k < 32) :
    r.bytes.getD k 0 = (leBytes 1 r.event.kind ++ leBytes 1 (r.index.toNat / 256 % 2 + 2 * r.event.isAlarm.toNat) ++ leBytes 2 r.sequence.toNat ++
        leBytes 4 r.stamp.toNat ++ r.event.payload).getD k 0 := by
  have hmarks : [markByte [eventTurn r.index, r.event.isAlarm]] = leBytes 1 (r.index.toNat / 256 % 2 + 2 * r.event.isAlarm.toNat) := by
    have hturn : (eventTurn r.index).toNat = r.index.toNat / 256 % 2 := by
      unfold eventTurn
      rcases Nat.mod_two_eq_zero_or_one (r.index.toNat / 256) with h | h <;> rw [h] <;> rfl
    rw [markByte_eq]
    simp [hturn]
  unfold EventRecord.bytes
  rw [hmarks]
  generalize hhead : leBytes 1 r.event.kind ++ leBytes 1 (r.index.toNat / 256 % 2 + 2 * r.event.isAlarm.toNat) ++ leBytes 2 r.sequence.toNat ++
    leBytes 4 r.stamp.toNat = head
  have hlength : head.length = 8 := by rw [← hhead]; simp
  by_cases hk8 : k < head.length
  · rw [List.getD_append _ _ _ _ hk8, List.getD_append _ _ _ _ hk8]
  · rw [List.getD_append_right _ _ _ _ (by omega), List.getD_append_right _ _ _ _ (by omega), getD_padTo _ _ (by omega)]

theorem length_eventBytes (r : EventRecord) : r.bytes.length = 32 := by simp [EventRecord.bytes]

/-- The events after an event write: the written produce index, the alarm, the latch and ATTN (R161, R165, R166). -/
theorem Events.recordWritten_eq (e : Events) (index : Index) (alarm : Bool) :
    e.recordWritten index alarm =
      (let waiting := ringDistance (index + 1) e.consume
       let last := if alarm then some index else e.lastAlarm
       let unread := match last with
         | some i => decide (ringDistance i e.consume < waiting)
         | none => false
       let fires := decide (e.mode = .first) && e.armed
       { e with
         written := index + 1, lastAlarm := last, latch := fires || e.latch, armed := e.armed && !fires
         attn := attnUnder e.mode waiting unread (fires || e.latch) }) := by
  unfold Events.recordWritten
  dsimp only
  rw [Events.judge_eq]
  unfold Events.alarmWaits Events.unconsumed
  cases hfires : decide (e.mode = .first) && e.armed with
  | false => simp <;> rfl
  | true =>
    obtain ⟨hfirst, harmed⟩ : e.mode = .first ∧ e.armed = true := by simpa using hfires
    simp [hfirst, harmed] <;> rfl

/-! ## The control header (R152, R179) -/

theorem get_headerWrite (whole : Bool) (w : HeaderWords) (s : State) (x : Nat) :
    Table.get unlistedByte (writeCells s.mem 0 (headerBytes whole w)) x = ((headerBytes whole w).getD x none).getD (readByte s x) := by
  rw [get_writeCells, Nat.sub_zero]
  split
  · rfl
  · rename_i h
    rw [List.getD_eq_default _ _ (by omega)]
    rfl

/-- The bytes of the header that the part does not own: zeros in the whole header's write, else not enabled (R13, R152). -/
theorem getD_headerBytes (whole : Bool) (w : HeaderWords) {x : Nat} (hx : x < 2 ∨ x = 6 ∨ x = 7 ∨ (16 ≤ x ∧ x < 64)) :
    (headerBytes whole w).getD x none = if whole then some 0 else none := by
  rcases hx with hx | rfl | rfl | ⟨hlo, hhi⟩
  · rcases x with _ | _ | x
    · cases whole <;> rfl
    · cases whole <;> rfl
    · omega
  · cases whole <;> rfl
  · cases whole <;> rfl
  · unfold headerBytes
    cases whole with
    | true =>
      rw [if_pos rfl, if_pos rfl, List.getD_append_right _ _ _ _ (by simp [HeaderWords.stateWord]; omega), List.getD_eq_getElem?_getD, List.getElem?_replicate,
        if_pos (by simp [HeaderWords.stateWord]; omega)]
      rfl
    | false =>
      rw [if_neg Bool.noConfusion, if_neg Bool.noConfusion]
      exact List.getD_eq_default _ _ (by simp [HeaderWords.stateWord]; omega)

end Sys2Proof.Machine

namespace Sys2Proof.Proofs

open Sys2Proof.Machine

/-- Settles O46: the record that an event becomes, its bytes, and those of the header. -/
theorem eventAndHeaderWrites : Obligations.EventAndHeaderWrites := by
  unfold Obligations.EventAndHeaderWrites
  refine fun s => ⟨fun e => ?_, fun r hp hg => ⟨?_, ?_⟩, fun whole w hp hg => ⟨writeCells s.mem 0 (headerBytes whole w), ?_, fun x hx => ?_, fun x hx => ?_, ?_⟩,
    by decide, by decide, by decide, by decide, by decide, by decide, by decide, by decide, by decide, by decide, by decide, by decide⟩
  · rw [eventRow_eq]
    rfl
  · rw [eventRow_eq]
    have := length_payload_le r.event
    simp
    omega
  · refine ⟨writeCells s.mem (eventAddress r.index) (r.bytes.map some), ?_, fun x => ?_⟩
    · refine (taken_some hp ?_).trans rfl
      unfold eventPerformed
      rw [hg]
      dsimp only
      rw [Events.recordWritten_eq, eventRow_eq]
      rfl
    · rw [get_storeBytes, length_eventBytes, eventRow_eq]
      refine ite_congr rfl (fun h => getD_eventBytes r _ (by unfold eventAddress; omega)) fun _ => rfl
  · refine taken_some hp ?_
    unfold headerPerformed
    rw [hg]
    rfl
  · rw [get_headerWrite, List.getD_eq_default _ _ (by cases whole <;> simp [headerBytes, HeaderWords.stateWord] <;> omega)]
    rfl
  · rw [get_headerWrite, getD_headerBytes whole w hx]
    cases whole <;> rfl
  · simp only [List.map_cons, List.map_nil, get_headerWrite]
    cases whole <;> rfl

end Sys2Proof.Proofs
end

section
/-! A settlement's figures: the debits that reach the slots, the events posted behind one another, and what a settlement writes (O21). -/

namespace Sys2Proof.Machine

set_option Elab.async false

/-! ## Events posted one behind the other (R161) -/

/-- From one state to another no time passes, and events alone have joined the control queue. -/
structure EventsBehind (s t : State) : Prop where
  time : t.time = s.time
  queued : ∃ more, t.port.control = s.port.control ++ more ∧ ∀ x ∈ more, ∃ e, x = ControlAccess.event e

theorem EventsBehind.refl (s : State) : EventsBehind s s := ⟨rfl, [], by rw [List.append_nil], nofun⟩

theorem EventsBehind.trans {s t u : State} (hst : EventsBehind s t) (htu : EventsBehind t u) : EventsBehind s u := by
  obtain ⟨htime, more, hmore, hevents⟩ := hst
  obtain ⟨htime', more', hmore', hevents'⟩ := htu
  exact ⟨htime'.trans htime, more ++ more', by rw [hmore', hmore, List.append_assoc], fun x hx =>
    (List.mem_append.mp hx).elim (hevents x) (hevents' x)⟩

theorem eventsBehind_of_touches {l : List Aspect} {s t : State} (h : Touches l s t) (hcontrol : Aspect.control ∉ l := by decide +kernel)
    (htime : Aspect.time ∉ l := by decide +kernel) : EventsBehind s t :=
  ⟨h.same .time htime, [], by rw [List.append_nil]; exact h.same .control hcontrol, nofun⟩

theorem eventsBehind_postEvent (e : Event) (s : State) : EventsBehind s (postEvent e s) := by
  refine ⟨(postEvent_touches s e).at .time, ?_⟩
  rcases postEvent_cases e s with ⟨-, h⟩ | ⟨-, shown, -, h⟩ <;> rw [h]
  · exact ⟨[], (List.append_nil _).symm, nofun⟩
  · exact ⟨[_], rfl, fun x hx => ⟨_, List.mem_singleton.mp hx⟩⟩

theorem eventsBehind_foldl {α : Type} {step : State → α → State} (h : ∀ s a, EventsBehind s (step s a)) (l : List α) (s : State) :
    EventsBehind s (l.foldl step s) := by
  induction l generalizing s with
  | nil => exact .refl s
  | cons a l ih => exact (h s a).trans (ih _)

theorem eventsBehind_addDebit (n : Plane) (debit : Nat) (s : State) : EventsBehind s (addDebit n debit s) := by
  unfold addDebit
  dsimp only
  refine EventsBehind.trans ?_ (eventsBehind_of_touches (testDebit_touches ..))
  have hposted : ∀ (P : Prop) [Decidable P] (e : Event) (r : Slot), EventsBehind s (if P then postEvent e (setSlot n r s) else setSlot n r s) := fun P _ e r => by
    refine (eventsBehind_of_touches (setSlot_touches s n r)).trans ?_
    split
    · exact eventsBehind_postEvent ..
    · exact .refl _
  generalize hsame : decide (min ((slotOf s n).pending + debit) 65535 = (slotOf s n).pending) = same
  split
  · exact hposted ..
  · exact (hposted ..).trans (eventsBehind_of_touches (oweUnderPfw_touches ..))

/-! ## Debits at the slots (R90, R91) -/

theorem pending_testDebit (n : Plane) (s : State) (m : Plane) : (slotOf (testDebit n s) m).pending = (slotOf s m).pending := by
  rw [testDebit_eq]
  unfold debitTested
  dsimp only
  split
  · split
    · rw [slotOf_setSlot]
      split
      · rename_i h
        rw [← h]
      · rfl
    · rfl
  · rfl

theorem pending_addDebit (n : Plane) (debit : Nat) (s : State) (m : Plane) :
    (slotOf (addDebit n debit s) m).pending = if n = m then min ((slotOf s n).pending + debit) 65535 else (slotOf s m).pending := by
  unfold addDebit
  dsimp only
  rw [pending_testDebit]
  have howed : ∀ (P : Prop) [Decidable P] (t : State), slotOf (if P then t else oweUnderPfw n t) m = slotOf t m := fun P _ t => by
    split
    · rfl
    · exact slotOf_of_touches (oweUnderPfw_touches ..) m
  have hposted : ∀ (P : Prop) [Decidable P] (e : Event) (t : State), slotOf (if P then postEvent e t else t) m = slotOf t m := fun P _ e t => by
    split
    · exact slotOf_of_touches (postEvent_touches ..) m
    · rfl
  rw [howed, hposted, slotOf_setSlot]
  split <;> rfl

theorem pending_addDebits {l : List Plane} (hl : l.Nodup) (debits : Quad Nat) (s : State) (m : Plane) :
    (slotOf (l.foldl (fun t n => addDebit n (debits.get n) t) s) m).pending =
      if m ∈ l then min ((slotOf s m).pending + debits.get m) 65535 else (slotOf s m).pending := by
  induction l generalizing s with
  | nil => rfl
  | cons n l ih =>
    obtain ⟨hn, hl⟩ := List.nodup_cons.mp hl
    rw [List.foldl_cons, ih hl, pending_addDebit]
    by_cases hm : n = m
    · subst hm
      simp [hn]
    · simp [hm, Ne.symm hm]

theorem pending_settleDebits (p : Page) (debits : Quad Nat) (s : State) (m : Plane) :
    (slotOf (settleDebits p debits s) m).pending =
      if m = 0 ∨ p.colour = .colour then min ((slotOf s m).pending + debits.get m) 65535 else (slotOf s m).pending := by
  unfold settleDebits
  rw [pending_addDebits (by cases p.colour <;> decide)]
  exact if_congr (mem_planesOf_iff ..) rfl rfl

/-! ## The settlement (R78) -/

/-- A settlement's measured colour, without the rounding of R85. -/
theorem measuredColour_eq (threshold : Nat) (p : Page) :
    measuredColour threshold p =
      if p.colour = .colour ∧ p.pixels * 9 * threshold ≤ (p.sums.q1 + p.sums.q2 + p.sums.q3) * 65536 then .colour else .mono := by
  unfold measuredColour colourCount
  cases p.colour with
  | mono => rfl
  | colour =>
    dsimp only
    exact if_congr (by simp only [true_and]; omega) rfl rfl

theorem tonerDebits_of_present (c : Coverage) (p : Page) (n : Plane) :
    (tonerDebits c p).get n = if n = 0 ∨ p.colour = .colour then
      (p.sums.get n * c.settings.weights.get n + c.residues.get n) / 4294967296 + c.settings.overheads.get n else 0 := by
  rw [tonerDebits, Quad.get_imap, Page.hasPlane, tonerProduct]
  exact if_congr (by rw [decide_eq_true_eq, mem_planesOf_iff]) rfl rfl

theorem tonerResidues_of_present (c : Coverage) (p : Page) (n : Plane) :
    (tonerResidues c p).get n = if n = 0 ∨ p.colour = .colour then
      (p.sums.get n * c.settings.weights.get n + c.residues.get n) % 4294967296 else c.residues.get n := by
  rw [tonerResidues, Quad.get_imap, Page.hasPlane, tonerProduct]
  exact if_congr (by rw [decide_eq_true_eq, mem_planesOf_iff]) rfl rfl

theorem permille_of_present (p : Page) (n : Plane) :
    (permille p).get n = if n = 0 ∨ p.colour = .colour then p.sums.get n * 1000 / (p.pixels * 3) else 0 := by
  rw [permille, Quad.get_imap, Page.hasPlane]
  exact if_congr (by rw [decide_eq_true_eq, mem_planesOf_iff]) rfl rfl

/-- The state of a settlement of a PRINTING page before its report: the residues, the charge and the debits (R78). -/
def chargedState (p : Page) (c : Capture) (o : Outcome) (s : State) : State :=
  settleDebits p (tonerDebits s.coverage p) (chargePage (accountNumber s p) p.sizeClass (measuredColour s.coverage.settings.threshold p) c.provisional
    (settledClicks s p c o) o (settleResidues p s))

/-- A page's report, and its slot FREE again (R78). -/
def reported (slot : Nat) (p : Page) (o : Outcome) (measured : Colour) (clicks a : Nat) (debits : Quad Nat) (t : State) : State :=
  setPage slot none (unmarkFrames slot (postEvent (.pageSettled slot p.job a o p.number measured clicks (permille p) debits) t))

theorem settlePage_of_printing {s : State} {slot : Nat} {p : Page} {c : Capture} {last : Time} (hp : pageOf s slot = some p)
    (hstate : p.state = .printing c last) {o : Outcome} (ho : o.charged = true) :
    settlePage slot o s = reported slot p o (measuredColour s.coverage.settings.threshold p) (settledClicks s p c o) (accountNumber s p) (tonerDebits s.coverage p)
      (chargedState p c o s) := by
  have houtcome : p.outcome o = o := by simp [Page.outcome, hstate]
  have hcapture : p.capture = some c := by simp [Page.capture, hstate]
  unfold settlePage
  rw [hp]
  dsimp only
  rw [houtcome, hcapture, if_pos ho, if_pos ho, if_pos ho, Option.getD_some]
  rfl

theorem settlePage_of_withheld {s : State} {slot : Nat} {p : Page} {r : WithheldReason} {last : Time} (hp : pageOf s slot = some p)
    (hstate : p.state = .withheld r last) (o : Outcome) :
    settlePage slot o s = reported slot p .withheld (measuredColour s.coverage.settings.threshold p) 0 (accountNumber s p) (Quad.all 0) s := by
  have houtcome : p.outcome o = .withheld := by simp [Page.outcome, hstate]
  unfold settlePage
  rw [hp]
  dsimp only
  rw [houtcome, if_neg (by decide), if_neg (by decide), if_neg (by decide)]
  rfl

theorem chargedState_touches (p : Page) (c : Capture) (o : Outcome) (s : State) : Touches (.residues :: charging ++ debiting) s (chargedState p c o s) :=
  ((settleResidues_touches ..).then (k := .residues :: charging) (chargePage_touches ..)).then (k := .residues :: charging ++ debiting)
    (settleDebits_touches ..)

theorem eventsBehind_chargedState (p : Page) (c : Capture) (o : Outcome) (s : State) : EventsBehind s (chargedState p c o s) :=
  ((eventsBehind_of_touches (settleResidues_touches ..)).trans (eventsBehind_of_touches (chargePage_touches ..))).trans
    (eventsBehind_foldl (fun t n => eventsBehind_addDebit n _ t) _ _)

/-- A report writes no table but those of pages and frames. -/
theorem reported_touches (slot : Nat) (p : Page) (o : Outcome) (measured : Colour) (clicks a : Nat) (debits : Quad Nat) (t : State) :
    Touches [.pages, .entries, .control, .produce, .nextSeq] t (reported slot p o measured clicks a debits t) :=
  ((postEvent_touches ..).then (k := .entries :: posting) (unmarkFrames_touches ..)).then (setPage_touches_of _ _ _ nofun)

theorem pending_chargedState (p : Page) (c : Capture) (o : Outcome) (s : State) (n : Plane) :
    (slotOf (chargedState p c o s) n).pending =
      if n = 0 ∨ p.colour = .colour then min ((slotOf s n).pending + (tonerDebits s.coverage p).get n) 65535 else (slotOf s n).pending := pending_settleDebits ..

/-- The page totals after a settlement (R101). -/
theorem get_settledPages (t : Totals) (c : Plane) (col : Colour) (clicks : Nat) (cls : Plane) :
    (t.settle c col clicks).pages.get cls =
      if cls ≠ c then t.pages.get cls
      else if col = .mono then { t.pages.get cls with mono := min ((t.pages.get cls).mono + 1) 4294967295 }
      else { t.pages.get cls with colour := min ((t.pages.get cls).colour + 1) 4294967295 } := by
  rw [Totals.settle, Quad.get_set]
  by_cases h : c = cls
  · subst h
    rw [if_pos rfl, if_neg (fun h => h rfl)]
    cases col <;> rfl
  · rw [if_neg h, if_pos (Ne.symm h)]

/-- A settlement ends in the marks taken from the frames and the slot FREE (R78). -/
theorem settlePage_unmarks {s : State} {slot : Nat} {p : Page} (hp : pageOf s slot = some p) (o : Outcome) :
    ∃ t, t.frames.entries = s.frames.entries ∧ settlePage slot o s = setPage slot none (unmarkFrames slot t) := by
  unfold settlePage
  rw [hp]
  dsimp only
  refine ⟨_, ?_, rfl⟩
  refine ((postEvent_touches ..).at .entries).trans ?_
  split
  · exact (((settleResidues_touches ..).then (k := .residues :: charging) (chargePage_touches ..)).then (k := .residues :: charging ++ debiting)
      (settleDebits_touches ..)).at .entries
  · rfl

/-- No frame carries the slot of a page that ended (R78). -/
theorem unmarked_page {s : State} {slot : Nat} (hwf : Table.wf FrameEntry.free s.frames.entries = true) {f : Nat} {b : Binding}
    (h : (frameOf (unmarkFrames slot s) f).state = .bound b) : b.page ≠ some slot := by
  rw [get_unmarkFrames hwf] at h
  intro hb
  unfold FrameEntry.binding at h
  cases hstate : (frameOf s f).state with
  | bound c =>
    simp only [hstate] at h
    split at h
    · cases h
      cases hb
    · rw [hstate] at h
      cases h
      contradiction
  | _ =>
    simp only [hstate] at h
    cases h

end Sys2Proof.Machine

namespace Sys2Proof.Proofs

open Sys2Proof.Machine

/-- Settles O21: a PRINTING page's charge, entry, totals, residues and debits, and each settlement's report. -/
theorem settlementFigures : Obligations.SettlementFigures := by
  unfold Obligations.SettlementFigures
  intro s slot p ending hp hending u a account counts up colours measured present product reports
  have hmeasured : measured = measuredColour s.coverage.settings.threshold p := (measuredColour_eq ..).symm
  have hreports : ∀ (t : State) (outcome : Outcome) (clicks : Nat) (charged : Bool) (debits : Quad Nat), EventsBehind s t →
      u = reported slot p outcome measured clicks a debits t →
      (∀ n, debits.get n = if charged = true ∧ present n then product n / 4294967296 + s.coverage.settings.overheads.get n else 0) →
      reports outcome clicks charged := fun t outcome clicks charged debits hbehind hu hdebits => by
    obtain ⟨htime, more, hmore, -⟩ := hbehind
    exact ⟨t, more, permille p, debits, htime, hmore, by rw [hu]; rfl, fun n => ⟨permille_of_present p n, hdebits n⟩⟩
  refine ⟨?_, fun other hother => ?_, fun hwf f b hb => ?_, fun c last hstate => ?_, fun r last hstate => ?_⟩
  · rw [pageOf_settlePage, if_pos rfl]
  · rw [pageOf_settlePage, if_neg (Ne.symm hother)]
  · obtain ⟨t, hframes, hsettled⟩ := settlePage_unmarks hp ending
    have hb : (frameOf (settlePage slot ending s) f).state = .bound b := hb
    rw [hsettled] at hb
    exact unmarked_page (s := t) (by rw [hframes]; exact hwf) hb
  · have hcharged : ending.charged = true := by cases ending <;> simp_all [Outcome.charged]
    have hu : u = reported slot p ending measured (settledClicks s p c ending) a (tonerDebits s.coverage p) (chargedState p c ending s) := by
      rw [hmeasured]
      exact settlePage_of_printing hp hstate hcharged
    have hclicks : settledClicks s p c ending = if ending = .printed then (if measured = .mono then c.mono else c.colour) else c.provisional := by
      rw [settledClicks, ← hmeasured]
      cases ending <;> cases measured <;> rfl
    have hrest := settlePage_printing hp hstate hcharged
    intro clicks
    have hclicks : settledClicks s p c ending = clicks := hclicks
    have hof : chargeOf p c ending s = chargePage a p.sizeClass measured c.provisional clicks ending s := by
      rw [chargeOf, hclicks, ← hmeasured]
    rw [hof] at hrest
    rw [hclicks] at hu
    have haccount := fun b => (accountOf_of_touches hrest b).trans (accountOf_chargePage a p.sizeClass measured c.provisional clicks ending s b)
    refine ⟨?_, fun other hother => ?_, hrest.at .journal, hrest.at .lastSeq, hrest.at .reservations, ?_, fun cls => ?_, fun n => ?_, fun n => ?_, ?_⟩
    · rw [haccount, if_pos rfl]
      rfl
    · rw [haccount, if_neg (Ne.symm hother)]
    · exact congrArg Totals.clicks (hrest.at .totals)
    · have hpages := congrArg (fun t : Totals => t.pages.get cls) (hrest.at .totals)
      refine Eq.trans hpages ?_
      exact get_settledPages ..
    · rw [hu, (reported_touches ..).at .residues, chargedState, (settleDebits_touches ..).at .residues]
      exact tonerResidues_of_present ..
    · rw [hu, slotOf_of_touches (reported_touches ..), pending_chargedState, tonerDebits_of_present]
      exact ite_congr rfl (fun hpresent => by rw [if_pos hpresent, ← Nat.add_assoc]) fun _ => rfl
    · exact hreports _ _ _ _ _ (eventsBehind_chargedState p c ending s) hu fun n => by
        rw [tonerDebits_of_present]
        exact if_congr (by simp [present]) rfl rfl
  · have hu : u = reported slot p .withheld measured 0 a (Quad.all 0) s := by
      rw [hmeasured]
      exact settlePage_of_withheld hp hstate ending
    refine ⟨?_, ?_, ?_, ?_, hreports s _ _ _ _ (.refl s) hu fun n => by rw [Quad.get_all, if_neg (by simp)]⟩
    · rw [hu]
      exact postEvent_meter ..
    · rw [hu]
      exact postEvent_store ..
    · rw [hu]
      exact postEvent_coverage ..
    · rw [hu]
      exact postEvent_supply ..

end Sys2Proof.Proofs
end

section
/-! A purge's charges: what the settled and the dropped pages of a job add to the meters, the toner and the slots (R17, R51, R55). -/

namespace Sys2Proof.Machine

set_option Elab.async false

/-! ## Pages of a job as a list -/

/-- A page in print with its capture. -/
def printCharge (p : Page) : Option (Page × Capture) :=
  match p.state with
  | .printing c _ => some (p, c)
  | _ => none

/-- What a ticket holds. -/
def ticketCharge (p : Page) : Option Nat :=
  match p.state with
  | .ticketed c => some c.provisional
  | _ => none

theorem filterMap_of_none {α β : Type} {f : α → Option β} {q : α → Bool} (h : ∀ a, q a = false → f a = none) (l : List α) :
    (l.filter q).filterMap f = l.filterMap f := by
  induction l with
  | nil => rfl
  | cons a l ih =>
    cases hq : q a with
    | true => rw [List.filter_cons_of_pos hq, List.filterMap_cons, List.filterMap_cons, ih]
    | false => rw [List.filter_cons_of_neg (by simp [hq]), List.filterMap_cons, h a hq, ih]

/-- The pages that a list of picked slots holds. -/
theorem pagesOf_filterMap (s : State) (j : Nat) (f : Page → Bool) : (pagesOf s j f).filterMap (pageOf s) = (openingPages s j).filter f := by
  unfold pagesOf openingPages
  generalize List.range 32 = l
  induction l with
  | nil => rfl
  | cons slot l ih =>
    cases hlive : liveFor s slot j (jobOf s j).generation with
    | none =>
      rw [List.filter_cons_of_neg (by simp [hlive]), List.filterMap_cons, hlive, ih]
    | some p =>
      rw [List.filterMap_cons (l := l), hlive]
      cases hp : f p with
      | true =>
        rw [List.filter_cons_of_pos (by simp [hlive, hp]), List.filterMap_cons_some (pageOf_of_liveFor hlive), List.filter_cons_of_pos hp, ih]
      | false => rw [List.filter_cons_of_neg (by simp [hlive, hp]), List.filter_cons_of_neg (by simp [hp]), ih]

theorem length_pagesOf (s : State) (j : Nat) (f : Page → Bool) : (pagesOf s j f).length = ((openingPages s j).filter f).length := by
  rw [← pagesOf_filterMap, List.length_filterMap_eq_countP, List.countP_eq_length.mpr]
  intro slot hslot
  obtain ⟨-, p, hp, -⟩ := mem_pagesOf.mp hslot
  rw [hp]
  rfl

theorem printCharges_inPrint (l : List Page) : (l.filter Page.inPrint).filterMap printCharge = l.filterMap printCharge :=
  filterMap_of_none (fun p hp => by cases hstate : p.state <;> simp_all [Page.inPrint, printCharge]) l

theorem ticketCharges_waiting (l : List Page) : (l.filter fun p => !p.inPrint).filterMap ticketCharge = l.filterMap ticketCharge :=
  filterMap_of_none (fun p hp => by cases hstate : p.state <;> simp_all [Page.inPrint, ticketCharge]) l

theorem length_inPrint (l : List Page) : (l.filter fun p => !p.inPrint).length = l.length - (l.filter Page.inPrint).length := by
  have := List.length_eq_length_filter_add (l := l) Page.inPrint
  omega

/-! ## Charges one after another -/

/-- The toner of a run of pages in two lists. -/
theorem tonerRun_append (n : Plane) (r : Quad Nat) (a b : List (CoverageSettings × Page)) :
    tonerRun n r (a ++ b) = ((tonerRun n r a).1 + (tonerRun n (tonerRun n r a).2 b).1, (tonerRun n (tonerRun n r a).2 b).2) := by
  induction a generalizing r with
  | nil => simp [tonerRun]
  | cons e a ih => simp [tonerRun, ih, Nat.add_assoc]

/-- The residues of a run hang on no plane. -/
theorem tonerRun_residues (n m : Plane) (r : Quad Nat) (l : List (CoverageSettings × Page)) : (tonerRun n r l).2 = (tonerRun m r l).2 := by
  induction l generalizing r with
  | nil => rfl
  | cons e l ih => exact ih _

/-- Pages of an account settled with their provisional charges, under coverage settings `k`: what is charged, journalled and debited. -/
structure Charged (a : Nat) (k : CoverageSettings) (es : List (Page × Capture)) (s t : State) : Prop where
  behind : EventsBehind s t
  settings : t.coverage.settings = s.coverage.settings
  journal : t.store.journal = s.store.journal ++ es.mapIdx fun i e =>
    ⟨s.store.lastSeq + 1 + i, .settle a e.1.sizeClass (measuredColour k.threshold e.1) e.2.provisional .aborted⟩
  lastSeq : t.store.lastSeq = s.store.lastSeq + es.length
  reservations : t.meter.reservations = s.meter.reservations - es.length
  inflight : (accountOf t a).inflight = (accountOf s a).inflight - (es.map (·.2.provisional)).sum
  held : (accountOf t a).held = (accountOf s a).held
  settled : (accountOf s a).counts.settled ≤ 4294967295 →
    (accountOf t a).counts.settled = min ((accountOf s a).counts.settled + (es.map (·.2.provisional)).sum) 4294967295
  others : ∀ b, b ≠ a → accountOf t b = accountOf s b
  residues : t.coverage.residues = (tonerRun 0 s.coverage.residues (es.map fun e => (k, e.1))).2
  pending : ∀ n, (slotOf s n).pending ≤ 65535 →
    (slotOf t n).pending = min ((slotOf s n).pending + (tonerRun n s.coverage.residues (es.map fun e => (k, e.1))).1) 65535

/-- What a change that charges nothing may touch. -/
theorem charged_of_touches {l : List Aspect} {s t : State} (a : Nat) (k : CoverageSettings) (hbehind : EventsBehind s t) (h : Touches l s t)
    (hl : apart [.covSettings, .journal, .lastSeq, .reservations, .accounts, .residues, .slots] l = true) : Charged a k [] s t := by
  have happart : ∀ f ∈ [Aspect.covSettings, .journal, .lastSeq, .reservations, .accounts, .residues, .slots], f ∉ l := fun f hf =>
    of_decide_eq_true (List.all_eq_true.mp hl f hf)
  have haccount : ∀ b, accountOf t b = accountOf s b := fun b => accountOf_of_touches h b (happart .accounts (by decide))
  refine ⟨hbehind, h.same .covSettings (happart _ (by decide)), ?_, h.same .lastSeq (happart _ (by decide)), h.same .reservations (happart _ (by decide)),
    by rw [haccount]; rfl, by rw [haccount], fun hle => ?_, fun b _ => haccount b, h.same .residues (happart _ (by decide)), fun n hn => ?_⟩
  · rw [List.mapIdx_nil, List.append_nil]
    exact h.same .journal (happart _ (by decide))
  · rw [haccount]
    exact (Nat.min_eq_left hle).symm
  · rw [slotOf_of_touches h n (happart .slots (by decide))]
    exact (Nat.min_eq_left hn).symm

theorem Charged.trans {a : Nat} {k : CoverageSettings} {es fs : List (Page × Capture)} {s t u : State} (hst : Charged a k es s t) (htu : Charged a k fs t u) :
    Charged a k (es ++ fs) s u where
  behind := hst.behind.trans htu.behind
  settings := htu.settings.trans hst.settings
  journal := by
    have hnumber : ∀ i, s.store.lastSeq + es.length + 1 + i = s.store.lastSeq + 1 + (i + es.length) := fun i => by omega
    rw [htu.journal, hst.journal, hst.lastSeq, List.append_assoc, List.mapIdx_append]
    simp only [hnumber]
  lastSeq := by rw [htu.lastSeq, hst.lastSeq, List.length_append, Nat.add_assoc]
  reservations := by rw [htu.reservations, hst.reservations, List.length_append, Nat.sub_sub]
  inflight := by rw [htu.inflight, hst.inflight, List.map_append, List.sum_append, Nat.sub_sub]
  held := htu.held.trans hst.held
  settled := fun h => by
    have hmid := hst.settled h
    have hend := htu.settled (by omega)
    rw [hend, hmid, List.map_append, List.sum_append]
    omega
  others := fun b hb => (htu.others b hb).trans (hst.others b hb)
  residues := by
    rw [htu.residues, hst.residues, List.map_append, tonerRun_append]
  pending := fun n h => by
    have hmid := hst.pending n h
    have hend := htu.pending n (by omega)
    rw [hend, hmid, hst.residues, List.map_append, tonerRun_append, tonerRun_residues 0 n]
    dsimp only
    omega

/-- A PRINTING page settled ABORTED (R51, R79). -/
theorem charged_printing {s : State} {slot : Nat} {p : Page} {c : Capture} {last : Time} (hp : pageOf s slot = some p) (hstate : p.state = .printing c last) :
    Charged (accountNumber s p) s.coverage.settings [(p, c)] s (settlePage slot .aborted s) := by
  have hrest := settlePage_printing hp hstate (o := .aborted) rfl
  have haccount := fun b => (accountOf_of_touches hrest b).trans (accountOf_chargePage (accountNumber s p) p.sizeClass (measuredColour s.coverage.settings.threshold p)
    c.provisional (settledClicks s p c .aborted) .aborted s b)
  have hclicks : settledClicks s p c .aborted = c.provisional := rfl
  have hu := settlePage_of_printing hp hstate (o := .aborted) rfl
  refine ⟨?_, (settlePage_touches s slot .aborted).at .covSettings, hrest.at .journal, hrest.at .lastSeq, hrest.at .reservations, ?_, ?_, fun hle => ?_,
    fun b hb => ?_, ?_, fun n hn => ?_⟩
  · rw [hu]
    exact (eventsBehind_chargedState ..).trans ((eventsBehind_postEvent ..).trans ((eventsBehind_of_touches (unmarkFrames_touches ..)).trans
      (eventsBehind_of_touches (setPage_touches_of _ _ _ nofun))))
  · rw [haccount, if_pos rfl]
    simp
  · rw [haccount, if_pos rfl]
  · rw [haccount, if_pos rfl, hclicks]
    simp [Counts.settle, saturate]
  · rw [haccount, if_neg (Ne.symm hb)]
  · rw [hu, (reported_touches ..).at .residues, chargedState, (settleDebits_touches ..).at .residues]
    rfl
  · rw [hu, slotOf_of_touches (reported_touches ..), pending_chargedState]
    simp only [List.map_cons, List.map_nil, tonerRun, Nat.add_zero]
    split
    · rfl
    · rename_i habsent
      rw [tonerDebits_of_present, if_neg habsent, Nat.add_zero, Nat.min_eq_left hn]

/-- Pages in print of a job, settled one after another and counted (R51, step 1). -/
theorem charged_abort {j a : Nat} {k : CoverageSettings} (l : List Nat) : ∀ s : State, l.Nodup → (jobOf s j).account = a → s.coverage.settings = k →
    (∀ slot ∈ l, ∃ p, pageOf s slot = some p ∧ p.job = j ∧ p.inPrint = true) →
    Charged a k ((l.filterMap (pageOf s)).filterMap printCharge) s (l.foldl (fun t slot => tallyAborted j (settlePage slot .aborted t)) s) := by
  induction l with
  | nil => exact fun s _ _ _ _ => charged_of_touches (l := []) a k (.refl s) (.refl s) (by decide)
  | cons slot l ih =>
    intro s hnodup ha hk hpages
    obtain ⟨hslot, hnodup⟩ := List.nodup_cons.mp hnodup
    obtain ⟨p, hp, hjob, hprint⟩ := hpages slot (List.mem_cons_self ..)
    have hnumber : accountNumber s p = a := by rw [accountNumber, hjob, ha]
    have hone : Charged a k ([p].filterMap printCharge) s (settlePage slot .aborted s) := by
      cases hstate : p.state with
      | printing c last =>
        have hcharged := charged_printing hp hstate
        rw [hnumber, hk] at hcharged
        simpa [printCharge, hstate] using hcharged
      | withheld r last =>
        have hbehind : EventsBehind s (settlePage slot .aborted s) := by
          rw [settlePage_of_withheld hp hstate]
          exact (eventsBehind_postEvent ..).trans ((eventsBehind_of_touches (unmarkFrames_touches ..)).trans
            (eventsBehind_of_touches (setPage_touches_of _ _ _ nofun)))
        simpa [printCharge, hstate] using charged_of_touches a k hbehind (settlePage_withheld hp hstate .aborted) (by decide +kernel)
      | _ => simp [Page.inPrint, hstate] at hprint
    have htallied : Charged a k [] (settlePage slot .aborted s) (tallyAborted j (settlePage slot .aborted s)) :=
      charged_of_touches a k (eventsBehind_of_touches (tallyAborted_touches ..)) (tallyAborted_touches ..) (by decide +kernel)
    have hkept : ∀ x, x ≠ slot → pageOf (tallyAborted j (settlePage slot .aborted s)) x = pageOf s x := fun x hx => by
      rw [pageOf_of_touches (tallyAborted_touches ..), pageOf_settlePage, if_neg (Ne.symm hx)]
    have haccount : (jobOf (tallyAborted j (settlePage slot .aborted s)) j).account = a := by
      rw [tallyAborted, jobOf_setJob, if_pos rfl, jobOf_of_touches (settlePage_touches ..)]
      exact ha
    have hrest := ih _ hnodup haccount ((tallyAborted_touches ..).at .covSettings |>.trans (((settlePage_touches s slot .aborted).at .covSettings).trans hk))
      fun x hx => by
        rw [hkept x fun h => hslot (h ▸ hx)]
        exact hpages x (List.mem_cons_of_mem _ hx)
    have hlater : l.filterMap (pageOf (tallyAborted j (settlePage slot .aborted s))) = l.filterMap (pageOf s) :=
      List.filterMap_congr fun x hx => hkept x fun h => hslot (h ▸ hx)
    rw [hlater] at hrest
    have hall := (hone.trans htallied).trans hrest
    have hpage : (slot :: l).filterMap (pageOf s) = p :: l.filterMap (pageOf s) := List.filterMap_cons_some hp
    rw [hpage, ← List.singleton_append, List.filterMap_append]
    rwa [List.append_nil] at hall

/-! ## Tickets given back -/

/-- Pages of an account dropped, of which some held a ticket: what is given back (R51, R64). -/
structure GivenBack (a : Nat) (cs : List Nat) (s t : State) : Prop where
  rest : Touches (.jobs :: dropping) s t
  reservations : t.meter.reservations = s.meter.reservations - cs.length
  held : (accountOf t a).held = (accountOf s a).held - cs.sum
  inflight : (accountOf t a).inflight = (accountOf s a).inflight
  counts : (accountOf t a).counts = (accountOf s a).counts
  others : ∀ b, b ≠ a → accountOf t b = accountOf s b

theorem GivenBack.trans {a : Nat} {cs ds : List Nat} {s t u : State} (hst : GivenBack a cs s t) (htu : GivenBack a ds t u) : GivenBack a (cs ++ ds) s u where
  rest := hst.rest.trans htu.rest
  reservations := by rw [htu.reservations, hst.reservations, List.length_append, Nat.sub_sub]
  held := by rw [htu.held, hst.held, List.sum_append, Nat.sub_sub]
  inflight := htu.inflight.trans hst.inflight
  counts := htu.counts.trans hst.counts
  others := fun b hb => (htu.others b hb).trans (hst.others b hb)

theorem givenBack_dropPage {s : State} {slot : Nat} {p : Page} (hp : pageOf s slot = some p) :
    GivenBack (accountNumber s p) ([p].filterMap ticketCharge) s (dropPage slot s) := by
  have htouches := dropPage_touches_of hp
  have haccount := fun b => (accountOf_of_touches htouches b).trans (accountOf_releaseTicket p s b)
  have hreservations := (htouches.at .reservations).trans (releaseTicket_reservations p s)
  have hheld : heldIn s (accountNumber s p) (some p) = ([p].filterMap ticketCharge).sum := by
    cases hstate : p.state <;> simp [heldIn, ticketCharge, hstate]
  have hcount : p.isTicketed.toNat = ([p].filterMap ticketCharge).length := by
    cases hstate : p.state <;> simp [Page.isTicketed, ticketCharge, hstate]
  refine ⟨(dropPage_touches s slot).mono, by rw [← hcount]; exact hreservations, by rw [haccount, hheld], by rw [haccount], by rw [haccount], fun b hb => ?_⟩
  have hnone : heldIn s b (some p) = 0 := by
    cases hstate : p.state <;> simp [heldIn, hstate, Ne.symm hb]
  rw [haccount, hnone]
  rfl

/-- Pages that wait, dropped one after another and counted (R51, step 2). -/
theorem givenBack_drop {j a : Nat} (l : List Nat) : ∀ s : State, l.Nodup → (jobOf s j).account = a →
    (∀ slot ∈ l, ∃ p, pageOf s slot = some p ∧ p.job = j) →
    GivenBack a ((l.filterMap (pageOf s)).filterMap ticketCharge) s (l.foldl (fun t slot => tallyDropped j (dropPage slot t)) s) := by
  induction l with
  | nil => exact fun s _ _ _ => ⟨Touches.mono (l := []) (.refl s), rfl, rfl, rfl, rfl, fun _ _ => rfl⟩
  | cons slot l ih =>
    intro s hnodup ha hpages
    obtain ⟨hslot, hnodup⟩ := List.nodup_cons.mp hnodup
    obtain ⟨p, hp, hjob⟩ := hpages slot (List.mem_cons_self ..)
    have hnumber : accountNumber s p = a := by rw [accountNumber, hjob, ha]
    have hone := hnumber ▸ givenBack_dropPage hp
    have htally := tallyDropped_touches (dropPage slot s) j
    have htallied : GivenBack a [] (dropPage slot s) (tallyDropped j (dropPage slot s)) :=
      ⟨.mono htally, rfl, rfl, rfl, rfl, fun _ _ => rfl⟩
    have hkept : ∀ x, x ≠ slot → pageOf (tallyDropped j (dropPage slot s)) x = pageOf s x := fun x hx => by
      rw [pageOf_of_touches htally, pageOf_dropPage, if_neg (Ne.symm hx)]
    have haccount : (jobOf (tallyDropped j (dropPage slot s)) j).account = a := by
      rw [tallyDropped, jobOf_setJob, if_pos rfl, jobOf_of_touches (dropPage_touches ..)]
      exact ha
    have hrest := ih _ hnodup haccount fun x hx => by
        rw [hkept x fun h => hslot (h ▸ hx)]
        exact hpages x (List.mem_cons_of_mem _ hx)
    have hlater : l.filterMap (pageOf (tallyDropped j (dropPage slot s))) = l.filterMap (pageOf s) :=
      List.filterMap_congr fun x hx => hkept x fun h => hslot (h ▸ hx)
    rw [hlater] at hrest
    have hall := (hone.trans htallied).trans hrest
    have hpage : (slot :: l).filterMap (pageOf s) = p :: l.filterMap (pageOf s) := List.filterMap_cons_some hp
    rw [hpage, ← List.singleton_append, List.filterMap_append]
    rwa [List.append_nil] at hall

end Sys2Proof.Machine
end

section
/-! PURGE JOB: the frames of the job's pages and of its release, and all that steps 1 to 3 of a purge make of a job slot (O31). -/

namespace Sys2Proof.Machine

set_option Elab.async false

/-! ## Frames of a job (R1, R17) -/

theorem framesOf_congr {s t : State} (h : t.frames.entries = s.frames.entries) (j : Nat) : framesOf t j = framesOf s j := by
  unfold framesOf
  rw [h]

theorem mem_framesOf_iff {s : State} (h : Table.wf FrameEntry.free s.frames.entries = true) {j f : Nat} :
    f ∈ framesOf s j ↔ (boundTo j (frameOf s f)).isSome = true := by
  refine ⟨boundTo_of_mem_framesOf h, fun hbound => ?_⟩
  by_cases hmem : ∃ e ∈ s.frames.entries, e.1 = f
  · obtain ⟨e, he, rfl⟩ := hmem
    rw [frameOf, Table.get_of_pairwise _ ((Table.wf_iff _ _).mp h).1 (k := e.1) (v := e.2) he] at hbound
    exact List.mem_map.mpr ⟨e, List.mem_filter.mpr ⟨he, hbound⟩, rfl⟩
  · rw [frameOf, Table.get_of_not_mem _ fun e he hf => hmem ⟨e, he, hf⟩] at hbound
    cases hbound

/-- An update of the frames that keeps each binding's job keeps the frames of a job. -/
theorem framesOf_update {g : Nat → FrameEntry → FrameEntry} {j : Nat} (hg : ∀ f e, (boundTo j (g f e)).isSome = (boundTo j e).isSome)
    (entries : Table FrameEntry) :
    ((Table.update FrameEntry.free g entries).filter fun e => (boundTo j e.2).isSome).map (·.1) =
      (entries.filter fun e => (boundTo j e.2).isSome).map (·.1) := by
  have hbound : ∀ e : Nat × FrameEntry, ((boundTo j e.2).isSome && decide (e.2 ≠ FrameEntry.free)) = (boundTo j e.2).isSome := fun e => by
    by_cases h : e.2 = FrameEntry.free
    · rw [h]
      rfl
    · simp [h]
  unfold Table.update
  rw [List.filter_filter, List.filter_congr (fun e _ => hbound e), List.filter_map, List.map_map]
  refine congrArg (List.map _) (List.filter_congr fun e _ => hg e.1 e.2)

/-- The page marks that a drop or a settlement takes change no job's frames. -/
theorem framesOf_unmarkFrames (slot : Nat) (s : State) (j : Nat) : framesOf (unmarkFrames slot s) j = framesOf s j := by
  unfold framesOf unmarkFrames updateFrames
  dsimp only
  refine framesOf_update (fun f e => ?_) s.frames.entries
  obtain ⟨state, noted⟩ := e
  cases state with
  | bound b =>
    dsimp only
    split
    · unfold boundTo
      dsimp only
      split <;> rfl
    · rfl
  | _ => rfl

theorem residue_unmarkFrames {s : State} (h : Table.wf FrameEntry.free s.frames.entries = true) (slot f : Nat) :
    (frameOf (unmarkFrames slot s) f).state.residue = (frameOf s f).state.residue := by
  rw [get_unmarkFrames h]
  unfold FrameEntry.binding
  cases hstate : (frameOf s f).state with
  | bound b =>
    dsimp only
    split
    · rfl
    · rw [hstate]
  | _ => simp [hstate]

/-- The same frames are BOUND to each job, and the same await their scrub. -/
structure SameFrames (s t : State) : Prop where
  canonical : Canonical t
  bound : ∀ j, framesOf t j = framesOf s j
  residue : ∀ f, (frameOf t f).state.residue = (frameOf s f).state.residue

theorem SameFrames.trans {s t u : State} (hst : SameFrames s t) (htu : SameFrames t u) : SameFrames s u :=
  ⟨htu.canonical, fun j => (htu.bound j).trans (hst.bound j), fun f => (htu.residue f).trans (hst.residue f)⟩

theorem sameFrames_of_touches {l : List Aspect} {s t : State} (hs : Canonical s) (h : Touches l s t) (hl : Aspect.entries ∉ l := by decide +kernel)
    (hc : Aspect.canonical ∉ l := by decide +kernel) : SameFrames s t :=
  ⟨h.canonical hs hc, fun j => framesOf_congr (h.same .entries hl) j, fun f => by rw [frameOf_of_touches h f hl]⟩

theorem sameFrames_unmarked {s t u : State} {slot : Nat} (hs : Canonical s) (hu : Canonical u) (ht : t.frames.entries = s.frames.entries)
    (heq : u.frames = (unmarkFrames slot t).frames) : SameFrames s u where
  canonical := hu
  bound j := by
    rw [framesOf_congr (congrArg Frames.entries heq), framesOf_unmarkFrames, framesOf_congr ht]
  residue f := by
    have hframe : frameOf u f = frameOf (unmarkFrames slot t) f := by rw [frameOf, frameOf, heq]
    rw [hframe, residue_unmarkFrames (by rw [ht]; exact hs.frames), frameOf, frameOf, ht]

theorem sameFrames_dropPage {s : State} (h : Canonical s) (slot : Nat) : SameFrames s (dropPage slot s) := by
  have hcanonical := (dropPage_touches s slot).canonical h
  unfold dropPage at hcanonical ⊢
  split
  · rename_i p hp
    rw [hp] at hcanonical
    exact sameFrames_unmarked h hcanonical ((releaseTicket_touches s p).at .entries) rfl
  · exact ⟨h, fun _ => rfl, fun _ => rfl⟩

theorem sameFrames_settlePage {s : State} (h : Canonical s) (slot : Nat) (o : Outcome) : SameFrames s (settlePage slot o s) := by
  cases hp : pageOf s slot with
  | none =>
    have heq : settlePage slot o s = s := by rw [settlePage, hp]
    rw [heq]
    exact ⟨h, fun _ => rfl, fun _ => rfl⟩
  | some p =>
    obtain ⟨t, hframes, heq⟩ := settlePage_unmarks hp o
    exact sameFrames_unmarked h ((settlePage_touches s slot o).canonical h) hframes ((congrArg State.frames heq).trans rfl)

theorem sameFrames_foldl {step : State → Nat → State} (hstep : ∀ s slot, Canonical s → SameFrames s (step s slot)) (l : List Nat) :
    ∀ s, Canonical s → SameFrames s (l.foldl step s) := by
  induction l with
  | nil => exact fun s h => ⟨h, fun _ => rfl, fun _ => rfl⟩
  | cons slot l ih => exact fun s h => (hstep s slot h).trans (ih _ (hstep s slot h).canonical)

theorem sameFrames_abortPages {s : State} (h : Canonical s) (j : Nat) : SameFrames s (abortPages j s) :=
  sameFrames_foldl (fun s slot h => (sameFrames_settlePage h slot .aborted).trans (sameFrames_of_touches ((settlePage_touches s slot .aborted).canonical h)
    (tallyAborted_touches ..))) _ s h

theorem sameFrames_dropPages {s : State} (h : Canonical s) (j : Nat) : SameFrames s (dropPages j s) :=
  sameFrames_foldl (fun s slot h => (sameFrames_dropPage h slot).trans (sameFrames_of_touches ((dropPage_touches s slot).canonical h)
    (tallyDropped_touches ..))) _ s h

/-! ## Frames released (R17) -/

theorem retires_releaseFrame (j : Nat) (s : State) (f : Nat) : (jobOf (releaseFrame j s f) j).retires = (jobOf s j).retires := by
  obtain ⟨b, hb⟩ := jobOf_releaseFrames j [f] s j
  rw [show jobOf (releaseFrame j s f) j = _ from hb]
  rfl

theorem frameOf_releaseFrames (j : Nat) (l : List Nat) : ∀ s f, f ∉ l → frameOf (l.foldl (releaseFrame j) s) f = frameOf s f := by
  induction l with
  | nil => exact fun _ _ _ => rfl
  | cons x l ih =>
    intro s f hf
    rw [List.foldl_cons, ih _ f fun h => hf (List.mem_cons_of_mem _ h), releaseFrame_frame j s x f fun h => hf (h ▸ List.mem_cons_self ..)]

/-- A frame that leaves a job, by the job's privacy and flag (R17). -/
theorem releaseFrame_leaves (j : Nat) (s : State) (f : Nat) :
    if (jobOf s j).retires = true then
      (frameOf (releaseFrame j s f) f).state.residue = true ∧ (releaseFrame j s f).scrub.queue = s.scrub.queue ++ [f]
    else frameOf (releaseFrame j s f) f = ⟨.opened, false⟩ ∧ (releaseFrame j s f).scrub.queue = s.scrub.queue := by
  rw [releaseFrame_eq]
  unfold leaveFrame
  cases hretires : (jobOf s j).retires with
  | true =>
    rw [if_pos rfl, if_pos rfl, frameOf_of_touches (setJob_touches ..), retireFrame_eq, frameOf_setFrame, if_pos rfl]
    refine ⟨?_, rfl⟩
    unfold retiredEntry
    split <;> rfl
  | false =>
    rw [if_neg Bool.noConfusion, if_neg Bool.noConfusion, frameOf_of_touches (setJob_touches ..), frameOf_setFrame, if_pos rfl]
    exact ⟨rfl, rfl⟩

/-- What becomes of frames that leave a job: RETIRED or SCRUBBING and in the queue, or OPEN (R17). -/
theorem released_frames (j : Nat) (l : List Nat) : ∀ s : State, l.Nodup →
    (∀ f ∈ s.scrub.queue, f ∈ (l.foldl (releaseFrame j) s).scrub.queue) ∧
    ∀ f ∈ l, if (jobOf s j).retires = true then
        (frameOf (l.foldl (releaseFrame j) s) f).state.residue = true ∧ f ∈ (l.foldl (releaseFrame j) s).scrub.queue
      else frameOf (l.foldl (releaseFrame j) s) f = ⟨.opened, false⟩ := by
  induction l with
  | nil => exact fun s _ => ⟨fun _ h => h, nofun⟩
  | cons x l ih =>
    intro s hnodup
    obtain ⟨hx, hnodup⟩ := List.nodup_cons.mp hnodup
    obtain ⟨hqueue, hframes⟩ := ih (releaseFrame j s x) hnodup
    rw [retires_releaseFrame] at hframes
    have hleaves := releaseFrame_leaves j s x
    refine ⟨fun f hf => hqueue f ?_, fun f hf => ?_⟩
    · split at hleaves <;> rw [hleaves.2] <;> simp [hf]
    · rcases List.mem_cons.mp hf with rfl | hf
      · rw [List.foldl_cons, frameOf_releaseFrames j l _ f hx]
        split at hleaves
        · rename_i hretires
          rw [if_pos hretires]
          exact ⟨hleaves.1, hqueue f (by rw [hleaves.2]; simp)⟩
        · rename_i hretires
          rw [if_neg hretires]
          exact hleaves.1
      · exact hframes f hf

/-! ## Steps 1 to 3 of a purge (R51, R53) -/

/-- The settlement of the pages in print leaves the pages that wait. -/
theorem waiting_abortPages (s : State) (j : Nat) :
    pagesOf (abortPages j s) j (fun p => !p.inPrint) = pagesOf s j (fun p => !p.inPrint) ∧
      (pagesOf s j fun p => !p.inPrint).filterMap (pageOf (abortPages j s)) = (pagesOf s j fun p => !p.inPrint).filterMap (pageOf s) := by
  have hwaits : ∀ slot ∈ pagesOf s j (fun p => !p.inPrint), slot ∉ pagesOf s j Page.inPrint := fun slot hslot hprint => by
    obtain ⟨-, p, hp, -, -, hw⟩ := mem_pagesOf.mp hslot
    obtain ⟨-, q, hq, -, -, hi⟩ := mem_pagesOf.mp hprint
    rw [hp] at hq
    cases hq
    simp [hi] at hw
  constructor
  · unfold pagesOf
    refine List.filter_congr fun slot hslot => ?_
    rw [Bool.eq_iff_iff]
    have hA := mem_pagesOf (s := abortPages j s) (j := j) (f := fun p => !p.inPrint) (slot := slot)
    have hs := mem_pagesOf (s := s) (j := j) (f := fun p => !p.inPrint) (slot := slot)
    simp only [pagesOf, List.mem_filter, hslot, true_and] at hA hs
    rw [hA, hs, abortPages_page, abortPages_generation]
    refine and_congr_right fun hlt => ⟨fun ⟨p, hp, hrest⟩ => ?_, fun ⟨p, hp, hrest⟩ => ⟨p, ?_, hrest⟩⟩
    · split at hp
      · cases hp
      · exact ⟨p, hp, hrest⟩
    · rw [if_neg (hwaits slot (mem_pagesOf.mpr ⟨hlt, p, hp, hrest⟩)), hp]
  · refine List.filterMap_congr fun slot hslot => ?_
    rw [abortPages_page, if_neg (hwaits slot hslot)]

/-- The charges of step 1. -/
theorem charged_abortPages (j : Nat) (s : State) :
    Charged (jobOf s j).account s.coverage.settings ((openingPages s j).filterMap printCharge) s (abortPages j s) := by
  have h := charged_abort (j := j) (pagesOf s j Page.inPrint) s (PageLaw.nodup_pagesOf ..) rfl rfl fun slot hslot => by
    obtain ⟨-, p, hp, hjob, -, hprint⟩ := mem_pagesOf.mp hslot
    exact ⟨p, hp, hjob, hprint⟩
  rwa [pagesOf_filterMap, printCharges_inPrint] at h

/-- What step 2 gives back. -/
theorem givenBack_dropPages (j : Nat) (s : State) :
    GivenBack (jobOf s j).account ((openingPages s j).filterMap ticketCharge) (abortPages j s) (dropPages j (abortPages j s)) := by
  obtain ⟨hslots, hpages⟩ := waiting_abortPages s j
  have haccount : (jobOf (abortPages j s) j).account = (jobOf s j).account := by
    rw [abortPages_job, if_pos rfl]
    rfl
  have h := givenBack_drop (j := j) (pagesOf (abortPages j s) j fun p => !p.inPrint) (abortPages j s) (PageLaw.nodup_pagesOf ..) haccount fun slot hslot => by
    obtain ⟨-, p, hp, hjob, -, -⟩ := mem_pagesOf.mp hslot
    exact ⟨p, hp, hjob⟩
  unfold dropPages
  rw [hslots, hpages, pagesOf_filterMap, ticketCharges_waiting] at h
  rwa [hslots]

/-- The job's record before its release: the pages aborted and dropped are counted (R51). -/
theorem jobOf_before_release (j : Nat) (s : State) :
    jobOf (dropPages j (abortPages j s)) j = { jobOf s j with
      aborted := (jobOf s j).aborted + ((openingPages s j).filter Page.inPrint).length
      dropped := (jobOf s j).dropped + ((openingPages s j).length - ((openingPages s j).filter Page.inPrint).length) } := by
  rw [dropPages_job, if_pos rfl, (waiting_abortPages s j).1, abortPages_job, if_pos rfl, length_pagesOf, length_pagesOf, length_inPrint]

/-- A job's release up to its event (R53). -/
def jobFreed (j : Nat) (s : State) : State :=
  let t := (framesOf s j).foldl (releaseFrame j) s
  setJob j { jobOf t j with state := .free, key := (jobOf s j).key.destroyed s } t

theorem jobFreed_touches (j : Nat) (s : State) : Touches [.jobs, .entries, .scrub] s (jobFreed j s) :=
  (releaseFrames_touches ..).then (setJob_touches ..)

theorem releaseJob_eq (j : Nat) (cause : ReleaseCause) (s : State) :
    releaseJob j cause s = postEvent (.jobReleased j (jobOf s j).generation (jobOf s j).account cause
      (if (jobOf s j).retires then (framesOf s j).length else 0) (if (jobOf s j).retires then 0 else (framesOf s j).length)
      (jobOf s j).dropped (jobOf s j).aborted) (jobFreed j s) := by
  have hopened : (framesOf s j).length - (if (jobOf s j).retires then (framesOf s j).length else 0) =
      if (jobOf s j).retires then 0 else (framesOf s j).length := by
    split
    · exact Nat.sub_self _
    · exact Nat.sub_zero _
  rw [← hopened]
  rfl

theorem orders_of_touches {l : List Aspect} {s t : State} (h : Touches l s t)
    (hl : apart [.heldPost, .take, .fetching, .deferred, .lastHeader] l = true := by decide +kernel) : t.orders = s.orders := by
  have happart : ∀ f ∈ [Aspect.heldPost, .take, .fetching, .deferred, .lastHeader], f ∉ l := fun f hf => of_decide_eq_true (List.all_eq_true.mp hl f hf)
  have h1 : t.orders.heldPost = s.orders.heldPost := h.same .heldPost (happart _ (by decide))
  have h2 : t.orders.take = s.orders.take := h.same .take (happart _ (by decide))
  have h3 : t.orders.fetching = s.orders.fetching := h.same .fetching (happart _ (by decide))
  have h4 : t.orders.deferred = s.orders.deferred := h.same .deferred (happart _ (by decide))
  have h5 : t.orders.lastHeader = s.orders.lastHeader := h.same .lastHeader (happart _ (by decide))
  revert h1 h2 h3 h4 h5
  cases t.orders
  cases s.orders
  rintro ⟨⟩ ⟨⟩ ⟨⟩ ⟨⟩ ⟨⟩
  rfl

theorem sup_of_touches {l : List Aspect} {s t : State} (h : Touches l s t)
    (hl : apart [.device, .cold, .startWaiting, .pfw, .supRest] l = true := by decide +kernel) : t.sup = s.sup := by
  have happart : ∀ f ∈ [Aspect.device, .cold, .startWaiting, .pfw, .supRest], f ∉ l := fun f hf => of_decide_eq_true (List.all_eq_true.mp hl f hf)
  have h1 : t.sup.device = s.sup.device := h.same .device (happart _ (by decide))
  have h2 : t.sup.cold = s.sup.cold := h.same .cold (happart _ (by decide))
  have h3 : t.sup.startWaiting = s.sup.startWaiting := h.same .startWaiting (happart _ (by decide))
  have h4 : t.sup.pfw = s.sup.pfw := h.same .pfw (happart _ (by decide))
  have h5 := h.same .supRest (happart _ (by decide))
  simp only [Aspect.same, Prod.mk.injEq] at h5
  obtain ⟨h5, h6, h7, h8, h9, h10⟩ := h5
  revert h1 h2 h3 h4 h5 h6 h7 h8 h9 h10
  cases t.sup
  cases s.sup
  rintro ⟨⟩ ⟨⟩ ⟨⟩ ⟨⟩ ⟨⟩ ⟨⟩ ⟨⟩ ⟨⟩ ⟨⟩ ⟨⟩
  rfl

/-- The frames after a purge of their job (R17). -/
theorem frames_purgeSlot {s : State} (h : Canonical s) (j : Nat) (cause : ReleaseCause) :
    (∀ f, (boundTo j (frameOf s f)).isSome = true →
      if (jobOf s j).retires then (frameOf (purgeSlot j cause s) f).state.residue = true ∧ f ∈ (purgeSlot j cause s).scrub.queue
      else frameOf (purgeSlot j cause s) f = ⟨.opened, false⟩) ∧
    ∀ f, boundTo j (frameOf s f) = none → (frameOf (purgeSlot j cause s) f).state.residue = (frameOf s f).state.residue ∧
      boundTo j (frameOf (purgeSlot j cause s) f) = none := by
  have hsame : SameFrames s (dropPages j (abortPages j s)) :=
    (sameFrames_abortPages h j).trans (sameFrames_dropPages (sameFrames_abortPages h j).canonical j)
  have hretires : (jobOf (dropPages j (abortPages j s)) j).retires = (jobOf s j).retires := by
    rw [jobOf_before_release]
    rfl
  have hframe : ∀ f, frameOf (purgeSlot j cause s) f = frameOf ((framesOf (dropPages j (abortPages j s)) j).foldl (releaseFrame j) (dropPages j (abortPages j s))) f :=
    fun f => by
      rw [purgeSlot, releaseJob_eq, frameOf_of_touches (postEvent_touches ..), jobFreed, frameOf_of_touches (setJob_touches ..)]
  have hqueue : (purgeSlot j cause s).scrub = ((framesOf (dropPages j (abortPages j s)) j).foldl (releaseFrame j) (dropPages j (abortPages j s))).scrub := by
    rw [purgeSlot, releaseJob_eq, postEvent_scrub]
    rfl
  have hreleased := (released_frames j _ (dropPages j (abortPages j s)) (nodup_framesOf hsame.canonical.frames j)).2
  rw [hretires] at hreleased
  have hmem : ∀ f, f ∈ framesOf (dropPages j (abortPages j s)) j ↔ (boundTo j (frameOf s f)).isSome = true := fun f => by
    rw [hsame.bound, mem_framesOf_iff h.frames]
  refine ⟨fun f hf => ?_, fun f hf => ?_⟩
  · rw [hframe, hqueue]
    exact hreleased f ((hmem f).mpr hf)
  · have hout : f ∉ framesOf (dropPages j (abortPages j s)) j := fun hin => by
      have := (hmem f).mp hin
      rw [hf] at this
      cases this
    have hkept := (hframe f).trans (frameOf_releaseFrames j _ _ f hout)
    rw [hkept]
    refine ⟨hsame.residue f, Option.not_isSome_iff_eq_none.mp fun hbound => hout ?_⟩
    rwa [mem_framesOf_iff hsame.canonical.frames]

/-- What a key's destruction leaves hangs on the part in service alone (R54). -/
theorem destroyed_congr {s t : State} (h : t.filter.service = s.filter.service) (k : KeySlot) : k.destroyed t = k.destroyed s := by
  unfold KeySlot.destroyed partHolds
  rw [h]

/-- Steps 1 to 3 of a purge, whole. -/
theorem jobPurged_purgeSlot {s : State} (h : Canonical s) (j : Nat) (cause : ReleaseCause) : jobPurged cause j s (purgeSlot j cause s) := by
  have hcharged := charged_abortPages j s
  have hgiven := givenBack_dropPages j s
  have hreleased := releaseJob_touches (dropPages j (abortPages j s)) j cause
  have hpurged := purgeSlot_touches s j cause
  have hrecord := jobOf_before_release j s
  obtain ⟨hbound, hunbound⟩ := frames_purgeSlot h j cause
  have hjob := fun i => jobOf_releaseJob j cause (dropPages j (abortPages j s)) i
  have hkeptJob : ∀ i, i ≠ j → jobOf (dropPages j (abortPages j s)) i = jobOf s i := fun i hi => by
    rw [dropPages_job, if_neg (Ne.symm hi), abortPages_job, if_neg (Ne.symm hi)]
  have hmeasured : ∀ p : Page, (if p.colour = .colour ∧ p.pixels * 9 * s.coverage.settings.threshold ≤ (p.sums.q1 + p.sums.q2 + p.sums.q3) * 65536 then
      Colour.colour else .mono) = measuredColour s.coverage.settings.threshold p := fun p => (measuredColour_eq ..).symm
  obtain ⟨hkey, hjobs⟩ : (∃ b, jobOf (purgeSlot j cause s) j = { jobOf (dropPages j (abortPages j s)) j with
      state := .free, bound := b, key := (jobOf s j).key.destroyed s }) ∧ ∀ i, i ≠ j → jobOf (purgeSlot j cause s) i = jobOf s i := by
    refine ⟨?_, fun i hi => ?_⟩
    · obtain ⟨b, hb⟩ := hjob j
      rw [if_pos rfl] at hb
      refine ⟨b, hb.trans ?_⟩
      rw [hrecord, destroyed_congr ((hgiven.rest.at .service).trans ((abortPages_touches s j).at .service))]
    · obtain ⟨b, hb⟩ := hjob i
      rw [if_neg (Ne.symm hi)] at hb
      exact hb.trans (hkeptJob i hi)
  obtain ⟨b, hkey⟩ := hkey
  have haccount : ∀ a, accountOf (purgeSlot j cause s) a = accountOf (dropPages j (abortPages j s)) a := fun a => accountOf_of_touches hreleased a
  have hsame : SameFrames s (dropPages j (abortPages j s)) :=
    (sameFrames_abortPages h j).trans (sameFrames_dropPages (sameFrames_abortPages h j).canonical j)
  have hbehind : EventsBehind s (jobFreed j (dropPages j (abortPages j s))) :=
    (hcharged.behind.trans (eventsBehind_of_touches hgiven.rest)).trans (eventsBehind_of_touches (jobFreed_touches ..))
  unfold jobPurged
  simp only [hmeasured]
  refine ⟨?_, ?_, ?_, ?_, ?_, fun hle => ?_, fun a ha => ?_, ?_, fun n hn => ?_, fun slot hslot => ?_, fun slot hlive => ?_, ?_, hunbound, ?_, ?_, fun k hk => ?_,
    hjobs, orders_of_touches hpurged, hpurged.at .mem, hpurged.at .views, sup_of_touches hpurged⟩
  · obtain ⟨htime, more, hmore, hevents⟩ := hbehind
    refine ⟨jobFreed j (dropPages j (abortPages j s)), more, htime, hmore, hevents, ?_⟩
    have hlength : (framesOf (dropPages j (abortPages j s)) j).length = (s.frames.entries.filter fun e => (boundTo j e.2).isSome).length := by
      rw [hsame.bound, framesOf, List.length_map]
    rw [purgeSlot, releaseJob_eq, hrecord, hlength]
    rfl
  · exact ((hreleased.at .journal).trans (hgiven.rest.at .journal)).trans hcharged.journal
  · refine ((hreleased.at .reservations).trans (hgiven.reservations.trans ?_))
    rw [hcharged.reservations, Nat.sub_sub]
    rfl
  · rw [haccount, hgiven.inflight, hcharged.inflight]
    rfl
  · rw [haccount, hgiven.held, hcharged.held]
    rfl
  · rw [haccount, hgiven.counts]
    exact hcharged.settled hle
  · rw [haccount, hgiven.others a ha, hcharged.others a ha]
  · exact ((hreleased.at .residues).trans (hgiven.rest.at .residues)).trans hcharged.residues
  · refine (congrArg Slot.pending ((slotOf_of_touches hreleased n).trans (slotOf_of_touches hgiven.rest n))).trans (hcharged.pending n hn)
  · cases hlive : liveFor (purgeSlot j cause s) slot j (jobOf s j).generation with
    | none => rfl
    | some p =>
      have hpage := pageOf_of_liveFor hlive
      obtain ⟨hpj, hpg⟩ : p.job = j ∧ p.generation = (jobOf s j).generation := by
        rw [liveFor, hpage] at hlive
        by_contra hnot
        simp [hnot] at hlive
      rw [purgeSlot, pageOf_of_touches hreleased] at hpage
      exact absurd (mem_pagesOf.mpr ⟨hslot, p, hpage, hpj, by rw [hrecord]; exact hpg, rfl⟩) (no_page_left j s slot fun _ => true)
  · have hout : ∀ f, slot ∉ pagesOf s j f := fun f hmem => by
      obtain ⟨-, p, hp, hpj, hpg, -⟩ := mem_pagesOf.mp hmem
      simp [liveFor, hp, hpj, hpg] at hlive
    rw [purgeSlot, pageOf_of_touches hreleased, dropPages_page, (waiting_abortPages s j).1, if_neg (hout _), abortPages_page, if_neg (hout _)]
  · exact hbound
  · rw [hkey]
  · rw [hkey, hrecord]
  · rw [hkey, hk]
    exact if_congr (partHolds_iff.trans heldKey_eq_some) rfl rfl

theorem exec_purgeJob {ps : List Nat} {s : State} (h : OrderReady 6 ps s) :
    exec .purgeJob s =
      .next (closeTake (answerAndAdvance (checked [(!inWork s.sup.device, .plain .mode 0)] (fetchDone s) (purgeJobOrder ps)))) :=
  h.taken_eq inWork purgeJobOrder

end Sys2Proof.Machine

namespace Sys2Proof.Proofs

open Sys2Proof.Machine

/-- Settles O31: the checks in order, then steps 1 to 3 of the purge, the deferred close's answer, and DONE. -/
theorem purgeJobOrder : Obligations.PurgeJobOrder := by
  unfold Obligations.PurgeJobOrder
  intro s j g h hcanonical
  refine refused_or_rest (exec_purgeJob h) (not_inWork_iff _) fun _ hx => ?_
  rw [checked_nil, Machine.purgeJobOrder] at hx
  refine refused_or_rest hx (by simp [arg]) fun _ hx => ?_
  refine refused_or_rest hx (staleGeneration_iff ..) fun _ hx => ?_
  refine refused_or_rest hx (by simp [arg]) fun _ hx => ?_
  have hfetched : Canonical (fetchDone s) := (fetchDone_touches s).canonical hcanonical
  have hpurged := jobPurged_purgeSlot hfetched j .purge
  have horders : (purgeSlot j .purge (fetchDone s)).orders.deferred = s.orders.deferred :=
    ((purgeSlot_touches (fetchDone s) j .purge).at .deferred).trans ((fetchDone_touches s).at .deferred)
  have hanswered : Machine.purgeJob j (fetchDone s) = { purgeSlot j .purge (fetchDone s) with
      port := { (purgeSlot j .purge (fetchDone s)).port with
        control := (purgeSlot j .purge (fetchDone s)).port.control ++
          (s.orders.deferred.filter fun d => decide (d.object = .closeJob j)).map fun d => .answer d.index (.plain .done 0) }
      orders := { (purgeSlot j .purge (fetchDone s)).orders with
        deferred := s.orders.deferred.filter fun d => !decide (d.object = .closeJob j) } } := by
    rw [purgeJob, answerClose, answerDeferred_eq, horders]
  rw [checked_nil] at hx
  exact ⟨purgeSlot j .purge (fetchDone s), hpurged, hx.trans (congrArg (fun u => Host.Outcome.next (closeTake (answerAndAdvance (u, Answer.done)))) hanswered)⟩

end Sys2Proof.Proofs
end

section
/-! Purges in turn: END SERVICE and LOCKDOWN purge each job slot and answer the deferred closes in the order of their take (R56, R159, R172, R174). -/

namespace Sys2Proof.Machine

set_option Elab.async false

/-! ## A run of deferred orders that leaves the list -/

/-- The first of the picked entries erased: the others of them stay, and so does the rest. -/
theorem filter_erase_first {α : Type} [DecidableEq α] {q : α → Bool} {a : α} (rest : List α) : ∀ {l : List α}, l.filter q = a :: rest →
    (l.erase a).filter q = rest ∧ (l.erase a).filter (fun x => !q x) = l.filter fun x => !q x := by
  intro l
  induction l with
  | nil => nofun
  | cons b l ih =>
    intro h
    cases hb : q b with
    | true =>
      rw [List.filter_cons_of_pos hb] at h
      obtain ⟨rfl, hrest⟩ := List.cons.inj h
      rw [List.erase_cons_head, List.filter_cons_of_neg (by simp [hb])]
      exact ⟨hrest, rfl⟩
    | false =>
      rw [List.filter_cons_of_neg (by simp [hb])] at h
      have ha : q a = true := (List.mem_filter.mp (h ▸ List.mem_cons_self .. : a ∈ l.filter q)).2
      have hne : b ≠ a := fun heq => by
        rw [heq, ha] at hb
        cases hb
      obtain ⟨hpicked, hothers⟩ := ih h
      rw [List.erase_cons_tail (by simpa using hne), List.filter_cons_of_neg (by simp [hb]), List.filter_cons_of_pos (by simp [hb]),
        List.filter_cons_of_pos (by simp [hb]), hothers]
      exact ⟨hpicked, rfl⟩

/-- The foremost picked entries taken away. -/
theorem filter_diff_foremost {α : Type} [DecidableEq α] {q : α → Bool} {rest : List α} (due : List α) : ∀ {l : List α}, l.filter q = due ++ rest →
    (l.diff due).filter q = rest ∧ (l.diff due).filter (fun x => !q x) = l.filter fun x => !q x := by
  induction due with
  | nil => exact fun h => ⟨h, rfl⟩
  | cons a due ih =>
    intro l h
    obtain ⟨hpicked, hothers⟩ := filter_erase_first (due ++ rest) h
    obtain ⟨hend, hkept⟩ := ih hpicked
    rw [List.diff_cons]
    exact ⟨hend, hkept.trans hothers⟩

/-! ## One turn (R56) -/

theorem eventsBehind_purgeSlot (j : Nat) (cause : ReleaseCause) (s : State) : EventsBehind s (purgeSlot j cause s) := by
  rw [purgeSlot, releaseJob_eq]
  exact (((charged_abortPages j s).behind.trans (eventsBehind_of_touches (givenBack_dropPages j s).rest)).trans
    (eventsBehind_of_touches (jobFreed_touches ..))).trans (eventsBehind_postEvent ..)

/-- A job slot's turn up to its answers. -/
def slotPurged (cause : ReleaseCause) (j : Nat) (s : State) : State := if (jobOf s j).isFree then s else purgeSlot j cause s

theorem purgeTurn_eq (cause : ReleaseCause) (code : Code) (s : State) (j : Nat) : purgeTurn cause code s j = answerCloses j code (slotPurged cause j s) := rfl

theorem slotPurged_touches (cause : ReleaseCause) (j : Nat) (s : State) : Touches (.jobs :: .scrub :: settlement) s (slotPurged cause j s) := by
  unfold slotPurged
  split
  · exact Touches.mono (l := []) (.refl s)
  · exact purgeSlot_touches ..

theorem eventsBehind_slotPurged (cause : ReleaseCause) (j : Nat) (s : State) : EventsBehind s (slotPurged cause j s) := by
  unfold slotPurged
  split
  · exact .refl s
  · exact eventsBehind_purgeSlot ..

/-- The slot of a turn is FREE after it, and no other slot's record changes. -/
theorem jobOf_slotPurged (cause : ReleaseCause) (j : Nat) {s : State} (h : Canonical s) :
    (jobOf (slotPurged cause j s) j).isFree = true ∧ ∀ i, i ≠ j → jobOf (slotPurged cause j s) i = jobOf s i := by
  unfold slotPurged
  split
  · rename_i hfree
    exact ⟨hfree, fun _ _ => rfl⟩
  · have hpurged := jobPurged_purgeSlot h j cause
    unfold jobPurged at hpurged
    obtain ⟨-, -, -, -, -, -, -, -, -, -, -, -, -, hfree, -, -, hothers, -⟩ := hpurged
    exact ⟨by rw [Job.isFree, Job.opening, hfree]; rfl, hothers⟩

/-- A deferred CLOSE JOB. -/
def Deferred.closes (d : Deferred) : Bool := d.object.closeSlot.isSome

/-- The accesses that are no event writes. -/
def ControlAccess.answers : ControlAccess → Bool
  | .event _ => false
  | _ => true

/-- From one state to another some of the deferred closes, in the order of their take, have been answered with a code, and events posted. -/
structure ClosesAnswered (code : Code) (s t : State) : Prop where
  canonical : Canonical t
  queued : ∃ more done, t.port.control = s.port.control ++ more ∧
    s.orders.deferred.filter Deferred.closes = done ++ t.orders.deferred.filter Deferred.closes ∧
    more.filter ControlAccess.answers = done.map fun d => ControlAccess.answer d.index (.plain code 0)
  others : t.orders.deferred.filter (fun d => !d.closes) = s.orders.deferred.filter fun d => !d.closes

theorem ClosesAnswered.start {code : Code} {s : State} (h : Canonical s) : ClosesAnswered code s s :=
  ⟨h, ⟨[], [], (List.append_nil _).symm, rfl, rfl⟩, rfl⟩

theorem answers_of_events {more : List ControlAccess} (h : ∀ x ∈ more, ∃ e, x = ControlAccess.event e) : more.filter ControlAccess.answers = [] := by
  rw [List.filter_eq_nil_iff]
  intro x hx
  obtain ⟨e, rfl⟩ := h x hx
  exact Bool.noConfusion

/-- A close that waits on a slot whose turn has come. -/
def Deferred.due (j : Nat) (d : Deferred) : Bool := d.object.closeSlot.any fun i => decide (i ≤ j)

theorem closesDue_append (cause : ReleaseCause) (j : Nat) (t : State) :
    closesDue j (slotPurged cause j t) ++ (t.orders.deferred.filter Deferred.closes).dropWhile (Deferred.due j) = t.orders.deferred.filter Deferred.closes := by
  have hdeferred : (slotPurged cause j t).orders.deferred = t.orders.deferred := (slotPurged_touches cause j t).at .deferred
  rw [closesDue, hdeferred]
  exact List.takeWhile_append_dropWhile

/-- The closes that a turn leaves deferred. -/
theorem closes_purgeTurn (cause : ReleaseCause) (code : Code) (j : Nat) (t : State) :
    (purgeTurn cause code t j).orders.deferred.filter Deferred.closes = (t.orders.deferred.filter Deferred.closes).dropWhile (Deferred.due j) := by
  have hdeferred : (slotPurged cause j t).orders.deferred = t.orders.deferred := (slotPurged_touches cause j t).at .deferred
  rw [purgeTurn_eq, answerCloses_eq]
  show ((slotPurged cause j t).orders.deferred.diff _).filter _ = _
  rw [hdeferred]
  exact (filter_diff_foremost (q := Deferred.closes) _ (closesDue_append cause j t).symm).1

theorem ClosesAnswered.turn {code : Code} {s t : State} (h : ClosesAnswered code s t) (cause : ReleaseCause) (j : Nat) :
    ClosesAnswered code s (purgeTurn cause code t j) := by
  obtain ⟨hcanonical, ⟨more, done, hmore, hdone, hanswers⟩, hothers⟩ := h
  have hdeferred : (slotPurged cause j t).orders.deferred = t.orders.deferred := (slotPurged_touches cause j t).at .deferred
  obtain ⟨-, events, hevents, hall⟩ := eventsBehind_slotPurged cause j t
  have hdue := closesDue_append cause j t
  have hkept := (filter_diff_foremost (q := Deferred.closes) _ hdue.symm).2
  refine ⟨(purgeTurn_touches t cause code j).canonical hcanonical, ⟨more ++ (events ++ (closesDue j (slotPurged cause j t)).map fun d => .answer d.index (.plain code 0)),
    done ++ closesDue j (slotPurged cause j t), ?_, ?_, ?_⟩, ?_⟩
  · rw [purgeTurn_eq, answerCloses_eq]
    show (slotPurged cause j t).port.control ++ _ = _
    rw [hevents, hmore]
    simp only [List.append_assoc]
  · rw [closes_purgeTurn, List.append_assoc, hdue, hdone]
  · rw [List.filter_append, List.filter_append, hanswers, answers_of_events hall, List.nil_append, List.map_append]
    congr 1
    exact List.filter_eq_self.mpr fun x hx => by
      obtain ⟨d, -, rfl⟩ := List.mem_map.mp hx
      rfl
  · rw [purgeTurn_eq, answerCloses_eq]
    show ((slotPurged cause j t).orders.deferred.diff _).filter _ = _
    rw [hdeferred, hkept, hothers]

/-! ## Every slot's turn (R56, R159) -/

/-- The state at the turn of a job slot. -/
def turnOf (cause : ReleaseCause) (code : Code) (s : State) (n : Nat) : State := (List.range n).foldl (purgeTurn cause code) s

theorem turnOf_succ (cause : ReleaseCause) (code : Code) (s : State) (n : Nat) :
    turnOf cause code s (n + 1) = purgeTurn cause code (turnOf cause code s n) n := by
  rw [turnOf, List.range_succ, List.foldl_append]
  rfl

theorem closesAnswered_turnOf (cause : ReleaseCause) (code : Code) {s : State} (h : Canonical s) (n : Nat) : ClosesAnswered code s (turnOf cause code s n) := by
  induction n with
  | zero => exact .start h
  | succ n ih =>
    rw [turnOf_succ]
    exact ih.turn cause n

/-- Every slot whose turn has come is FREE. -/
theorem free_turnOf (cause : ReleaseCause) (code : Code) {s : State} (h : Canonical s) (n : Nat) :
    ∀ j, j < n → (jobOf (turnOf cause code s n) j).isFree = true := by
  induction n with
  | zero => nofun
  | succ n ih =>
    intro j hj
    have hjobs := jobOf_slotPurged cause n (closesAnswered_turnOf cause code h n).canonical
    rw [turnOf_succ, purgeTurn_eq, jobOf_of_touches (answerCloses_touches ..)]
    by_cases hn : j = n
    · rw [hn]
      exact hjobs.1
    · rw [hjobs.2 j hn]
      exact ih j (by omega)

/-- No close is left deferred after the last turn. -/
theorem closes_turnOf (cause : ReleaseCause) (code : Code) {s : State} (h : Canonical s) (hbounded : Bounded s) :
    (turnOf cause code s 16).orders.deferred.filter Deferred.closes = [] := by
  obtain ⟨-, ⟨-, done, -, hdone, -⟩, -⟩ := closesAnswered_turnOf cause code h 15
  rw [turnOf_succ, closes_purgeTurn, List.dropWhile_eq_nil_iff]
  intro d hd
  obtain ⟨hmem, hcloses⟩ := List.mem_filter.mp (hdone ▸ List.mem_append_right done hd : d ∈ s.orders.deferred.filter Deferred.closes)
  have hlt := hbounded.closes d hmem
  unfold Deferred.closes DeferredObject.closeSlot at hcloses
  unfold Deferred.due DeferredObject.closeSlot
  cases hobject : d.object with
  | closeJob i =>
    have := hlt i hobject
    simp
    omega
  | _ => simp [hobject] at hcloses

/-- The purges of END SERVICE and LOCKDOWN are those of R56. -/
theorem purgedInTurn_turnOf (cause : ReleaseCause) (code : Code) {s : State} (h : Canonical s) : purgedInTurn cause code s (turnOf cause code s) := by
  unfold purgedInTurn
  refine ⟨rfl, fun j _ => ⟨slotPurged cause j (turnOf cause code s j), ?_, ?_⟩⟩
  · unfold slotPurged
    split
    · rfl
    · exact jobPurged_purgeSlot (closesAnswered_turnOf cause code h j).canonical j cause
  · rw [turnOf_succ, purgeTurn_eq, answerCloses_eq]
    rfl

end Sys2Proof.Machine
end

section
/-! KEEPALIVE, the supervision timers and LOCKDOWN; START, START SERVICE, END SERVICE and RECOVER (O48, O49). -/

namespace Sys2Proof.Machine

set_option Elab.async false

/-! ## Orders of the device state -/

theorem exec_start {ps : List Nat} {s : State} (h : OrderReady 22 ps s) :
    exec .start s = .next (closeTake (answerAndAdvance (checked [(!inProvision s.sup.device, .plain .mode 0)] (fetchDone s) (startOrder ps)))) :=
  h.taken_eq inProvision startOrder

theorem exec_startService {ps : List Nat} {s : State} (h : OrderReady 23 ps s) :
    exec .startService s =
      .next (closeTake (answerAndAdvance (checked [(!inProvision s.sup.device, .plain .mode 0)] (fetchDone s) (startServiceOrder ps)))) :=
  h.taken_eq inProvision startServiceOrder

theorem exec_endService {ps : List Nat} {s : State} (h : OrderReady 24 ps s) :
    exec .endService s = .next (closeTake (answerAndAdvance (checked [(!inService s.sup.device, .plain .mode 0)] (fetchDone s) (endServiceOrder ps)))) :=
  h.taken_eq inService endServiceOrder

theorem exec_keepalive {ps : List Nat} {s : State} (h : OrderReady 25 ps s) :
    exec .keepalive s = .next (closeTake (answerAndAdvance (checked [(!inWork s.sup.device, .plain .mode 0)] (fetchDone s) (keepaliveOrder ps)))) :=
  h.taken_eq inWork keepaliveOrder

theorem exec_recover {ps : List Nat} {s : State} (h : OrderReady 26 ps s) :
    exec .recover s = .next (closeTake (answerAndAdvance (checked [(!inLockdown s.sup.device, .plain .mode 0)] (fetchDone s) (recoverOrder ps)))) :=
  h.taken_eq inLockdown recoverOrder

/-- An order whose one check passes is carried out. -/
theorem accepted {x : Result} {b : Bool} {a : Answer} {s u : State} {c : Answer} {act : State → State × Answer}
    (hx : x = .next (closeTake (answerAndAdvance (checked [(b, a)] (fetchDone s) act)))) (hb : b = false) (hact : act (fetchDone s) = (u, c)) :
    x = .next (answered u c) := by
  subst hb
  rw [hx]
  exact congrArg (fun r => Host.Outcome.next (closeTake (answerAndAdvance r))) hact

/-! ## Timers and events of the Supervision Unit -/

/-- An event is posted whatever the Supervision Unit holds. -/
theorem postEvent_withSup (e : Event) (s : State) (x : Supervision) : postEvent e { s with sup := x } = { postEvent e s with sup := x } := by
  have hoccupancy : occupancy { s with sup := x } = occupancy s := rfl
  unfold postEvent
  rw [hoccupancy]
  by_cases h : occupancy s ≥ 256
  · rw [if_pos h, if_pos h]
  · rw [if_neg h, if_neg h]
    rfl

/-- The change of the Supervision Unit before an event and the one after it stand in one record. -/
theorem modifySup_postEvent (f g : Supervision → Supervision) (e : Event) (s : State) :
    modifySup g (postEvent e (modifySup f s)) = postEvent e { s with sup := g (f s.sup) } :=
  (congrArg (modifySup g) (postEvent_withSup e s (f s.sup))).trans (postEvent_withSup e s (g (f s.sup))).symm

/-- The expiry of the provisioning window (R169). -/
theorem provisioningExpired_eq {since : Time} {s : State} (h : s.sup.provTimer = some since) :
    provisioningExpired s = some (postEvent (.provisionExpired (min (s.sup.windowCount + 1) 255) s.sup.cold s.store.journal.length)
      { reachTime since 2000 s with sup := { s.sup with
        windowCount := min (s.sup.windowCount + 1) 255
        ctlrst := .pulsing (reachTime since 2000 s).time
        provTimer := some (reachTime since 2000 s).time } }) := by
  have htime := fun e u => (postEvent_touches u e).at .time
  have hsup : (reachTime since 2000 s).sup = s.sup := reachTime_sup ..
  have hstore : (reachTime since 2000 s).store = s.store := reachTime_store ..
  rw [provisioningExpired, h]
  refine congrArg some ((modifySup_postEvent _ _ _ _).trans ?_)
  dsimp only [modifySup]
  rw [htime, hsup, hstore]

/-! ## LOCKDOWN (R174) -/

/-- The choice of the deferred closes as R56 and R159 name it. -/
def isClose (d : Deferred) : Bool := match d.object with
  | .closeJob _ => true
  | _ => false

theorem isClose_eq : isClose = Deferred.closes := by
  funext d
  unfold isClose Deferred.closes DeferredObject.closeSlot
  cases d.object <;> rfl

/-- The Supervision Unit as LOCKDOWN is entered. -/
def locked (s : State) : State := { s with sup := { s.sup with device := .lockdown, keepalive := none } }

/-- The deferred orders that are no closes, answered ABORTED (R174). -/
def abortedOthers (s : State) (others : List Deferred) : State :=
  { s with
    port := { s.port with control := s.port.control ++ others.map fun d => .answer d.index (.plain .aborted 0) }
    orders := { s.orders with deferred := [] } }

theorem deferred_turnOf (cause : ReleaseCause) (code : Code) {s : State} (h : Canonical s) (hbounded : Bounded s) :
    (turnOf cause code s 16).orders.deferred = s.orders.deferred.filter fun d => !d.closes := by
  have hnone := closes_turnOf cause code h hbounded
  rw [← (closesAnswered_turnOf cause code h 16).others]
  refine (List.filter_eq_self.mpr fun d hd => ?_).symm
  rw [List.filter_eq_nil_iff] at hnone
  simpa using hnone d hd

/-- What the turns of every slot have answered. -/
theorem queued_turnOf (cause : ReleaseCause) (code : Code) {s : State} (h : Canonical s) (hbounded : Bounded s) :
    ∃ more, (turnOf cause code s 16).port.control = s.port.control ++ more ∧
      more.filter ControlAccess.answers = (s.orders.deferred.filter Deferred.closes).map fun d => ControlAccess.answer d.index (.plain code 0) := by
  obtain ⟨-, ⟨more, done, hmore, hdone, hanswers⟩, -⟩ := closesAnswered_turnOf cause code h 16
  rw [closes_turnOf cause code h hbounded, List.append_nil] at hdone
  exact ⟨more, hmore, by rw [hanswers, hdone]⟩

theorem turnOf_touches (cause : ReleaseCause) (code : Code) (s : State) (n : Nat) : Touches ending s (turnOf cause code s n) :=
  .foldl (fun _ _ => purgeTurn_touches ..) _ s

theorem enterLockdown_eq (cause : StateCause) {s : State} (h : Canonical s) (hbounded : Bounded s) :
    enterLockdown cause s = postEvent (.stateChange s.sup.device .lockdown cause s.sup.cold)
      { abortedOthers (turnOf .lockdown .aborted (locked s) 16) (s.orders.deferred.filter fun d => !d.closes) with
        sup := { (locked s).sup with ctlrst := .held } } := by
  have hlocked : Canonical (locked s) := ⟨h.mem, h.frames, h.jobs, h.pages, h.accounts, h.counts, h.settings⟩
  have hsup : (turnOf .lockdown .aborted (locked s) 16).sup = (locked s).sup := sup_of_touches (turnOf_touches ..)
  have hdeferred := deferred_turnOf .lockdown .aborted hlocked ⟨hbounded.guard, hbounded.deferred, hbounded.closes⟩
  have hanswered : answerDeferred (fun _ => true) (fun _ => .plain .aborted 0) (turnOf .lockdown .aborted (locked s) 16) =
      abortedOthers (turnOf .lockdown .aborted (locked s) 16) (s.orders.deferred.filter fun d => !d.closes) := by
    rw [answerDeferred_eq, hdeferred, abortedOthers]
    simp [locked]
  unfold enterLockdown postStateChange
  dsimp only
  have hpurged : purgeAll .lockdown .aborted (modifySup (fun u => { u with device := .lockdown, keepalive := none }) s) =
    turnOf .lockdown .aborted (locked s) 16 := rfl
  rw [hpurged, hanswered]
  clear hpurged hanswered hdeferred
  generalize turnOf .lockdown .aborted (locked s) 16 = v at hsup ⊢
  have hsup : (abortedOthers v (s.orders.deferred.filter fun d => !d.closes)).sup = (locked s).sup := hsup
  unfold modifySup
  rw [hsup]
  rfl

/-- What LOCKDOWN leaves of the state before the turns. -/
theorem lockdown_keeps {s v : State} (others : List Deferred) (x : Supervision) (e : Event) (h : Touches ending (locked s) v) :
    let u := postEvent e { abortedOthers v others with sup := x }
    u.orders.deferred = [] ∧ u.orders.take = s.orders.take ∧ u.mem = s.mem ∧ u.views = s.views ∧ u.supply.settings = s.supply.settings :=
  have hposted := postEvent_touches { abortedOthers v others with sup := x } e
  ⟨hposted.at .deferred, (hposted.at .take).trans (h.at .take), (hposted.at .mem).trans (h.at .mem), (hposted.at .views).trans (h.at .views),
    (hposted.at .supplySettings).trans (h.at .supplySettings)⟩

theorem jobOf_abortedOthers (v : State) (others : List Deferred) (x : Supervision) (j : Nat) :
    jobOf { abortedOthers v others with sup := x } j = jobOf v j := rfl

theorem queued_abortedOthers {s v : State} {more : List ControlAccess} (others : List Deferred) (h : v.port.control = s.port.control ++ more) :
    (abortedOthers v others).port.control = s.port.control ++ (more ++ others.map fun d => .answer d.index (.plain .aborted 0)) := by
  rw [← List.append_assoc, ← h]
  rfl

/-- What LOCKDOWN answers (R174): the deferred closes in the order of their take, then the other orders. -/
theorem answers_lockdown {s : State} (h : Canonical s) (hbounded : Bounded s) :
    let others := s.orders.deferred.filter fun d => !d.closes
    ∃ more, (abortedOthers (turnOf .lockdown .aborted (locked s) 16) others).port.control = s.port.control ++ more ∧
      more.filter ControlAccess.answers =
        (s.orders.deferred.filter Deferred.closes ++ others).map (fun d => ControlAccess.answer d.index (.plain .aborted 0)) := by
  intro others
  have hlocked : Canonical (locked s) := ⟨h.mem, h.frames, h.jobs, h.pages, h.accounts, h.counts, h.settings⟩
  obtain ⟨more, hmore, hanswers⟩ := queued_turnOf .lockdown .aborted hlocked ⟨hbounded.guard, hbounded.deferred, hbounded.closes⟩
  refine ⟨more ++ others.map fun d => .answer d.index (.plain .aborted 0), ?_, ?_⟩
  · exact queued_abortedOthers others hmore
  · have hrest : (others.map fun d => ControlAccess.answer d.index (.plain .aborted 0)).filter ControlAccess.answers = others.map fun d => .answer d.index (.plain .aborted 0) :=
      List.filter_eq_self.mpr fun x hx => by
        obtain ⟨d, -, rfl⟩ := List.mem_map.mp hx
        rfl
    rw [List.filter_append, hanswers, hrest, ← List.map_append]
    rfl

end Sys2Proof.Machine

namespace Sys2Proof.Proofs

open Sys2Proof.Machine

/-- Settles O49: the keepalive's windows, the timers, and LOCKDOWN by the turns of the job slots. -/
theorem supervisionTimersAndKeepalive : Obligations.SupervisionTimersAndKeepalive := by
  unfold Obligations.SupervisionTimersAndKeepalive
  intro s hp
  refine ⟨fun h hdevice => ?_, fun since hsince hdevice => ⟨fun h => ?_, ?_⟩, fun hstopped => ?_, fun since hsince => ?_, fun hnone => ?_, fun since hpulse => ?_,
    fun hnone => ?_, fun hcanonical hbounded cause => ?_⟩
  · refine accepted (exec_keepalive h) (by rw [hdevice]; rfl) ?_
    rw [Machine.keepaliveOrder, show (fetchDone s).sup.device = .service from hdevice]
  · have horder : Machine.keepaliveOrder [] (fetchDone s) =
        if span s.time since < s.sup.period / 2 then (enterLockdown .keepaliveEarly (fetchDone s), .plain .state 0)
        else if span s.time since ≤ s.sup.period then (modifySup (fun u => { u with keepalive := some s.time }) (fetchDone s), .done)
        else (enterLockdown .keepaliveMissed (fetchDone s), .plain .mode 0) := by
      rw [Machine.keepaliveOrder, show (fetchDone s).sup.device = .run from hdevice, show (fetchDone s).sup.keepalive = some since from hsince]
      rfl
    have hin : (!inWork s.sup.device) = false := by rw [hdevice]; rfl
    split
    · rename_i hearly
      exact accepted (exec_keepalive h) hin (horder.trans (if_pos hearly))
    · rename_i hearly
      split
      · rename_i hintime
        exact accepted (exec_keepalive h) hin (horder.trans ((if_neg hearly).trans (if_pos hintime)))
      · rename_i hlate
        exact accepted (exec_keepalive h) hin (horder.trans ((if_neg hearly).trans (if_neg hlate)))
  · exact taken_some hp (by rw [keepaliveExpired, hdevice, hsince])
  · refine taken_none ?_
    unfold keepaliveExpired
    rcases hstopped with h | h
    · cases hdevice : s.sup.device <;> simp_all
    · rw [h]
      cases s.sup.device <;> rfl
  · refine (taken_some hp (provisioningExpired_eq hsince)).trans ?_
    rfl
  · exact taken_none (by rw [provisioningExpired, hnone]; rfl)
  · refine (taken_some hp (show pulseEnded s = some _ by rw [pulseEnded, hpulse])).trans ?_
    rw [modifySup, reachTime_sup]
  · refine taken_none ?_
    unfold pulseEnded
    split
    · rename_i r hr
      exact absurd hr (hnone r)
    · rfl
  · have hentered := enterLockdown_eq cause hcanonical hbounded
    have hlocked : Canonical (locked s) :=
      ⟨hcanonical.mem, hcanonical.frames, hcanonical.jobs, hcanonical.pages, hcanonical.accounts, hcanonical.counts, hcanonical.settings⟩
    obtain ⟨more, hmore, hanswers⟩ := answers_lockdown hcanonical hbounded
    have hturn := turnOf_touches .lockdown .aborted (locked s) 16
    have hposted := fun x => postEvent_touches x (.stateChange s.sup.device .lockdown cause s.sup.cold)
    rw [← isClose_eq] at hentered hmore hanswers
    refine ⟨⟨turnOf .lockdown .aborted (locked s), more, purgedInTurn_turnOf .lockdown .aborted hlocked, hentered, hturn.at .time, hmore, hanswers⟩, ?_, fun j hj => ?_, ?_⟩
    · rw [hentered]
      exact sup_of_touches (hposted _)
    · rw [hentered, jobOf_of_touches (hposted _), jobOf_abortedOthers]
      exact free_turnOf .lockdown .aborted hlocked 16 j hj
    · rw [hentered]
      exact lockdown_keeps _ _ _ hturn

end Sys2Proof.Proofs
end

section
/-! START with the new memory size, START SERVICE, END SERVICE and RECOVER (O48). -/

namespace Sys2Proof.Machine

set_option Elab.async false

/-! ## The new memory size (R3, R150) -/

/-- The Frame Table and its size as START sets them. -/
def resized (size : Nat) (s : State) : State :=
  { updateFrames (resizeEntry (min (frameLimit s) size) size) s with
    frames := { (updateFrames (resizeEntry (min (frameLimit s) size) size) s).frames with size := some size } }

theorem setMemorySize_eq (size : Nat) (s : State) : setMemorySize size s = trimQueue size (resized size s) := rfl

/-- A frame's entry after START, before the queue's next head begins. -/
theorem frameOf_resizedState {s : State} (h : Table.wf FrameEntry.free s.frames.entries = true) (size f : Nat) :
    frameOf (resized size s) f =
      if f < min (s.frames.size.getD 4096) size then frameOf s f
      else if size ≤ f ∧ ((frameOf s f).state = .retired ∨ (frameOf s f).state = .scrubbing) then ⟨.opened, false⟩
      else ⟨(frameOf s f).state, false⟩ := by
  refine (frameOf_resized h (min (frameLimit s) size) size f).trans ?_
  unfold resizeEntry frameLimit
  by_cases hlower : f < min (s.frames.size.getD 4096) size
  · rw [if_pos hlower, if_pos hlower]
  · rw [if_neg hlower, if_neg hlower]
    by_cases hsize : size ≤ f
    · cases hstate : (frameOf s f).state <;> simp [hsize]
    · simp [hsize]

/-- The queue's head stays: the others leave and are counted. -/
theorem trimQueue_same {size : Nat} {s : State} (h : (s.scrub.queue.filter fun f => decide (f < size)).head? = s.scrub.queue.head?) :
    trimQueue size s = { s with scrub := { s.scrub with
      queue := s.scrub.queue.filter fun f => decide (f < size)
      removed := min (s.scrub.removed + (s.scrub.queue.length - (s.scrub.queue.filter fun f => decide (f < size)).length)) 65535 } } := by
  rw [trimQueue, if_pos h]
  rfl

/-- The queue's head leaves: the next that stays begins. -/
theorem trimQueue_next {size f : Nat} {q : List Nat} {s : State} (hkept : (s.scrub.queue.filter fun f => decide (f < size)) = f :: q)
    (hhead : s.scrub.queue.head? ≠ some f) :
    trimQueue size s = setFrame f ⟨.scrubbing, false⟩ { s with
      scrub := ⟨f :: q, some 0, true, s.scrub.scrubbed, min (s.scrub.removed + (s.scrub.queue.length - (f :: q).length)) 65535⟩
      port := { s.port with grant := abandonScrub s.port.grant } } := by
  rw [trimQueue, hkept, if_neg (fun h => hhead h.symm)]
  rfl

/-- An event is posted whatever the scrub queue holds. -/
theorem postEvent_withScrub (e : Event) (s : State) (x : Scrub) : postEvent e { s with scrub := x } = { postEvent e s with scrub := x } := by
  have hoccupancy : occupancy { s with scrub := x } = occupancy s := rfl
  unfold postEvent
  rw [hoccupancy]
  by_cases h : occupancy s ≥ 256
  · rw [if_pos h, if_pos h]
  · rw [if_neg h, if_neg h]
    rfl

/-- The whole queue leaves: SCRUB_IDLE is posted, how REMOVED, and both counts are 0. -/
theorem trimQueue_idle {size last : Nat} {s : State} (hkept : (s.scrub.queue.filter fun f => decide (f < size)) = [])
    (hlast : s.scrub.queue.getLast? = some last) :
    trimQueue size s =
      { postEvent (.scrubIdle s.scrub.scrubbed (min (s.scrub.removed + s.scrub.queue.length) 65535) last .removed)
          { s with port := { s.port with grant := abandonScrub s.port.grant } } with
        scrub := ⟨[], none, false, 0, 0⟩ } := by
  have hhead : ¬ ([] : List Nat).head? = s.scrub.queue.head? := fun h => by
    rw [List.head?_eq_none_iff.mp h.symm] at hlast
    cases hlast
  have hlastD : s.scrub.queue.getLastD 0 = last := by rw [List.getLastD_eq_getLast?, hlast]; rfl
  have hposted := fun x => postEvent_withScrub (.scrubIdle s.scrub.scrubbed (min (s.scrub.removed + s.scrub.queue.length) 65535) last .removed)
    { s with port := { s.port with grant := abandonScrub s.port.grant } } x
  rw [trimQueue, hkept, if_neg hhead, hlastD]
  dsimp only [nextHead, scrubIdle]
  simp only [postEvent_scrub]
  exact congrArg (fun t : State => { t with scrub := (⟨[], none, false, 0, 0⟩ : Scrub) }) (hposted _)

/-! ## The device states (R168 to R175) -/

/-- What START does after its checks and the new memory size (R170). -/
def started (period stall : Nat) (u : State) : State × Answer :=
  let t := modifySup (fun x => { x with period := period, stallSeconds := stall, cold := false, provTimer := none }) u
  if t.meter.foldReported then (enterRun t, .done)
  else (deferOrder t.orders.take .start (modifySup (fun x => { x with startWaiting := some t.orders.take }) t), .plain .pending 0)

theorem started_run {u : State} {sup : Supervision} {t : Time} (period stall : Nat) (hsup : u.sup = sup) (htime : u.time = t)
    (hdevice : sup.device = .provision) (hfold : u.meter.foldReported = true) :
    started period stall u = (postEvent (.stateChange .provision .run .start false)
      { u with sup := { sup with
        period := period, stallSeconds := stall, cold := false, provTimer := none
        device := .run, keepalive := some t, startWaiting := none } }, .done) := by
  subst hsup htime
  rw [← hdevice]
  exact if_pos hfold

theorem started_waits {u : State} {sup : Supervision} {i : Index} (period stall : Nat) (hsup : u.sup = sup) (htake : u.orders.take = i)
    (hfold : u.meter.foldReported = false) :
    started period stall u = ({ u with
      sup := { sup with period := period, stallSeconds := stall, cold := false, provTimer := none, startWaiting := some i }
      orders := { u.orders with deferred := u.orders.deferred ++ [⟨i, .start⟩] } }, .plain .pending 0) := by
  subst hsup htake
  exact if_neg (by rw [Bool.not_eq_true]; exact hfold)

/-- PROVISION is entered with a fresh window (R169). -/
theorem enterProvision_eq {u : State} (sup : Supervision) (hsup : u.sup = sup) (t : Time) (htime : u.time = t) :
    enterProvision u = { u with
      sup := { sup with device := .provision, windowCount := 0, provTimer := some t, keepalive := none }
      meter := { u.meter with foldReported := u.store.journal.isEmpty || u.meter.failed } } := by
  subst hsup htime
  rfl

theorem endServiceOrder_eq {s u : State} (hu : purgeAll .purge .done s = u) (hsup : u.sup = s.sup) (htime : u.time = s.time) :
    endServiceOrder [] s = (postEvent (.stateChange s.sup.device .provision .endService s.sup.cold)
      { u with
        sup := { s.sup with device := .provision, windowCount := 0, provTimer := some s.time, keepalive := none }
        meter := { u.meter with foldReported := u.store.journal.isEmpty || u.meter.failed } }, .done) := by
  rw [endServiceOrder, hu, enterProvision_eq s.sup hsup s.time htime]
  rfl

end Sys2Proof.Machine

namespace Sys2Proof.Proofs

open Sys2Proof.Machine

/-- Settles O48: the memory size by what becomes of the queue's head, and the orders by their checks. -/
theorem deviceStateOrders : Obligations.DeviceStateOrders := by
  unfold Obligations.DeviceStateOrders
  intro s
  refine ⟨fun size hwf => ?_, fun size period stall h hdevice => ?_, fun h hdevice => ?_, fun h hdevice hcanonical hbounded => ?_, fun h hdevice => ?_⟩
  · have hentry := frameOf_resizedState hwf size
    generalize hkept : (s.scrub.queue.filter fun f => decide (f < size)) = kept
    by_cases hsame : kept.head? = s.scrub.queue.head?
    · refine ⟨(resized size s).frames, rfl, fun f => ?_, fun _ => ?_, fun f q hcons hhead => ?_, fun last hnil hlast => ?_⟩
      · rw [if_neg (fun h => h.2 (hsame ▸ h.1))]
        exact hentry f
      · subst hkept
        exact trimQueue_same (s := resized size s) hsame
      · rw [hcons] at hsame
        exact absurd hsame.symm hhead
      · rw [hnil] at hsame
        rw [List.head?_eq_none_iff.mp hsame.symm] at hlast
        cases hlast
    · cases kept with
      | nil =>
        refine ⟨(resized size s).frames, rfl, fun f => ?_, fun h => absurd h hsame, nofun, fun last _ hlast => ?_⟩
        · rw [if_neg (fun h => by cases h.1)]
          exact hentry f
        · exact trimQueue_idle (s := resized size s) hkept hlast
      | cons f q =>
        refine ⟨(setFrame f ⟨.scrubbing, false⟩ (resized size s)).frames, rfl, fun k => ?_, fun h => absurd h hsame, fun f' q' hcons hhead => ?_, nofun⟩
        · refine (frameOf_setFrame (resized size s) f k ⟨.scrubbing, false⟩).trans ?_
          by_cases hk : f = k
          · rw [if_pos hk, if_pos ⟨congrArg some hk, fun h => hsame (hk ▸ h.symm)⟩]
          · rw [if_neg hk, if_neg (fun h => hk (Option.some.inj h.1))]
            exact hentry k
        · obtain ⟨rfl, rfl⟩ := List.cons.inj hcons
          exact trimQueue_next (s := resized size s) hkept hhead
  · have hx := exec_start h
    rw [hdevice, checked_cons, if_neg (by decide), checked_nil, startOrder] at hx
    refine refused_or_rest hx (by simp [arg]) fun _ hx => ?_
    refine refused_or_rest hx (by simp [arg, or_assoc]) fun _ hx => ?_
    refine refused_or_rest hx (by simp [arg]) fun _ hx => ?_
    refine refused_or_rest hx Iff.rfl fun _ hx => ?_
    refine refused_or_rest hx (by rw [Bool.and_eq_true, Bool.not_eq_true', decide_eq_true_iff]; rfl) fun _ hx => ?_
    have hsized := setMemorySize_touches (fetchDone s) size
    have hsup : (setMemorySize size (fetchDone s)).sup = s.sup := sup_of_touches (s := fetchDone s) hsized
    have htime : (setMemorySize size (fetchDone s)).time = s.time := hsized.at .time
    have htake : (setMemorySize size (fetchDone s)).orders.take = s.orders.take := hsized.at .take
    have hreport : (setMemorySize size (fetchDone s)).meter.foldReported = s.meter.foldReported := hsized.at .foldReported
    have hsize : (setMemorySize size (fetchDone s)).frames.size = some size := (trimQueue_touches (resized size (fetchDone s)) size).at .size
    rw [checked_nil] at hx
    change exec .start s = .next (closeTake (answerAndAdvance (started period stall (setMemorySize size (fetchDone s))))) at hx
    refine ⟨hsize, fun hfold => ?_, fun hfold => ?_⟩
    · rw [hx, started_run period stall hsup htime hdevice (hreport.trans hfold)]
      rfl
    · rw [hx, started_waits period stall hsup htake (hreport.trans hfold)]
      rfl
  · have hx := exec_startService h
    rw [hdevice, checked_cons, if_neg (by decide), checked_nil, startServiceOrder] at hx
    refine refused_or_rest hx (by simp) fun _ hx => ?_
    rw [hx, checked_nil, show (fetchDone s).sup.device = .provision from hdevice]
    rfl
  · have hfetched : Canonical (fetchDone s) := (fetchDone_touches s).canonical hcanonical
    have hfetchedBounded : Bounded (fetchDone s) := ⟨hbounded.guard, hbounded.deferred, hbounded.closes⟩
    have hturn := turnOf_touches .purge .done (fetchDone s) 16
    obtain ⟨more, hmore, hanswers⟩ := queued_turnOf .purge .done hfetched hfetchedBounded
    have hdeferred := deferred_turnOf .purge .done hfetched hfetchedBounded
    rw [← isClose_eq] at hanswers hdeferred
    refine ⟨turnOf .purge .done (fetchDone s), more, purgedInTurn_turnOf .purge .done hfetched, free_turnOf .purge .done hfetched 16,
      sup_of_touches (s := fetchDone s) hturn, hturn.at .time, hturn.at .take, hdeferred, hmore, hanswers, ?_⟩
    refine accepted (exec_endService h) (by rw [hdevice]; rfl) ?_
    rw [endServiceOrder_eq rfl (sup_of_touches hturn) (hturn.at .time), show (fetchDone s).sup.device = .service from hdevice]
    rfl
  · refine accepted (exec_recover h) (by rw [hdevice]; rfl) ?_
    rw [Machine.recoverOrder, show (fetchDone s).sup.device = .lockdown from hdevice]
    rfl

end Sys2Proof.Proofs
end

section
/-! DEFINE PAGE: its checks plane by plane, the record that it sets and the frames that it marks (O32). -/

namespace Sys2Proof.Machine

set_option Elab.async false

/-! ## Checks on the present planes in the order K, C, M, Y (R59) -/

/-- A page's present planes, each with the number of its start parameter and its start. -/
def Page.planeStarts (p : Page) : List (Nat × Nat) := (planesOf p.colour).map fun n => (7 + n.val, p.starts.get n)

/-- The first plane that fails its check refuses the order; where none fails the other checks decide. -/
theorem checked_planes (planes : List Plane) (code : Code) (bad : Plane → Bool) (rest : List (Bool × Answer)) (s : State)
    (act : State → State × Answer) :
    checked ((planes.map fun n => (bad n, .plain code (7 + n.val))) ++ rest) s act =
      (planes.find? bad).elim (checked rest s act) fun n => (s, .plain code (7 + n.val)) := by
  induction planes with
  | nil => rfl
  | cons n planes ih =>
    rw [List.map_cons, List.cons_append, checked_cons]
    cases hbad : bad n with
    | true => rw [List.find?_cons_of_pos hbad]; rfl
    | false => rw [List.find?_cons_of_neg (by simp [hbad]), if_neg Bool.false_ne_true, ih]

section
variable {p : Page} {code : Code} {bad : Plane → Bool} {test : Nat × Nat → Bool} {checks : List (Bool × Answer)} {s : State}
  {act : State → State × Answer} {x : Result}

theorem find_planeStarts (ht : ∀ n ∈ planesOf p.colour, test (7 + n.val, p.starts.get n) = bad n) :
    p.planeStarts.find? test = ((planesOf p.colour).find? bad).map fun n => (7 + n.val, p.starts.get n) := by
  rw [Page.planeStarts, List.find?_map]
  congr 1
  exact List.find?_congr fun n hn => ht n hn

/-- The plane checks where one fails. -/
theorem planes_refuse (hx : x = .next (closeTake (answerAndAdvance (checked (planeChecks p code bad ++ checks) (fetchDone s) act))))
    (ht : ∀ n ∈ planesOf p.colour, test (7 + n.val, p.starts.get n) = bad n) {q : Nat × Nat} (hq : p.planeStarts.find? test = some q) :
    x = .next (refusedWith s code q.1) := by
  rw [find_planeStarts ht] at hq
  obtain ⟨n, hn, rfl⟩ := Option.map_eq_some_iff.mp hq
  rw [planeChecks, checked_planes, hn] at hx
  exact hx

/-- The plane checks where none fails. -/
theorem planes_pass (hx : x = .next (closeTake (answerAndAdvance (checked (planeChecks p code bad ++ checks) (fetchDone s) act))))
    (ht : ∀ n ∈ planesOf p.colour, test (7 + n.val, p.starts.get n) = bad n) (hq : p.planeStarts.find? test = none) :
    x = .next (closeTake (answerAndAdvance (checked checks (fetchDone s) act))) := by
  rw [find_planeStarts ht, Option.map_eq_none_iff] at hq
  rw [planeChecks, checked_planes, hq] at hx
  exact hx

end

/-! ## The frames of the page (R60) -/

/-- A frame's entry, its page slot set where it is BOUND. -/
def FrameEntry.marked (slot : Nat) (e : FrameEntry) : FrameEntry :=
  match e.binding with
  | some b => ⟨.bound { b with page := some slot }, e.noted⟩
  | none => e

theorem FrameEntry.marked_marked (slot : Nat) (e : FrameEntry) : (e.marked slot).marked slot = e.marked slot := by
  obtain ⟨st, noted⟩ := e
  cases st <;> rfl

theorem frameOf_markFrame (slot : Nat) (s : State) (f k : Nat) :
    frameOf (markFrame slot s f) k = if k = f then (frameOf s k).marked slot else frameOf s k := by
  by_cases hk : k = f
  · subst hk
    rw [if_pos rfl]
    unfold markFrame FrameEntry.marked FrameEntry.binding
    cases hstate : (frameOf s k).state with
    | bound b => rw [frameOf_setFrame, if_pos rfl]
    | _ => rfl
  · rw [if_neg hk]
    unfold markFrame
    split
    · rw [frameOf_setFrame, if_neg (Ne.symm hk)]
    · rfl

theorem frameOf_marks (slot : Nat) (l : List Nat) (s : State) (k : Nat) :
    frameOf (l.foldl (markFrame slot) s) k = if k ∈ l then (frameOf s k).marked slot else frameOf s k := by
  induction l generalizing s with
  | nil => simp
  | cons f l ih =>
    rw [List.foldl_cons, ih, frameOf_markFrame]
    by_cases hl : k ∈ l <;> by_cases hk : k = f <;> simp [hl, hk, FrameEntry.marked_marked]

theorem markFrame_eq (slot : Nat) (s : State) (f : Nat) : markFrame slot s f = { s with frames := (markFrame slot s f).frames } := by
  unfold markFrame
  split <;> rfl

/-- Marking changes the Frame Table alone, and not its size. -/
theorem marks_eq (slot : Nat) (l : List Nat) (s : State) :
    l.foldl (markFrame slot) s = { s with frames := (l.foldl (markFrame slot) s).frames } ∧
      (l.foldl (markFrame slot) s).frames.size = s.frames.size := by
  induction l generalizing s with
  | nil => exact ⟨rfl, rfl⟩
  | cons f l ih =>
    obtain ⟨hrest, hsize⟩ := ih (markFrame slot s f)
    have hone := markFrame_eq slot s f
    refine ⟨?_, hsize.trans ?_⟩
    · rw [List.foldl_cons, hrest]
      rw [hone]
    · unfold markFrame
      split <;> rfl

/-! ## The FREE record (R60) -/

theorem freePage_none {s : State} : freePage s = none ↔ ∀ slot, slot < 32 → pageOf s slot ≠ none := by
  simp [freePage, List.find?_eq_none]

theorem freePage_lowest {s : State} {slot : Nat} (hlt : slot < 32) (hfree : pageOf s slot = none) (hbelow : ∀ i, i < slot → pageOf s i ≠ none) :
    freePage s = some slot := by
  rw [freePage, List.find?_range_eq_some]
  exact ⟨by simp [hfree], List.mem_range.mpr hlt, fun i hi => by simpa using Option.isSome_iff_ne_none.mpr (hbelow i hi)⟩

/-- An extent ends beyond the memory size exactly when its last byte's frame is not below it. -/
theorem beyond_eq {limit start len : Nat} (h : 0 < len) : decide (limit * frameSize < start + len) = decide (limit ≤ (start + len - 1) / frameSize) := by
  have hframe : 0 < frameSize := by decide
  rw [decide_eq_decide, Nat.le_div_iff_mul_le hframe]
  omega

theorem planeOfCode_isNone (n : Nat) : (planeOfCode n).isNone = true ↔ 3 < n := by
  unfold planeOfCode
  split <;> simp <;> omega

theorem ofCode_isNone (n : Nat) : (Colour.ofCode n).isNone = true ↔ 1 < n := by
  match n with
  | 0 => decide
  | 1 => decide
  | n + 2 => simp [Colour.ofCode]

theorem exec_definePage {ps : List Nat} {s : State} (h : OrderReady 7 ps s) :
    exec .definePage s =
      .next (closeTake (answerAndAdvance (checked [(!inWork s.sup.device, .plain .mode 0)] (fetchDone s) (definePageOrder ps)))) :=
  h.taken_eq inWork definePageOrder

end Sys2Proof.Machine

namespace Sys2Proof.Proofs

open Sys2Proof.Machine

/-- Settles O32: the checks of R59 in their order, then the lowest FREE record and the marks. -/
theorem definePageOrder : Obligations.DefinePageOrder := by
  unfold Obligations.DefinePageOrder
  intro s j g number sizeClass colour pixels k c m y h
  refine refused_or_rest (exec_definePage h) (not_inWork_iff _) fun _ hx => ?_
  rw [checked_nil, Machine.definePageOrder] at hx
  intro len planes frames
  generalize hpage : definedPage [j, g, number, sizeClass, colour, pixels, k, c, m, y] _ _ = p at hx
  unfold defineChecks at hx
  simp only [List.append_assoc, List.cons_append, List.nil_append] at hx
  refine refused_or_rest hx (by simp [arg]) fun _ hx => ?_
  refine refused_or_rest hx (planeOfCode_isNone sizeClass) fun hclass hx => ?_
  refine refused_or_rest hx (ofCode_isNone colour) fun hcolour hx => ?_
  refine refused_or_rest hx (by simp [arg]) fun hpixels hx => ?_
  have hlength : p.length = len := by subst hpage; rfl
  have hpositive : 0 < len := by omega
  have hcode : p.colour.code = colour := by
    subst hpage
    obtain rfl | rfl : colour = 0 ∨ colour = 1 := by omega
    all_goals rfl
  have hstarts : p.starts = if colour = 0 then ⟨k, 0, 0, 0⟩ else ⟨k, c, m, y⟩ := by
    subst hpage
    obtain rfl | rfl : colour = 0 ∨ colour = 1 := by omega
    all_goals rfl
  have hplanes : planes = p.planeStarts := by
    subst hpage
    obtain rfl | rfl : colour = 0 ∨ colour = 1 := by omega
    all_goals rfl
  clear_value planes
  subst hplanes
  have hrange : ∀ n ∈ planesOf p.colour,
      (decide (4294967296 < p.starts.get n + len) || decide (frameLimit s * frameSize < p.starts.get n + len)) =
        (decide (4294967296 < p.starts.get n + p.length) || decide (frameLimit s ≤ (p.starts.get n + p.length - 1) / frameSize)) := fun n _ => by
    rw [hlength, beyond_eq hpositive]
  have hbound : ∀ n ∈ planesOf p.colour, ((frames (p.starts.get n)).any fun f => (boundTo j (frameOf s f)).isNone) =
      (planeFrames p n).any fun f => (boundTo j (frameOf s f)).isNone := fun n _ => by
    rw [planeFrames, hlength]
  have hmarked : ∀ n ∈ planesOf p.colour, ((frames (p.starts.get n)).any fun f => ((boundTo j (frameOf s f)).bind (·.page)).isSome) =
      (planeFrames p n).any fun f => ((boundTo j (frameOf s f)).bind (·.page)).isSome := fun n _ => by
    rw [planeFrames, hlength]
  have hmeet : ∀ n ∈ planesOf p.colour, (p.planeStarts.any fun e => decide (e.1 < 7 + n.val) && extentsMeet e.2 (p.starts.get n) len) =
      ((planesOf p.colour).filter fun i => decide (i < n)).any fun i => extentsMeet (p.starts.get i) (p.starts.get n) p.length := fun n _ => by
    simp [Page.planeStarts, List.any_map, List.any_filter, hlength, Function.comp_def]
  split
  · rename_i q hq
    exact planes_refuse hx hrange hq
  rename_i hq
  have hx := planes_pass hx hrange hq
  refine refused_or_rest hx (staleGeneration_iff ..) fun _ hx => ?_
  refine refused_or_rest hx (by simp [arg]) fun _ hx => ?_
  split
  · rename_i q hq
    exact planes_refuse hx hbound hq
  rename_i hq
  have hx := planes_pass hx hbound hq
  split
  · rename_i q hq
    exact planes_refuse hx hmarked hq
  rename_i hq
  have hx := planes_pass hx hmarked hq
  split
  · rename_i q hq
    exact planes_refuse hx hmeet hq
  rename_i hq
  have hx := planes_pass hx hmeet hq
  rw [checked_cons, checked_nil] at hx
  refine ⟨fun hfull => ?_, fun slot hlt hfree hbelow => ?_⟩
  · rw [hx, freePage_none (s := fetchDone s) |>.mpr hfull]
    rfl
  · have hslot : freePage (fetchDone s) = some slot := freePage_lowest hlt hfree hbelow
    rw [hslot] at hx
    obtain ⟨hstate, hsize⟩ := marks_eq slot p.frames (setPage slot (some p) (fetchDone s))
    refine ⟨p, (p.frames.foldl (markFrame slot) (setPage slot (some p) (fetchDone s))).frames, by rw [← hpage]; rfl, by rw [← hpage]; rfl, by rw [← hpage]; rfl, by rw [← hpage]; rfl, ?_, hcode, by rw [← hpage]; rfl,
      hstarts, by rw [← hpage]; rfl, by rw [← hpage]; rfl, by rw [← hpage]; rfl, hsize, fun f => ?_,
      hx.trans (congrArg (fun u => Host.Outcome.next (closeTake (answerAndAdvance (u, Answer.doneWith (leBytes 1 slot))))) hstate)⟩
    · rw [← hpage]
      show ((planeOfCode sizeClass).getD 0).val = sizeClass
      rw [planeOfCode, dif_pos (by omega)]
      rfl
    · refine (frameOf_marks slot p.frames (setPage slot (some p) (fetchDone s)) f).trans ?_
      have hmem : (p.planeStarts.any fun q => decide (f ∈ frames q.2)) = decide (f ∈ p.frames) := by
        rw [Page.planeStarts, Page.frames, List.any_map, hlength]
        simp [Function.comp_def, List.mem_flatMap, List.any_eq] <;> rfl
      rw [hmem]
      show (if f ∈ p.frames then (frameOf s f).marked slot else frameOf s f) = _
      unfold FrameEntry.marked
      cases hbinding : (frameOf s f).binding <;> simp

end Sys2Proof.Proofs
end

section
/-! METERED reads: the level sums, and a print read served plane by plane (O18). -/

namespace Sys2Proof.Machine

set_option Elab.async false

/-! ## Level sums (R83, R84) -/

theorem levelSum_eq {k : Nat} (hk : k ≤ 4) (b : Byte) : levelSum k b = ((List.range 4).map fun i => if i < k then pixelLevel b i else 0).sum := by
  interval_cases k <;> simp [levelSum, List.range_succ]

theorem lt_pagePixels {pixels offset i : Nat} (hi : i < 4) (hoffset : offset + 1 ≤ planeLength pixels) :
    i < pagePixels pixels offset ↔ 4 * offset + i < pixels := by
  unfold pagePixels planeLength at *
  split <;> omega

/-- What counted bytes add is the levels of the page's pixels in them. -/
theorem countedSum_eq (pixels : Nat) (bytes : List Byte) : ∀ offset, offset + bytes.length ≤ planeLength pixels →
    countedSum pixels offset bytes = ((List.range (4 * bytes.length)).map fun i =>
      if 4 * offset + i < pixels then (bytes.getD (i / 4) 0).toNat / 4 ^ (3 - i % 4) % 4 else 0).sum := by
  induction bytes with
  | nil => intro _ _; rfl
  | cons b bytes ih =>
    intro offset hfits
    rw [List.length_cons] at hfits ⊢
    have hfull : pagePixels pixels offset ≤ 4 := by unfold pagePixels; split <;> omega
    have hfirst : levelSum (pagePixels pixels offset) b =
        ((List.range 4).map fun i => if 4 * offset + i < pixels then ((b :: bytes).getD (i / 4) 0).toNat / 4 ^ (3 - i % 4) % 4 else 0).sum := by
      rw [levelSum_eq hfull]
      congr 1
      refine List.map_congr_left fun i hi => ?_
      have hi : i < 4 := List.mem_range.mp hi
      rw [Nat.div_eq_of_lt hi, Nat.mod_eq_of_lt hi]
      simp only [lt_pagePixels hi (show offset + 1 ≤ planeLength pixels by omega)]
      rfl
    have hrest : ∀ i, (if 4 * (offset + 1) + i < pixels then (bytes.getD (i / 4) 0).toNat / 4 ^ (3 - i % 4) % 4 else 0) =
        if 4 * offset + (4 + i) < pixels then ((b :: bytes).getD ((4 + i) / 4) 0).toNat / 4 ^ (3 - (4 + i) % 4) % 4 else 0 := fun i => by
      rw [show 4 * offset + (4 + i) = 4 * (offset + 1) + i by omega, show (4 + i) / 4 = i / 4 + 1 by omega, Nat.add_mod_left, List.getD_cons_succ]
    rw [countedSum, ih (offset + 1) (by omega), hfirst, show 4 * (bytes.length + 1) = 4 + 4 * bytes.length by omega, List.range_add, List.map_append,
      List.sum_append, List.map_map]
    congr 2
    exact List.map_congr_left fun i _ => hrest i

/-! ## The portion of a plane (R70) -/

/-- The first byte of a plane's portion, as an offset. -/
def Page.lower (p : Page) (lo : Nat) (n : Plane) : Nat := max lo (p.starts.get n) - p.starts.get n

/-- The end of a plane's portion, as an offset. -/
def Page.upper (p : Page) (hi : Nat) (n : Plane) : Nat := min hi (p.starts.get n + (p.pixels + 3) / 4) - p.starts.get n

/-- A plane of the page has a byte of the read. -/
def Page.meets (p : Page) (lo hi : Nat) (n : Plane) : Prop :=
  (n = 0 ∨ p.colour = .colour) ∧ max lo (p.starts.get n) < min hi (p.starts.get n + (p.pixels + 3) / 4)

/-- The read straddles the plane's high-water (R71). -/
def Page.raises (p : Page) (lo hi : Nat) (n : Plane) : Prop :=
  p.meets lo hi n ∧ p.lower lo n ≤ p.highWater.get n ∧ p.highWater.get n < p.upper hi n

/-- The read leaves a gap above the plane's high-water (R72). -/
def Page.gaps (p : Page) (lo hi : Nat) (n : Plane) : Prop := p.meets lo hi n ∧ p.highWater.get n < p.lower lo n

theorem portion_of_meets {p : Page} {lo hi : Nat} {n : Plane} (h : p.meets lo hi n) : portion p n lo hi = some (p.lower lo n, p.upper hi n) := if_pos h.2

theorem portion_of_not_meets {p : Page} {lo hi : Nat} {n : Plane} (hn : n ∈ planesOf p.colour) (h : ¬ p.meets lo hi n) : portion p n lo hi = none :=
  if_neg fun hlt => h ⟨(mem_planesOf_iff _ _).mp hn, hlt⟩

theorem Page.meets.mem {p : Page} {lo hi : Nat} {n : Plane} (h : p.meets lo hi n) : n ∈ planesOf p.colour := (mem_planesOf_iff _ _).mpr h.1

theorem touches_iff (p : Page) (lo hi : Nat) : p.touches lo hi = true ↔ ∃ n, p.meets lo hi n := by
  rw [Page.touches, List.any_eq_true]
  constructor
  · rintro ⟨n, hn, hsome⟩
    by_contra hnone
    rw [portion_of_not_meets hn fun h => hnone ⟨n, h⟩] at hsome
    cases hsome
  · rintro ⟨n, h⟩
    exact ⟨n, h.mem, by rw [portion_of_meets h]; rfl⟩

/-! ## One plane (R70 to R74) -/

section
variable {slot lo : Nat} {plain : List Byte} {s : State} {p : Page} {n : Plane}

theorem servePlane_raises (hpage : pageOf s slot = some p) (h : p.raises lo (lo + plain.length) n) :
    servePlane slot lo plain s n = setPage slot (some (straddle p n (p.upper (lo + plain.length) n)
      ((plain.drop (p.starts.get n + p.highWater.get n - lo)).take (p.upper (lo + plain.length) n - p.highWater.get n)) s.time)) s := by
  obtain ⟨hmeets, hlower, hupper⟩ := h
  rw [servePlane, hpage]
  dsimp only
  rw [portion_of_meets hmeets]
  dsimp only
  rw [if_neg (by omega), if_neg (by omega)]

theorem servePlane_gaps (hpage : pageOf s slot = some p) (h : p.gaps lo (lo + plain.length) n) :
    servePlane slot lo plain s n = noteGap slot p n (p.lower lo n) s := by
  obtain ⟨hmeets, hlower⟩ := h
  have hlt : p.lower lo n < p.upper (lo + plain.length) n := by
    obtain ⟨-, hlt⟩ := hmeets
    unfold Page.lower Page.upper
    omega
  rw [servePlane, hpage]
  dsimp only
  rw [portion_of_meets hmeets]
  dsimp only
  rw [if_neg (by omega), if_pos hlower]

theorem servePlane_same (hpage : pageOf s slot = some p) (hn : n ∈ planesOf p.colour) (hraises : ¬ p.raises lo (lo + plain.length) n)
    (hgaps : ¬ p.gaps lo (lo + plain.length) n) : servePlane slot lo plain s n = s := by
  rw [servePlane, hpage]
  dsimp only
  by_cases hmeets : p.meets lo (lo + plain.length) n
  · rw [portion_of_meets hmeets]
    dsimp only
    have hlower : ¬ p.highWater.get n < p.lower lo n := fun h => hgaps ⟨hmeets, h⟩
    rw [if_pos (by by_contra h; exact hraises ⟨hmeets, by omega, by omega⟩)]
  · rw [portion_of_not_meets hn hmeets]

end

/-! ## The page's record after some of its planes (R71 to R74) -/

theorem progressed_progressed (now : Time) (st : PageState) : (st.progressed now).progressed now = st.progressed now := by
  cases st <;> rfl

theorem Page.gaps.not_raises {p : Page} {lo hi : Nat} {n : Plane} (h : p.gaps lo hi n) : ¬ p.raises lo hi n := fun hraises => by
  obtain ⟨-, hgap⟩ := h
  obtain ⟨-, hlower, -⟩ := hraises
  omega

/-- The bytes that a straddle counts (R71). -/
def Page.countedBytes (p : Page) (lo : Nat) (plain : List Byte) (n : Plane) : List Byte :=
  (plain.drop (p.starts.get n + p.highWater.get n - lo)).take (p.upper (lo + plain.length) n - p.highWater.get n)

/-- A page's record after the planes `l` of a read have been served. -/
structure Progressed (lo : Nat) (plain : List Byte) (now : Time) (q : Page) (l : List Plane) (r : Page) : Prop where
  rest : r = { q with state := r.state, highWater := r.highWater, gapPosted := r.gapPosted, sums := r.sums }
  raised : ∀ n, n ∈ l → q.raises lo (lo + plain.length) n → r.highWater.get n = q.upper (lo + plain.length) n
  waterKept : ∀ n, (n ∈ l → ¬ q.raises lo (lo + plain.length) n) → r.highWater.get n = q.highWater.get n
  counted : ∀ n, n ∈ l → q.raises lo (lo + plain.length) n → q.isPrinting = true →
    r.sums.get n = q.sums.get n + countedSum q.pixels (q.highWater.get n) (q.countedBytes lo plain n)
  sumsKept : ∀ n, (n ∈ l → ¬ q.raises lo (lo + plain.length) n) ∨ q.isPrinting = false → r.sums.get n = q.sums.get n
  progressed : (∃ n, n ∈ l ∧ q.raises lo (lo + plain.length) n) → r.state = q.state.progressed now
  stateKept : (∀ n, n ∈ l → ¬ q.raises lo (lo + plain.length) n) → r.state = q.state
  gap : r.gapPosted = true ↔ q.gapPosted = true ∨ ∃ n, n ∈ l ∧ q.gaps lo (lo + plain.length) n

section
variable {lo : Nat} {plain : List Byte} {now : Time} {q r : Page} {l : List Plane} {n : Plane}

theorem Progressed.start (lo : Nat) (plain : List Byte) (now : Time) (q : Page) : Progressed lo plain now q [] q :=
  { rest := rfl
    raised := nofun
    waterKept := fun _ _ => rfl
    counted := nofun
    sumsKept := fun _ _ => rfl
    progressed := nofun
    stateKept := fun _ => rfl
    gap := by simp }

theorem Progressed.state_cases (h : Progressed lo plain now q l r) : r.state = q.state ∨ r.state = q.state.progressed now := by
  by_cases hany : ∃ n, n ∈ l ∧ q.raises lo (lo + plain.length) n
  · exact .inr (h.progressed hany)
  · exact .inl (h.stateKept fun n hn hr => hany ⟨n, hn, hr⟩)

theorem Progressed.isPrinting (h : Progressed lo plain now q l r) : r.isPrinting = q.isPrinting := by
  unfold Page.isPrinting
  rcases h.state_cases with hr | hr <;> rw [hr] <;> cases q.state <;> rfl

theorem Progressed.inPrint (h : Progressed lo plain now q l r) : r.inPrint = q.inPrint := by
  unfold Page.inPrint
  rcases h.state_cases with hr | hr <;> rw [hr] <;> cases q.state <;> rfl

theorem Progressed.colour (h : Progressed lo plain now q l r) : r.colour = q.colour := by rw [h.rest]
theorem Progressed.pixels (h : Progressed lo plain now q l r) : r.pixels = q.pixels := by rw [h.rest]
theorem Progressed.starts (h : Progressed lo plain now q l r) : r.starts = q.starts := by rw [h.rest]

/-- A plane still to be served stands as it stood before the read. -/
theorem Progressed.raises_iff (h : Progressed lo plain now q l r) (hn : n ∉ l) (hi : Nat) : r.raises lo hi n ↔ q.raises lo hi n := by
  unfold Page.raises Page.meets Page.lower Page.upper
  rw [h.colour, h.pixels, h.starts, h.waterKept n fun hmem => absurd hmem hn]

theorem Progressed.gaps_iff (h : Progressed lo plain now q l r) (hn : n ∉ l) (hi : Nat) : r.gaps lo hi n ↔ q.gaps lo hi n := by
  unfold Page.gaps Page.meets Page.lower
  rw [h.colour, h.pixels, h.starts, h.waterKept n fun hmem => absurd hmem hn]

/-- A plane without a byte to serve, or below its high-water. -/
theorem Progressed.same (h : Progressed lo plain now q l r) (hraises : ¬ q.raises lo (lo + plain.length) n) (hgaps : ¬ q.gaps lo (lo + plain.length) n) :
    Progressed lo plain now q (l ++ [n]) r := by
  have hmem : ∀ m, q.raises lo (lo + plain.length) m → (m ∈ l ++ [n] ↔ m ∈ l) := fun m hm => by
    have : m ≠ n := fun heq => hraises (heq ▸ hm)
    simp [this]
  refine ⟨h.rest, fun m hm hr => h.raised m ((hmem m hr).mp hm) hr, fun m hm => h.waterKept m fun hl hr => hm (List.mem_append_left _ hl) hr,
    fun m hm hr => h.counted m ((hmem m hr).mp hm) hr, fun m hm => h.sumsKept m (hm.imp_left fun hm hl hr => hm (List.mem_append_left _ hl) hr),
    fun ⟨m, hm, hr⟩ => h.progressed ⟨m, (hmem m hr).mp hm, hr⟩, fun hm => h.stateKept fun m hl => hm m (List.mem_append_left _ hl), ?_⟩
  rw [h.gap]
  have hgap : ∀ m, q.gaps lo (lo + plain.length) m → (m ∈ l ++ [n] ↔ m ∈ l) := fun m hm => by
    have : m ≠ n := fun heq => hgaps (heq ▸ hm)
    simp [this]
  exact or_congr_right (exists_congr fun m => and_congr_left fun hm => (hgap m hm).symm)

/-- A plane with a gap. -/
theorem Progressed.gapped (h : Progressed lo plain now q l r) (hgaps : q.gaps lo (lo + plain.length) n) :
    Progressed lo plain now q (l ++ [n]) { r with gapPosted := true } := by
  have hmem : ∀ m, q.raises lo (lo + plain.length) m → (m ∈ l ++ [n] ↔ m ∈ l) := fun m hm => by
    have : m ≠ n := fun heq => hgaps.not_raises (heq ▸ hm)
    simp [this]
  have hrest := h.rest
  refine ⟨by rw [hrest], fun m hm hr => h.raised m ((hmem m hr).mp hm) hr, fun m hm => h.waterKept m fun hl hr => hm (List.mem_append_left _ hl) hr,
    fun m hm hr => h.counted m ((hmem m hr).mp hm) hr, fun m hm => h.sumsKept m (hm.imp_left fun hm hl hr => hm (List.mem_append_left _ hl) hr),
    fun ⟨m, hm, hr⟩ => h.progressed ⟨m, (hmem m hr).mp hm, hr⟩, fun hm => h.stateKept fun m hl => hm m (List.mem_append_left _ hl), ?_⟩
  exact iff_of_true rfl (.inr ⟨n, by simp, hgaps⟩)

/-- A plane whose high-water the read straddles. -/
theorem Progressed.straddled (h : Progressed lo plain now q l r) (hn : n ∉ l) (hraises : q.raises lo (lo + plain.length) n) :
    Progressed lo plain now q (l ++ [n]) (straddle r n (q.upper (lo + plain.length) n) (q.countedBytes lo plain n) now) := by
  have hwater := h.waterKept n fun hmem => absurd hmem hn
  have hsums := h.sumsKept n (.inl fun hmem => absurd hmem hn)
  have hkept : ∀ m, m ≠ n → m ∈ l ++ [n] → m ∈ l := fun m hm hmem => by simpa [hm] using hmem
  refine ⟨?_, fun m hm hr => ?_, fun m hm => ?_, fun m hm hr hp => ?_, fun m hm => ?_, fun _ => ?_, fun hm => absurd hraises (hm n (by simp)), ?_⟩
  · rw [straddle, h.rest]
  · rw [straddle, Quad.get_set]
    split
    · rename_i heq
      rw [heq]
    · rename_i hne
      exact h.raised m (hkept m (Ne.symm hne) hm) hr
  · have hne : n ≠ m := fun heq => hm (by simp [heq]) (heq ▸ hraises)
    rw [straddle, Quad.get_set, if_neg hne]
    exact h.waterKept m fun hl => hm (List.mem_append_left _ hl)
  · rw [straddle, Quad.get_set, h.isPrinting, if_pos hp, h.pixels, hwater, hsums]
    split
    · rename_i heq
      rw [heq]
    · rename_i hne
      exact h.counted m (hkept m (Ne.symm hne) hm) hr hp
  · rw [straddle, Quad.get_set, h.isPrinting]
    split
    · rename_i heq
      rcases hm with hm | hp
      · exact absurd (heq ▸ hraises) (hm (by simp [heq]))
      · rw [hp, if_neg Bool.false_ne_true, hsums, heq]
        rfl
    · exact h.sumsKept m (hm.imp_left fun hm hl => hm (List.mem_append_left _ hl))
  · rw [straddle]
    rcases h.state_cases with hr | hr <;> rw [hr]
    exact progressed_progressed ..
  · refine h.gap.trans (or_congr_right (exists_congr fun m => and_congr_left fun hm => ?_))
    have hne : m ≠ n := fun heq => (heq ▸ hm : q.gaps _ _ n).not_raises hraises
    simp [hne]

end

/-! ## The planes of a read in turn (R70 to R74) -/

/-- An event that may be posted. -/
def told (e : Option Event) (s : State) : State := e.elim s fun x => postEvent x s

/-- An event is posted whatever the Page Table holds. -/
theorem told_setPages (e : Option Event) (s : State) (x : Table (Option Page)) : told e { s with pages := x } = { told e s with pages := x } := by
  cases e with
  | none => rfl
  | some e =>
    have hoccupancy : occupancy { s with pages := x } = occupancy s := rfl
    show postEvent e { s with pages := x } = { postEvent e s with pages := x }
    unfold postEvent
    rw [hoccupancy]
    by_cases h : occupancy s ≥ 256
    · rw [if_pos h, if_pos h]
    · rw [if_neg h, if_neg h]
      rfl

theorem told_time (e : Option Event) (s : State) : (told e s).time = s.time := by
  cases e with
  | none => rfl
  | some e => exact (postEvent_touches s e).at .time

/-- The PAGE_GAP of a plane (R72). -/
def gapEvent (slot lo : Nat) (q : Page) (n : Plane) : Event := .pageGap slot q.job q.number n (q.highWater.get n) (q.lower lo n)

/-- The event of the planes `l`: the PAGE_GAP of the first that has a gap, where none had been posted for the page. -/
structure FirstGap (slot lo hi : Nat) (q : Page) (l : List Plane) (e : Option Event) : Prop where
  silent : (q.gapPosted = true ∨ ∀ n, n ∈ l → ¬ q.gaps lo hi n) → e = none
  first : ∀ n, n ∈ l → q.gaps lo hi n → (∀ m, m ∈ l → m < n → ¬ q.gaps lo hi m) → q.gapPosted = false → e = some (gapEvent slot lo q n)

/-- The state after the planes `l` of a read from the state `t`. -/
structure Served (slot lo : Nat) (plain : List Byte) (t : State) (q : Page) (l : List Plane) (r : Page) (u : State) : Prop where
  progressed : Progressed lo plain t.time q l r
  told : ∃ (pages : Table (Option Page)) (e : Option Event), u = told e { t with pages := pages } ∧
    (∀ k, Table.get none pages k = if k = slot then some r else pageOf t k) ∧ FirstGap slot lo (lo + plain.length) q l e

section
variable {slot lo : Nat} {plain : List Byte} {t u : State} {q r : Page} {l : List Plane} {n : Plane}

theorem Served.start (h : pageOf t slot = some q) : Served slot lo plain t q [] q t := by
  refine ⟨.start .., t.pages, none, rfl, fun k => ?_, fun _ => rfl, nofun⟩
  split
  · rename_i hk
    rw [hk]
    exact h
  · rfl

theorem Served.page (h : Served slot lo plain t q l r u) : pageOf u slot = some r := by
  obtain ⟨pages, e, rfl, hpages, -⟩ := h.told
  rw [told_setPages]
  exact (hpages slot).trans (if_pos rfl)

/-- The page's record set again. -/
theorem told_setPage {pages : Table (Option Page)} {x : Page} (e : Option Event)
    (hpages : ∀ k, Table.get none pages k = if k = slot then some r else pageOf t k) :
    setPage slot (some x) (Machine.told e { t with pages := pages }) = Machine.told e { t with pages := Table.set none pages slot (some x) } ∧
      ∀ k, Table.get none (Table.set none pages slot (some x)) k = if k = slot then some x else pageOf t k := by
  refine ⟨?_, fun k => ?_⟩
  · rw [told_setPages e t pages, told_setPages e t (Table.set none pages slot (some x))]
    rfl
  · rw [Table.get_set, hpages]
    by_cases hk : k = slot
    · rw [if_pos hk, if_pos hk.symm, if_pos hk]
    · rw [if_neg hk, if_neg (Ne.symm hk), if_neg hk]

/-- The first gap of a page posts its event, a later one nothing. -/
theorem Served.gapped (h : Served slot lo plain t q l r u) (hn : ∀ m, m ∈ l → m < n) (hgaps : q.gaps lo (lo + plain.length) n) :
    Served slot lo plain t q (l ++ [n]) { r with gapPosted := true } (noteGap slot r n (r.lower lo n) u) := by
  obtain ⟨hprogressed, pages, e, hu, hpages, hfirst⟩ := h
  refine ⟨hprogressed.gapped hgaps, ?_⟩
  have hsame : (∃ m, m ∈ l ++ [n] ∧ q.gaps lo (lo + plain.length) m) := ⟨n, by simp, hgaps⟩
  unfold noteGap
  cases hposted : r.gapPosted with
  | true =>
    rw [if_pos rfl]
    refine ⟨pages, e, hu, fun k => by rw [hpages, ← hposted], fun hnone => ?_, fun m hm hmgap hbelow hq => ?_⟩
    · refine hfirst.silent (hnone.imp_right fun hnone => absurd hgaps (hnone n (by simp)))
    · obtain hq' | ⟨k, hk, hkgap⟩ := hprogressed.gap.mp hposted
      · rw [hq] at hq'
        cases hq'
      · obtain hml | rfl : m ∈ l ∨ m = n := by simpa using hm
        · exact hfirst.first m hml hmgap (fun k hk => hbelow k (List.mem_append_left _ hk)) hq
        · exact absurd hkgap (hbelow k (List.mem_append_left _ hk) (hn k hk))
  | false =>
    rw [if_neg Bool.false_ne_true]
    have hnone : ¬ (q.gapPosted = true ∨ ∃ m, m ∈ l ∧ q.gaps lo (lo + plain.length) m) := fun hx => by
      rw [hprogressed.gap.mpr hx] at hposted
      cases hposted
    have he : e = none := hfirst.silent (.inr fun m hm hmgap => hnone (.inr ⟨m, hm, hmgap⟩))
    subst he
    obtain ⟨hset, hget⟩ := told_setPage (x := { r with gapPosted := true }) none hpages
    refine ⟨_, some (gapEvent slot lo q n), ?_, hget, fun hx => ?_, fun m hm hmgap _ _ => ?_⟩
    · have hwater : r.highWater.get n = q.highWater.get n := hprogressed.waterKept n fun hmem => absurd (hn n hmem) (lt_irrefl n)
      rw [hu, hset, gapEvent, ← hwater, hprogressed.rest]
      rfl
    · exact absurd (hx.resolve_right fun hall => hall n (by simp) hgaps) fun hq => hnone (.inl hq)
    · obtain hml | rfl : m ∈ l ∨ m = n := by simpa using hm
      · exact absurd (.inr ⟨m, hml, hmgap⟩) hnone
      · rfl

theorem FirstGap.append {hi : Nat} {e : Option Event} (h : FirstGap slot lo hi q l e) (hgaps : ¬ q.gaps lo hi n) : FirstGap slot lo hi q (l ++ [n]) e := by
  refine ⟨fun hx => h.silent (hx.imp_right fun hall m hm => hall m (List.mem_append_left _ hm)), fun m hm hmgap hbelow hq => ?_⟩
  obtain hml | rfl : m ∈ l ∨ m = n := by simpa using hm
  · exact h.first m hml hmgap (fun k hk => hbelow k (List.mem_append_left _ hk)) hq
  · exact absurd hmgap hgaps

/-- One plane more. -/
theorem Served.plane (h : Served slot lo plain t q l r u) (hn : ∀ m, m ∈ l → m < n) (hplane : n ∈ planesOf q.colour) :
    ∃ r', Served slot lo plain t q (l ++ [n]) r' (servePlane slot lo plain u n) := by
  have hnew : n ∉ l := fun hmem => lt_irrefl n (hn n hmem)
  have hprogressed := h.progressed
  have hpage := h.page
  by_cases hgaps : q.gaps lo (lo + plain.length) n
  · rw [servePlane_gaps hpage ((hprogressed.gaps_iff hnew _).mpr hgaps)]
    exact ⟨_, h.gapped hn hgaps⟩
  · obtain ⟨-, pages, e, hu, hpages, hfirst⟩ := h
    by_cases hraises : q.raises lo (lo + plain.length) n
    · refine ⟨_, hprogressed.straddled hnew hraises, ?_⟩
      obtain ⟨hset, hget⟩ := told_setPage (x := straddle r n (q.upper (lo + plain.length) n) (q.countedBytes lo plain n) t.time) e hpages
      refine ⟨_, e, ?_, hget, hfirst.append hgaps⟩
      have htime : u.time = t.time := by
        rw [hu]
        exact told_time ..
      have hwater := hprogressed.waterKept n fun hmem => absurd hmem hnew
      rw [servePlane_raises hpage ((hprogressed.raises_iff hnew _).mpr hraises), ← hset, ← hu, htime, Page.countedBytes, hwater, hprogressed.starts,
        Page.upper, Page.upper, hprogressed.starts, hprogressed.pixels]
    · rw [servePlane_same hpage (hprogressed.colour ▸ hplane) (mt (hprogressed.raises_iff hnew _).mp hraises) (mt (hprogressed.gaps_iff hnew _).mp hgaps)]
      exact ⟨r, hprogressed.same hraises hgaps, pages, e, hu, hpages, hfirst.append hgaps⟩

/-- The planes of a page, in the order K, C, M, Y. -/
theorem Served.planes (h : Served slot lo plain t q l r u) : ∀ {rest : List Plane}, (l ++ rest).Pairwise (· < ·) → (∀ n, n ∈ rest → n ∈ planesOf q.colour) →
    ∃ r', Served slot lo plain t q (l ++ rest) r' (rest.foldl (servePlane slot lo plain) u) := by
  intro rest
  induction rest generalizing l r u with
  | nil =>
    intro _ _
    rw [List.append_nil]
    exact ⟨r, h⟩
  | cons n rest ih =>
    intro hsorted hall
    have hbelow : ∀ m, m ∈ l → m < n := fun m hm => (List.pairwise_append.mp hsorted).2.2 m hm n (List.mem_cons_self ..)
    obtain ⟨r', hplane⟩ := h.plane hbelow (hall n (List.mem_cons_self ..))
    rw [List.foldl_cons, List.append_cons]
    exact ih hplane (List.append_cons l n rest ▸ hsorted) fun m hm => hall m (List.mem_cons_of_mem _ hm)

theorem planesOf_sorted (c : Colour) : (planesOf c).Pairwise (· < ·) := by cases c <;> decide

theorem served_planes (h : pageOf t slot = some q) :
    ∃ r, Served slot lo plain t q (planesOf q.colour) r ((planesOf q.colour).foldl (servePlane slot lo plain) t) :=
  (Served.start h).planes (planesOf_sorted _) fun _ hn => hn

end

/-! ## The answer's bytes (R32, R71, R74) -/

theorem servedAsData_iff (q : Page) (lo hi x : Nat) : servedAsData q lo hi x = true ↔
    q.isPrinting = true ∧ ∃ n, q.meets lo hi n ∧ q.lower lo n ≤ q.highWater.get n ∧ q.starts.get n + q.lower lo n ≤ x ∧ x < q.starts.get n + q.upper hi n := by
  rw [servedAsData, Bool.and_eq_true, List.any_eq_true]
  refine and_congr_right fun _ => ⟨?_, ?_⟩
  · rintro ⟨n, hn, hdata⟩
    by_cases hmeets : q.meets lo hi n
    · rw [portion_of_meets hmeets] at hdata
      exact ⟨n, hmeets, by simpa [and_assoc] using hdata⟩
    · rw [portion_of_not_meets hn hmeets] at hdata
      cases hdata
  · rintro ⟨n, hmeets, hdata⟩
    refine ⟨n, hmeets.mem, ?_⟩
    rw [portion_of_meets hmeets]
    simpa [and_assoc] using hdata

theorem getD_printBytes (q : Page) (lo : Nat) (plain : List Byte) {i : Nat} (hi : i < plain.length) :
    (printBytes q lo plain).getD i 0 = if servedAsData q lo (lo + plain.length) (lo + i) then plain.getD i 0 else 0 := by
  simp [printBytes, List.getD_eq_getElem?_getD, hi]

/-! ## The hand-off (R32, R67 to R75) -/

theorem liveFor_eq_some {s : State} {slot j : Nat} {g : Index} {p : Page} :
    liveFor s slot j g = some p ↔ pageOf s slot = some p ∧ p.job = j ∧ p.generation = g := by
  rw [liveFor, Option.bind_eq_some_iff]
  constructor
  · rintro ⟨q, hq, hx⟩
    split at hx
    · rename_i hlive
      cases hx
      exact ⟨hq, hlive⟩
    · cases hx
  · rintro ⟨hp, hlive⟩
    exact ⟨p, hp, if_pos hlive⟩

/-- A read of a live page's bytes: its admission, its planes in turn, and the test of completion. -/
theorem takePrintRead_eq {slot j lo : Nat} {g : Index} {plain : List Byte} {p q : Page} {s : State} (hlive : liveFor s slot j g = some p)
    (hmeets : ∃ n, p.meets lo (lo + plain.length) n) (hq : pageOf (takeAdmission slot p s) slot = some q) :
    takePrintRead slot j g lo plain s =
      (testComplete slot ((planesOf q.colour).foldl (servePlane slot lo plain) (takeAdmission slot p s)), printBytes q lo plain) := by
  unfold takePrintRead
  rw [hlive]
  dsimp only
  rw [if_pos ((touches_iff ..).mpr hmeets), hq]

theorem filter_of_touches {k : List Aspect} {s t : State} (h : Touches k s t) (hk : apart [.service, .shadows, .linkAnswer] k = true := by decide +kernel) :
    t.filter = s.filter := by
  have happart : ∀ f ∈ [Aspect.service, .shadows, .linkAnswer], f ∉ k := fun f hf => of_decide_eq_true (List.all_eq_true.mp hk f hf)
  have hservice : t.filter.service = s.filter.service := h.same .service (happart _ (by decide))
  have hshadows : (t.filter.postShadow, t.filter.consumeShadow) = (s.filter.postShadow, s.filter.consumeShadow) := h.same .shadows (happart _ (by decide))
  have hanswer : t.filter.answer = s.filter.answer := h.same .linkAnswer (happart _ (by decide))
  obtain ⟨hpost, hconsume⟩ := Prod.mk.inj hshadows
  revert hservice hanswer hpost hconsume
  cases t.filter
  cases s.filter
  rintro ⟨⟩ ⟨⟩ ⟨⟩ ⟨⟩
  rfl

theorem inPrint_takeAdmission {slot : Nat} {p q : Page} {s : State} (h : pageOf (takeAdmission slot p s) slot = some q) (hp : pageOf s slot = some p) :
    q.inPrint = true := by
  unfold takeAdmission at h
  split at h
  · rename_i hprint
    rw [hp] at h
    cases h
    exact hprint
  · split at h
    · have hwithheld : ∀ reason, pageOf (withholdPage slot p reason s) slot = some { p with state := .withheld reason s.time } := fun reason => by
        rw [withholdPage, pageOf_of_touches (postEvent_touches ..), pageOf_of_touches (releaseTicket_touches ..), pageOf_setPage, if_pos rfl]
      rw [hwithheld] at h
      cases h
      rfl
    · rw [pageOf_admitPage, if_pos rfl] at h
      cases h
      unfold admittedState
      cases hstate : p.state <;> rfl

end Sys2Proof.Machine

namespace Sys2Proof.Proofs

open Sys2Proof.Machine

/-- Settles O18: the level sums by the pixels, and a METERED read by its planes in turn. -/
theorem printReadServed : Obligations.PrintReadServed := by
  unfold Obligations.PrintReadServed
  refine ⟨fun pixels offset bytes _ hfits => countedSum_eq pixels bytes offset hfits, ?_⟩
  intro s v slot j g plain hv hpost hconsume hread hview hslot hjob hgeneration hplain lo hi base ends meets
  have hends : ∀ u bytes, takePrintRead slot j g lo plain base = (u, bytes) → ends u bytes := fun u bytes htaken => by
    have hfilter : u.filter = s.filter := by
      have hsame := filter_of_touches (takePrintRead_touches base slot j g lo plain)
      rw [htaken] at hsame
      exact hsame
    have hunder : readUnder v (portRead s v.part.addr v.part.size) base = (u, bytes) := by
      simp only [readUnder, hview, hslot, hjob, hgeneration, Option.getD_some, ← hplain]
      exact htaken
    show exec .linkAccessPerformed s = _
    rw [exec_linkPerformed hv, linkPerformed]
    dsimp only
    rw [hunder, endService_eq hpost hconsume, hread, ← hfilter]
    rfl
  have hfill : (plain.map fun _ => (0 : Byte)) = List.replicate plain.length 0 := by simp
  refine ⟨fun hnone => hends _ _ ?_, fun p q hpage hpj hpg ⟨n, hn⟩ hq => ?_⟩
  · unfold takePrintRead
    cases hlive : liveFor base slot j g with
    | none => exact Prod.ext rfl hfill
    | some p =>
      obtain ⟨hpage, hpj, hpg⟩ := liveFor_eq_some.mp hlive
      have hmeets : p.touches lo (lo + plain.length) = false := by
        rw [← Bool.not_eq_true, touches_iff]
        exact fun ⟨n, hn⟩ => hnone p hpage hpj hpg n hn
      dsimp only
      rw [hmeets, if_neg Bool.false_ne_true, hfill]
  · intro a b raises gaps
    have hlive : liveFor base slot j g = some p := liveFor_eq_some.mpr ⟨hpage, hpj, hpg⟩
    obtain ⟨r, hserved⟩ := served_planes (lo := lo) (plain := plain) hq
    have hafter := hserved.page
    obtain ⟨hprogressed, pages, e, hu, hpages, hfirst⟩ := hserved
    have htime : (takeAdmission slot p base).time = s.time := (takeAdmission_touches base slot p).at .time
    have hmem : ∀ n, raises n → n ∈ planesOf q.colour := fun n hn => Page.meets.mem hn.1
    have hgapmem : ∀ n, gaps n → n ∈ planesOf q.colour := fun n hn => Page.meets.mem (lo := lo) (hi := hi) hn.1
    refine ⟨r, pages, told e { takeAdmission slot p base with pages := pages }, printBytes q lo plain, hprogressed.rest,
      fun n => ⟨fun hr => hprogressed.raised n (hmem n hr) hr, fun hr => hprogressed.waterKept n fun _ => hr⟩,
      fun n => ⟨fun hr => hprogressed.counted n (hmem n hr) hr, fun hr => hprogressed.sumsKept n (hr.imp_left fun hr _ => hr)⟩,
      fun ⟨n, hn⟩ => ?_, fun hr => hprogressed.stateKept fun n _ => hr n, ?_, hpages, ⟨fun hsilent => ?_, fun n hn hbelow hposted => ?_⟩,
      by simp [printBytes], fun i hi => ?_, ?_⟩
    · rw [hprogressed.progressed ⟨n, hmem n hn, hn⟩, htime]
      cases q.state <;> rfl
    · rw [hprogressed.gap]
      exact or_congr_right (exists_congr fun n => ⟨fun h => h.2, fun h => ⟨hgapmem n h, h⟩⟩)
    · rw [hfirst.silent (hsilent.imp_right fun h n _ => h n)]
      rfl
    · rw [hfirst.first n (hgapmem n hn) hn (fun m _ hm => hbelow m hm) hposted]
      rfl
    · rw [getD_printBytes q lo plain hi]
      have hdata := servedAsData_iff q lo (lo + plain.length) (lo + i)
      exact ⟨fun h => if_pos (hdata.mpr h), fun h => if_neg fun hx => h (hdata.mp hx)⟩
    · intro complete
      have hcomplete : r.complete = true ↔ complete := by
        rw [Page.complete, List.all_eq_true, hprogressed.colour, Page.length, hprogressed.pixels]
        simp only [decide_eq_true_eq, mem_planesOf_iff]
        rfl
      have hprint : r.inPrint = true := hprogressed.inPrint.trans (inPrint_takeAdmission hq hpage)
      have htaken : takePrintRead slot j g lo plain base =
          (if r.complete = true then settleEnding slot .printed (told e { takeAdmission slot p base with pages := pages })
            else told e { takeAdmission slot p base with pages := pages }, printBytes q lo plain) := by
        rw [← hu, takePrintRead_eq hlive ⟨n, hn⟩ hq, testComplete, hafter]
        dsimp only
        rw [hprint, Bool.true_and]
      exact ⟨fun h => hends _ _ (htaken.trans (by rw [if_pos (hcomplete.mpr h)])), fun h => hends _ _ (htaken.trans (by rw [if_neg (mt hcomplete.mp h)]))⟩

end Sys2Proof.Proofs
end
